-- ==== Sys2Proof/Word.lean ====
section
/-!
DEFINITION. The word types of the machine (spec/00_scope.md R17, spec/10_state.md R30). A general register,
the program counter and a floating-point register are held in 64 bits; what LA32 makes of that container is in
Sys2Proof/Machine/Ops.lean. Memory keys are plain natural numbers, made from a computed address by `BitVec.toNat`.
-/

namespace Sys2Proof

/-- A doubleword: the container of a general register, an address, an FR. -/
abbrev Word := BitVec 64

/-- One byte (spec/00_scope.md R17). -/
abbrev Byte := BitVec 8

/-- A register number as an instruction holds it (spec/30_encoding.md R331). -/
abbrev Reg := BitVec 5

/-- The 0/1 result of an integer comparison, as a doubleword. -/
def Word.ofBool (b : Bool) : Word := if b then 1#64 else 0#64

end Sys2Proof
end

