-- ==== Sys2Proof/Syntax.lean ====
section
/-!
DEFINITION. The instructions: one constructor for every row of spec/opcode_table.json, in the table's
order, its operands as the encoding holds them (spec/30_encoding.md R331, R334): register numbers are
5-bit fields, condition-flag numbers 3-bit fields, immediates the bits as encoded, not extended or
shifted. The two halves of a 21-bit or 26-bit branch offset are one operand (R334).
-/

namespace Sys2Proof

/-- One instruction of LoongArch Volume 1. -/
inductive Instr where
  /-- `add.w`, R401. -/
  | addW (rd : BitVec 5) (rj : BitVec 5) (rk : BitVec 5)
  /-- `sub.w`, R403. -/
  | subW (rd : BitVec 5) (rj : BitVec 5) (rk : BitVec 5)
  /-- `add.d`, R402. -/
  | addD (rd : BitVec 5) (rj : BitVec 5) (rk : BitVec 5)
  /-- `sub.d`, R404. -/
  | subD (rd : BitVec 5) (rj : BitVec 5) (rk : BitVec 5)
  /-- `addi.w`, R405. -/
  | addiW (rd : BitVec 5) (rj : BitVec 5) (i12 : BitVec 12)
  /-- `addi.d`, R406. -/
  | addiD (rd : BitVec 5) (rj : BitVec 5) (i12 : BitVec 12)
  /-- `addu16i.d`, R407. -/
  | addu16iD (rd : BitVec 5) (rj : BitVec 5) (i16 : BitVec 16)
  /-- `alsl.w`, R408. -/
  | alslW (rd : BitVec 5) (rj : BitVec 5) (rk : BitVec 5) (sa2 : BitVec 2)
  /-- `alsl.wu`, R409. -/
  | alslWu (rd : BitVec 5) (rj : BitVec 5) (rk : BitVec 5) (sa2 : BitVec 2)
  /-- `alsl.d`, R410. -/
  | alslD (rd : BitVec 5) (rj : BitVec 5) (rk : BitVec 5) (sa2 : BitVec 2)
  /-- `lu12i.w`, R411. -/
  | lu12iW (rd : BitVec 5) (si20 : BitVec 20)
  /-- `lu32i.d`, R412. -/
  | lu32iD (rd : BitVec 5) (si20 : BitVec 20)
  /-- `lu52i.d`, R413. -/
  | lu52iD (rd : BitVec 5) (rj : BitVec 5) (i12 : BitVec 12)
  /-- `slt`, R414. -/
  | slt (rd : BitVec 5) (rj : BitVec 5) (rk : BitVec 5)
  /-- `sltu`, R415. -/
  | sltu (rd : BitVec 5) (rj : BitVec 5) (rk : BitVec 5)
  /-- `slti`, R416. -/
  | slti (rd : BitVec 5) (rj : BitVec 5) (i12 : BitVec 12)
  /-- `sltui`, R417. -/
  | sltui (rd : BitVec 5) (rj : BitVec 5) (i12 : BitVec 12)
  /-- `pcaddi`, R418. -/
  | pcaddi (rd : BitVec 5) (si20 : BitVec 20)
  /-- `pcaddu12i`, R419. -/
  | pcaddu12i (rd : BitVec 5) (si20 : BitVec 20)
  /-- `pcaddu18i`, R420. -/
  | pcaddu18i (rd : BitVec 5) (si20 : BitVec 20)
  /-- `pcalau12i`, R421. -/
  | pcalau12i (rd : BitVec 5) (si20 : BitVec 20)
  /-- `and`, R422. -/
  | and (rd : BitVec 5) (rj : BitVec 5) (rk : BitVec 5)
  /-- `or`, R423. -/
  | or (rd : BitVec 5) (rj : BitVec 5) (rk : BitVec 5)
  /-- `nor`, R424. -/
  | nor (rd : BitVec 5) (rj : BitVec 5) (rk : BitVec 5)
  /-- `xor`, R425. -/
  | xor (rd : BitVec 5) (rj : BitVec 5) (rk : BitVec 5)
  /-- `andn`, R426. -/
  | andn (rd : BitVec 5) (rj : BitVec 5) (rk : BitVec 5)
  /-- `orn`, R427. -/
  | orn (rd : BitVec 5) (rj : BitVec 5) (rk : BitVec 5)
  /-- `andi`, R428. -/
  | andi (rd : BitVec 5) (rj : BitVec 5) (i12 : BitVec 12)
  /-- `ori`, R429. -/
  | ori (rd : BitVec 5) (rj : BitVec 5) (i12 : BitVec 12)
  /-- `xori`, R430. -/
  | xori (rd : BitVec 5) (rj : BitVec 5) (i12 : BitVec 12)
  /-- `mul.w`, R432. -/
  | mulW (rd : BitVec 5) (rj : BitVec 5) (rk : BitVec 5)
  /-- `mulh.w`, R434. -/
  | mulhW (rd : BitVec 5) (rj : BitVec 5) (rk : BitVec 5)
  /-- `mulh.wu`, R435. -/
  | mulhWu (rd : BitVec 5) (rj : BitVec 5) (rk : BitVec 5)
  /-- `mul.d`, R433. -/
  | mulD (rd : BitVec 5) (rj : BitVec 5) (rk : BitVec 5)
  /-- `mulh.d`, R436. -/
  | mulhD (rd : BitVec 5) (rj : BitVec 5) (rk : BitVec 5)
  /-- `mulh.du`, R437. -/
  | mulhDu (rd : BitVec 5) (rj : BitVec 5) (rk : BitVec 5)
  /-- `mulw.d.w`, R438. -/
  | mulwDW (rd : BitVec 5) (rj : BitVec 5) (rk : BitVec 5)
  /-- `mulw.d.wu`, R439. -/
  | mulwDWu (rd : BitVec 5) (rj : BitVec 5) (rk : BitVec 5)
  /-- `div.w`, R441. -/
  | divW (rd : BitVec 5) (rj : BitVec 5) (rk : BitVec 5)
  /-- `mod.w`, R442. -/
  | modW (rd : BitVec 5) (rj : BitVec 5) (rk : BitVec 5)
  /-- `div.wu`, R443. -/
  | divWu (rd : BitVec 5) (rj : BitVec 5) (rk : BitVec 5)
  /-- `mod.wu`, R444. -/
  | modWu (rd : BitVec 5) (rj : BitVec 5) (rk : BitVec 5)
  /-- `div.d`, R445. -/
  | divD (rd : BitVec 5) (rj : BitVec 5) (rk : BitVec 5)
  /-- `mod.d`, R446. -/
  | modD (rd : BitVec 5) (rj : BitVec 5) (rk : BitVec 5)
  /-- `div.du`, R447. -/
  | divDu (rd : BitVec 5) (rj : BitVec 5) (rk : BitVec 5)
  /-- `mod.du`, R448. -/
  | modDu (rd : BitVec 5) (rj : BitVec 5) (rk : BitVec 5)
  /-- `sll.w`, R451. -/
  | sllW (rd : BitVec 5) (rj : BitVec 5) (rk : BitVec 5)
  /-- `srl.w`, R452. -/
  | srlW (rd : BitVec 5) (rj : BitVec 5) (rk : BitVec 5)
  /-- `sra.w`, R453. -/
  | sraW (rd : BitVec 5) (rj : BitVec 5) (rk : BitVec 5)
  /-- `rotr.w`, R454. -/
  | rotrW (rd : BitVec 5) (rj : BitVec 5) (rk : BitVec 5)
  /-- `slli.w`, R455. -/
  | slliW (rd : BitVec 5) (rj : BitVec 5) (ui5 : BitVec 5)
  /-- `srli.w`, R456. -/
  | srliW (rd : BitVec 5) (rj : BitVec 5) (ui5 : BitVec 5)
  /-- `srai.w`, R457. -/
  | sraiW (rd : BitVec 5) (rj : BitVec 5) (ui5 : BitVec 5)
  /-- `rotri.w`, R458. -/
  | rotriW (rd : BitVec 5) (rj : BitVec 5) (ui5 : BitVec 5)
  /-- `sll.d`, R459. -/
  | sllD (rd : BitVec 5) (rj : BitVec 5) (rk : BitVec 5)
  /-- `srl.d`, R460. -/
  | srlD (rd : BitVec 5) (rj : BitVec 5) (rk : BitVec 5)
  /-- `sra.d`, R461. -/
  | sraD (rd : BitVec 5) (rj : BitVec 5) (rk : BitVec 5)
  /-- `rotr.d`, R462. -/
  | rotrD (rd : BitVec 5) (rj : BitVec 5) (rk : BitVec 5)
  /-- `slli.d`, R463. -/
  | slliD (rd : BitVec 5) (rj : BitVec 5) (ui6 : BitVec 6)
  /-- `srli.d`, R464. -/
  | srliD (rd : BitVec 5) (rj : BitVec 5) (ui6 : BitVec 6)
  /-- `srai.d`, R465. -/
  | sraiD (rd : BitVec 5) (rj : BitVec 5) (ui6 : BitVec 6)
  /-- `rotri.d`, R466. -/
  | rotriD (rd : BitVec 5) (rj : BitVec 5) (ui6 : BitVec 6)
  /-- `ext.w.b`, R467. -/
  | extWB (rd : BitVec 5) (rj : BitVec 5)
  /-- `ext.w.h`, R468. -/
  | extWH (rd : BitVec 5) (rj : BitVec 5)
  /-- `clo.w`, R469. -/
  | cloW (rd : BitVec 5) (rj : BitVec 5)
  /-- `clz.w`, R470. -/
  | clzW (rd : BitVec 5) (rj : BitVec 5)
  /-- `cto.w`, R471. -/
  | ctoW (rd : BitVec 5) (rj : BitVec 5)
  /-- `ctz.w`, R472. -/
  | ctzW (rd : BitVec 5) (rj : BitVec 5)
  /-- `clo.d`, R473. -/
  | cloD (rd : BitVec 5) (rj : BitVec 5)
  /-- `clz.d`, R474. -/
  | clzD (rd : BitVec 5) (rj : BitVec 5)
  /-- `cto.d`, R475. -/
  | ctoD (rd : BitVec 5) (rj : BitVec 5)
  /-- `ctz.d`, R476. -/
  | ctzD (rd : BitVec 5) (rj : BitVec 5)
  /-- `bytepick.w`, R477. -/
  | bytepickW (rd : BitVec 5) (rj : BitVec 5) (rk : BitVec 5) (sa2 : BitVec 2)
  /-- `bytepick.d`, R478. -/
  | bytepickD (rd : BitVec 5) (rj : BitVec 5) (rk : BitVec 5) (sa3 : BitVec 3)
  /-- `revb.2h`, R479. -/
  | revb2h (rd : BitVec 5) (rj : BitVec 5)
  /-- `revb.4h`, R480. -/
  | revb4h (rd : BitVec 5) (rj : BitVec 5)
  /-- `revb.2w`, R481. -/
  | revb2w (rd : BitVec 5) (rj : BitVec 5)
  /-- `revb.d`, R482. -/
  | revbD (rd : BitVec 5) (rj : BitVec 5)
  /-- `revh.2w`, R483. -/
  | revh2w (rd : BitVec 5) (rj : BitVec 5)
  /-- `revh.d`, R484. -/
  | revhD (rd : BitVec 5) (rj : BitVec 5)
  /-- `bitrev.4b`, R485. -/
  | bitrev4b (rd : BitVec 5) (rj : BitVec 5)
  /-- `bitrev.8b`, R486. -/
  | bitrev8b (rd : BitVec 5) (rj : BitVec 5)
  /-- `bitrev.w`, R487. -/
  | bitrevW (rd : BitVec 5) (rj : BitVec 5)
  /-- `bitrev.d`, R488. -/
  | bitrevD (rd : BitVec 5) (rj : BitVec 5)
  /-- `bstrins.w`, R489. -/
  | bstrinsW (rd : BitVec 5) (rj : BitVec 5) (lsbw : BitVec 5) (msbw : BitVec 5)
  /-- `bstrins.d`, R490. -/
  | bstrinsD (rd : BitVec 5) (rj : BitVec 5) (lsbd : BitVec 6) (msbd : BitVec 6)
  /-- `bstrpick.w`, R491. -/
  | bstrpickW (rd : BitVec 5) (rj : BitVec 5) (lsbw : BitVec 5) (msbw : BitVec 5)
  /-- `bstrpick.d`, R492. -/
  | bstrpickD (rd : BitVec 5) (rj : BitVec 5) (lsbd : BitVec 6) (msbd : BitVec 6)
  /-- `maskeqz`, R493. -/
  | maskeqz (rd : BitVec 5) (rj : BitVec 5) (rk : BitVec 5)
  /-- `masknez`, R494. -/
  | masknez (rd : BitVec 5) (rj : BitVec 5) (rk : BitVec 5)
  /-- `beq`, R501. -/
  | beq (rd : BitVec 5) (rj : BitVec 5) (i16 : BitVec 16)
  /-- `bne`, R502. -/
  | bne (rd : BitVec 5) (rj : BitVec 5) (i16 : BitVec 16)
  /-- `blt`, R503. -/
  | blt (rd : BitVec 5) (rj : BitVec 5) (i16 : BitVec 16)
  /-- `bge`, R504. -/
  | bge (rd : BitVec 5) (rj : BitVec 5) (i16 : BitVec 16)
  /-- `bltu`, R505. -/
  | bltu (rd : BitVec 5) (rj : BitVec 5) (i16 : BitVec 16)
  /-- `bgeu`, R506. -/
  | bgeu (rd : BitVec 5) (rj : BitVec 5) (i16 : BitVec 16)
  /-- `beqz`, R507. -/
  | beqz (rj : BitVec 5) (offs : BitVec 21)
  /-- `bnez`, R508. -/
  | bnez (rj : BitVec 5) (offs : BitVec 21)
  /-- `b`, R509. -/
  | b (offs : BitVec 26)
  /-- `bl`, R510. -/
  | bl (offs : BitVec 26)
  /-- `jirl`, R511. -/
  | jirl (rd : BitVec 5) (rj : BitVec 5) (i16 : BitVec 16)
  /-- `ld.b`, R521. -/
  | ldB (rd : BitVec 5) (rj : BitVec 5) (i12 : BitVec 12)
  /-- `ld.h`, R522. -/
  | ldH (rd : BitVec 5) (rj : BitVec 5) (i12 : BitVec 12)
  /-- `ld.w`, R523. -/
  | ldW (rd : BitVec 5) (rj : BitVec 5) (i12 : BitVec 12)
  /-- `ld.d`, R524. -/
  | ldD (rd : BitVec 5) (rj : BitVec 5) (i12 : BitVec 12)
  /-- `ld.bu`, R525. -/
  | ldBu (rd : BitVec 5) (rj : BitVec 5) (i12 : BitVec 12)
  /-- `ld.hu`, R526. -/
  | ldHu (rd : BitVec 5) (rj : BitVec 5) (i12 : BitVec 12)
  /-- `ld.wu`, R527. -/
  | ldWu (rd : BitVec 5) (rj : BitVec 5) (i12 : BitVec 12)
  /-- `st.b`, R528. -/
  | stB (rd : BitVec 5) (rj : BitVec 5) (i12 : BitVec 12)
  /-- `st.h`, R529. -/
  | stH (rd : BitVec 5) (rj : BitVec 5) (i12 : BitVec 12)
  /-- `st.w`, R530. -/
  | stW (rd : BitVec 5) (rj : BitVec 5) (i12 : BitVec 12)
  /-- `st.d`, R531. -/
  | stD (rd : BitVec 5) (rj : BitVec 5) (i12 : BitVec 12)
  /-- `ldx.b`, R532. -/
  | ldxB (rd : BitVec 5) (rj : BitVec 5) (rk : BitVec 5)
  /-- `ldx.h`, R533. -/
  | ldxH (rd : BitVec 5) (rj : BitVec 5) (rk : BitVec 5)
  /-- `ldx.w`, R534. -/
  | ldxW (rd : BitVec 5) (rj : BitVec 5) (rk : BitVec 5)
  /-- `ldx.d`, R535. -/
  | ldxD (rd : BitVec 5) (rj : BitVec 5) (rk : BitVec 5)
  /-- `ldx.bu`, R536. -/
  | ldxBu (rd : BitVec 5) (rj : BitVec 5) (rk : BitVec 5)
  /-- `ldx.hu`, R537. -/
  | ldxHu (rd : BitVec 5) (rj : BitVec 5) (rk : BitVec 5)
  /-- `ldx.wu`, R538. -/
  | ldxWu (rd : BitVec 5) (rj : BitVec 5) (rk : BitVec 5)
  /-- `stx.b`, R539. -/
  | stxB (rd : BitVec 5) (rj : BitVec 5) (rk : BitVec 5)
  /-- `stx.h`, R540. -/
  | stxH (rd : BitVec 5) (rj : BitVec 5) (rk : BitVec 5)
  /-- `stx.w`, R541. -/
  | stxW (rd : BitVec 5) (rj : BitVec 5) (rk : BitVec 5)
  /-- `stx.d`, R542. -/
  | stxD (rd : BitVec 5) (rj : BitVec 5) (rk : BitVec 5)
  /-- `ldptr.w`, R543. -/
  | ldptrW (rd : BitVec 5) (rj : BitVec 5) (i14 : BitVec 14)
  /-- `ldptr.d`, R544. -/
  | ldptrD (rd : BitVec 5) (rj : BitVec 5) (i14 : BitVec 14)
  /-- `stptr.w`, R545. -/
  | stptrW (rd : BitVec 5) (rj : BitVec 5) (i14 : BitVec 14)
  /-- `stptr.d`, R546. -/
  | stptrD (rd : BitVec 5) (rj : BitVec 5) (i14 : BitVec 14)
  /-- `preld`, R547. -/
  | preld (hint : BitVec 5) (rj : BitVec 5) (i12 : BitVec 12)
  /-- `preldx`, R548. -/
  | preldx (hint : BitVec 5) (rj : BitVec 5) (rk : BitVec 5)
  /-- `ldgt.b`, R551. -/
  | ldgtB (rd : BitVec 5) (rj : BitVec 5) (rk : BitVec 5)
  /-- `ldgt.h`, R552. -/
  | ldgtH (rd : BitVec 5) (rj : BitVec 5) (rk : BitVec 5)
  /-- `ldgt.w`, R553. -/
  | ldgtW (rd : BitVec 5) (rj : BitVec 5) (rk : BitVec 5)
  /-- `ldgt.d`, R554. -/
  | ldgtD (rd : BitVec 5) (rj : BitVec 5) (rk : BitVec 5)
  /-- `ldle.b`, R555. -/
  | ldleB (rd : BitVec 5) (rj : BitVec 5) (rk : BitVec 5)
  /-- `ldle.h`, R556. -/
  | ldleH (rd : BitVec 5) (rj : BitVec 5) (rk : BitVec 5)
  /-- `ldle.w`, R557. -/
  | ldleW (rd : BitVec 5) (rj : BitVec 5) (rk : BitVec 5)
  /-- `ldle.d`, R558. -/
  | ldleD (rd : BitVec 5) (rj : BitVec 5) (rk : BitVec 5)
  /-- `stgt.b`, R559. -/
  | stgtB (rd : BitVec 5) (rj : BitVec 5) (rk : BitVec 5)
  /-- `stgt.h`, R560. -/
  | stgtH (rd : BitVec 5) (rj : BitVec 5) (rk : BitVec 5)
  /-- `stgt.w`, R561. -/
  | stgtW (rd : BitVec 5) (rj : BitVec 5) (rk : BitVec 5)
  /-- `stgt.d`, R562. -/
  | stgtD (rd : BitVec 5) (rj : BitVec 5) (rk : BitVec 5)
  /-- `stle.b`, R563. -/
  | stleB (rd : BitVec 5) (rj : BitVec 5) (rk : BitVec 5)
  /-- `stle.h`, R564. -/
  | stleH (rd : BitVec 5) (rj : BitVec 5) (rk : BitVec 5)
  /-- `stle.w`, R565. -/
  | stleW (rd : BitVec 5) (rj : BitVec 5) (rk : BitVec 5)
  /-- `stle.d`, R566. -/
  | stleD (rd : BitVec 5) (rj : BitVec 5) (rk : BitVec 5)
  /-- `amswap.w`, R920. -/
  | amswapW (rd : BitVec 5) (rj : BitVec 5) (rk : BitVec 5)
  /-- `amswap.d`, R921. -/
  | amswapD (rd : BitVec 5) (rj : BitVec 5) (rk : BitVec 5)
  /-- `amadd.w`, R922. -/
  | amaddW (rd : BitVec 5) (rj : BitVec 5) (rk : BitVec 5)
  /-- `amadd.d`, R923. -/
  | amaddD (rd : BitVec 5) (rj : BitVec 5) (rk : BitVec 5)
  /-- `amand.w`, R924. -/
  | amandW (rd : BitVec 5) (rj : BitVec 5) (rk : BitVec 5)
  /-- `amand.d`, R925. -/
  | amandD (rd : BitVec 5) (rj : BitVec 5) (rk : BitVec 5)
  /-- `amor.w`, R926. -/
  | amorW (rd : BitVec 5) (rj : BitVec 5) (rk : BitVec 5)
  /-- `amor.d`, R927. -/
  | amorD (rd : BitVec 5) (rj : BitVec 5) (rk : BitVec 5)
  /-- `amxor.w`, R928. -/
  | amxorW (rd : BitVec 5) (rj : BitVec 5) (rk : BitVec 5)
  /-- `amxor.d`, R929. -/
  | amxorD (rd : BitVec 5) (rj : BitVec 5) (rk : BitVec 5)
  /-- `ammax.w`, R930. -/
  | ammaxW (rd : BitVec 5) (rj : BitVec 5) (rk : BitVec 5)
  /-- `ammax.d`, R931. -/
  | ammaxD (rd : BitVec 5) (rj : BitVec 5) (rk : BitVec 5)
  /-- `ammin.w`, R932. -/
  | amminW (rd : BitVec 5) (rj : BitVec 5) (rk : BitVec 5)
  /-- `ammin.d`, R933. -/
  | amminD (rd : BitVec 5) (rj : BitVec 5) (rk : BitVec 5)
  /-- `ammax.wu`, R934. -/
  | ammaxWu (rd : BitVec 5) (rj : BitVec 5) (rk : BitVec 5)
  /-- `ammax.du`, R935. -/
  | ammaxDu (rd : BitVec 5) (rj : BitVec 5) (rk : BitVec 5)
  /-- `ammin.wu`, R936. -/
  | amminWu (rd : BitVec 5) (rj : BitVec 5) (rk : BitVec 5)
  /-- `ammin.du`, R937. -/
  | amminDu (rd : BitVec 5) (rj : BitVec 5) (rk : BitVec 5)
  /-- `amswap_db.w`, R938. -/
  | amswapDbW (rd : BitVec 5) (rj : BitVec 5) (rk : BitVec 5)
  /-- `amswap_db.d`, R939. -/
  | amswapDbD (rd : BitVec 5) (rj : BitVec 5) (rk : BitVec 5)
  /-- `amadd_db.w`, R940. -/
  | amaddDbW (rd : BitVec 5) (rj : BitVec 5) (rk : BitVec 5)
  /-- `amadd_db.d`, R941. -/
  | amaddDbD (rd : BitVec 5) (rj : BitVec 5) (rk : BitVec 5)
  /-- `amand_db.w`, R942. -/
  | amandDbW (rd : BitVec 5) (rj : BitVec 5) (rk : BitVec 5)
  /-- `amand_db.d`, R943. -/
  | amandDbD (rd : BitVec 5) (rj : BitVec 5) (rk : BitVec 5)
  /-- `amor_db.w`, R944. -/
  | amorDbW (rd : BitVec 5) (rj : BitVec 5) (rk : BitVec 5)
  /-- `amor_db.d`, R945. -/
  | amorDbD (rd : BitVec 5) (rj : BitVec 5) (rk : BitVec 5)
  /-- `amxor_db.w`, R946. -/
  | amxorDbW (rd : BitVec 5) (rj : BitVec 5) (rk : BitVec 5)
  /-- `amxor_db.d`, R947. -/
  | amxorDbD (rd : BitVec 5) (rj : BitVec 5) (rk : BitVec 5)
  /-- `ammax_db.w`, R948. -/
  | ammaxDbW (rd : BitVec 5) (rj : BitVec 5) (rk : BitVec 5)
  /-- `ammax_db.d`, R949. -/
  | ammaxDbD (rd : BitVec 5) (rj : BitVec 5) (rk : BitVec 5)
  /-- `ammin_db.w`, R950. -/
  | amminDbW (rd : BitVec 5) (rj : BitVec 5) (rk : BitVec 5)
  /-- `ammin_db.d`, R951. -/
  | amminDbD (rd : BitVec 5) (rj : BitVec 5) (rk : BitVec 5)
  /-- `ammax_db.wu`, R952. -/
  | ammaxDbWu (rd : BitVec 5) (rj : BitVec 5) (rk : BitVec 5)
  /-- `ammax_db.du`, R953. -/
  | ammaxDbDu (rd : BitVec 5) (rj : BitVec 5) (rk : BitVec 5)
  /-- `ammin_db.wu`, R954. -/
  | amminDbWu (rd : BitVec 5) (rj : BitVec 5) (rk : BitVec 5)
  /-- `ammin_db.du`, R955. -/
  | amminDbDu (rd : BitVec 5) (rj : BitVec 5) (rk : BitVec 5)
  /-- `ll.w`, R591. -/
  | llW (rd : BitVec 5) (rj : BitVec 5) (i14 : BitVec 14)
  /-- `sc.w`, R593. -/
  | scW (rd : BitVec 5) (rj : BitVec 5) (i14 : BitVec 14)
  /-- `ll.d`, R592. -/
  | llD (rd : BitVec 5) (rj : BitVec 5) (i14 : BitVec 14)
  /-- `sc.d`, R594. -/
  | scD (rd : BitVec 5) (rj : BitVec 5) (i14 : BitVec 14)
  /-- `dbar`, R596. -/
  | dbar (code : BitVec 15)
  /-- `ibar`, R597. -/
  | ibar (code : BitVec 15)
  /-- `crc.w.b.w`, R601. -/
  | crcWBW (rd : BitVec 5) (rj : BitVec 5) (rk : BitVec 5)
  /-- `crc.w.h.w`, R602. -/
  | crcWHW (rd : BitVec 5) (rj : BitVec 5) (rk : BitVec 5)
  /-- `crc.w.w.w`, R603. -/
  | crcWWW (rd : BitVec 5) (rj : BitVec 5) (rk : BitVec 5)
  /-- `crc.w.d.w`, R604. -/
  | crcWDW (rd : BitVec 5) (rj : BitVec 5) (rk : BitVec 5)
  /-- `crcc.w.b.w`, R605. -/
  | crccWBW (rd : BitVec 5) (rj : BitVec 5) (rk : BitVec 5)
  /-- `crcc.w.h.w`, R606. -/
  | crccWHW (rd : BitVec 5) (rj : BitVec 5) (rk : BitVec 5)
  /-- `crcc.w.w.w`, R607. -/
  | crccWWW (rd : BitVec 5) (rj : BitVec 5) (rk : BitVec 5)
  /-- `crcc.w.d.w`, R608. -/
  | crccWDW (rd : BitVec 5) (rj : BitVec 5) (rk : BitVec 5)
  /-- `syscall`, R609. -/
  | syscall (code : BitVec 15)
  /-- `break`, R610. -/
  | brk (code : BitVec 15)
  /-- `asrtle.d`, R615. -/
  | asrtleD (rj : BitVec 5) (rk : BitVec 5)
  /-- `asrtgt.d`, R616. -/
  | asrtgtD (rj : BitVec 5) (rk : BitVec 5)
  /-- `rdtimel.w`, R612. -/
  | rdtimelW (rd : BitVec 5) (rj : BitVec 5)
  /-- `rdtimeh.w`, R613. -/
  | rdtimehW (rd : BitVec 5) (rj : BitVec 5)
  /-- `rdtime.d`, R614. -/
  | rdtimeD (rd : BitVec 5) (rj : BitVec 5)
  /-- `cpucfg`, R620. -/
  | cpucfg (rd : BitVec 5) (rj : BitVec 5)
  /-- `fadd.s`, R658. -/
  | faddS (fd : BitVec 5) (fj : BitVec 5) (fk : BitVec 5)
  /-- `fadd.d`, R659. -/
  | faddD (fd : BitVec 5) (fj : BitVec 5) (fk : BitVec 5)
  /-- `fsub.s`, R660. -/
  | fsubS (fd : BitVec 5) (fj : BitVec 5) (fk : BitVec 5)
  /-- `fsub.d`, R661. -/
  | fsubD (fd : BitVec 5) (fj : BitVec 5) (fk : BitVec 5)
  /-- `fmul.s`, R662. -/
  | fmulS (fd : BitVec 5) (fj : BitVec 5) (fk : BitVec 5)
  /-- `fmul.d`, R663. -/
  | fmulD (fd : BitVec 5) (fj : BitVec 5) (fk : BitVec 5)
  /-- `fdiv.s`, R664. -/
  | fdivS (fd : BitVec 5) (fj : BitVec 5) (fk : BitVec 5)
  /-- `fdiv.d`, R665. -/
  | fdivD (fd : BitVec 5) (fj : BitVec 5) (fk : BitVec 5)
  /-- `fmadd.s`, R666. -/
  | fmaddS (fd : BitVec 5) (fj : BitVec 5) (fk : BitVec 5) (fa : BitVec 5)
  /-- `fmadd.d`, R667. -/
  | fmaddD (fd : BitVec 5) (fj : BitVec 5) (fk : BitVec 5) (fa : BitVec 5)
  /-- `fmsub.s`, R668. -/
  | fmsubS (fd : BitVec 5) (fj : BitVec 5) (fk : BitVec 5) (fa : BitVec 5)
  /-- `fmsub.d`, R669. -/
  | fmsubD (fd : BitVec 5) (fj : BitVec 5) (fk : BitVec 5) (fa : BitVec 5)
  /-- `fnmadd.s`, R670. -/
  | fnmaddS (fd : BitVec 5) (fj : BitVec 5) (fk : BitVec 5) (fa : BitVec 5)
  /-- `fnmadd.d`, R671. -/
  | fnmaddD (fd : BitVec 5) (fj : BitVec 5) (fk : BitVec 5) (fa : BitVec 5)
  /-- `fnmsub.s`, R672. -/
  | fnmsubS (fd : BitVec 5) (fj : BitVec 5) (fk : BitVec 5) (fa : BitVec 5)
  /-- `fnmsub.d`, R673. -/
  | fnmsubD (fd : BitVec 5) (fj : BitVec 5) (fk : BitVec 5) (fa : BitVec 5)
  /-- `fmax.s`, R674. -/
  | fmaxS (fd : BitVec 5) (fj : BitVec 5) (fk : BitVec 5)
  /-- `fmax.d`, R675. -/
  | fmaxD (fd : BitVec 5) (fj : BitVec 5) (fk : BitVec 5)
  /-- `fmin.s`, R676. -/
  | fminS (fd : BitVec 5) (fj : BitVec 5) (fk : BitVec 5)
  /-- `fmin.d`, R677. -/
  | fminD (fd : BitVec 5) (fj : BitVec 5) (fk : BitVec 5)
  /-- `fmaxa.s`, R678. -/
  | fmaxaS (fd : BitVec 5) (fj : BitVec 5) (fk : BitVec 5)
  /-- `fmaxa.d`, R679. -/
  | fmaxaD (fd : BitVec 5) (fj : BitVec 5) (fk : BitVec 5)
  /-- `fmina.s`, R680. -/
  | fminaS (fd : BitVec 5) (fj : BitVec 5) (fk : BitVec 5)
  /-- `fmina.d`, R681. -/
  | fminaD (fd : BitVec 5) (fj : BitVec 5) (fk : BitVec 5)
  /-- `fabs.s`, R682. -/
  | fabsS (fd : BitVec 5) (fj : BitVec 5)
  /-- `fabs.d`, R683. -/
  | fabsD (fd : BitVec 5) (fj : BitVec 5)
  /-- `fneg.s`, R684. -/
  | fnegS (fd : BitVec 5) (fj : BitVec 5)
  /-- `fneg.d`, R685. -/
  | fnegD (fd : BitVec 5) (fj : BitVec 5)
  /-- `fsqrt.s`, R686. -/
  | fsqrtS (fd : BitVec 5) (fj : BitVec 5)
  /-- `fsqrt.d`, R687. -/
  | fsqrtD (fd : BitVec 5) (fj : BitVec 5)
  /-- `frecip.s`, R688. -/
  | frecipS (fd : BitVec 5) (fj : BitVec 5)
  /-- `frecip.d`, R689. -/
  | frecipD (fd : BitVec 5) (fj : BitVec 5)
  /-- `frsqrt.s`, R690. -/
  | frsqrtS (fd : BitVec 5) (fj : BitVec 5)
  /-- `frsqrt.d`, R691. -/
  | frsqrtD (fd : BitVec 5) (fj : BitVec 5)
  /-- `fscaleb.s`, R692. -/
  | fscalebS (fd : BitVec 5) (fj : BitVec 5) (fk : BitVec 5)
  /-- `fscaleb.d`, R693. -/
  | fscalebD (fd : BitVec 5) (fj : BitVec 5) (fk : BitVec 5)
  /-- `flogb.s`, R694. -/
  | flogbS (fd : BitVec 5) (fj : BitVec 5)
  /-- `flogb.d`, R695. -/
  | flogbD (fd : BitVec 5) (fj : BitVec 5)
  /-- `fcopysign.s`, R696. -/
  | fcopysignS (fd : BitVec 5) (fj : BitVec 5) (fk : BitVec 5)
  /-- `fcopysign.d`, R697. -/
  | fcopysignD (fd : BitVec 5) (fj : BitVec 5) (fk : BitVec 5)
  /-- `fclass.s`, R698. -/
  | fclassS (fd : BitVec 5) (fj : BitVec 5)
  /-- `fclass.d`, R699. -/
  | fclassD (fd : BitVec 5) (fj : BitVec 5)
  /-- `fcmp.cond.s`, R702. -/
  | fcmpCondS (cd : BitVec 3) (fj : BitVec 5) (fk : BitVec 5) (cond : BitVec 5)
  /-- `fcmp.cond.d`, R703. -/
  | fcmpCondD (cd : BitVec 3) (fj : BitVec 5) (fk : BitVec 5) (cond : BitVec 5)
  /-- `fcvt.s.d`, R704. -/
  | fcvtSD (fd : BitVec 5) (fj : BitVec 5)
  /-- `fcvt.d.s`, R705. -/
  | fcvtDS (fd : BitVec 5) (fj : BitVec 5)
  /-- `ffint.s.w`, R706. -/
  | ffintSW (fd : BitVec 5) (fj : BitVec 5)
  /-- `ffint.s.l`, R707. -/
  | ffintSL (fd : BitVec 5) (fj : BitVec 5)
  /-- `ffint.d.w`, R708. -/
  | ffintDW (fd : BitVec 5) (fj : BitVec 5)
  /-- `ffint.d.l`, R709. -/
  | ffintDL (fd : BitVec 5) (fj : BitVec 5)
  /-- `ftint.w.s`, R710. -/
  | ftintWS (fd : BitVec 5) (fj : BitVec 5)
  /-- `ftint.w.d`, R711. -/
  | ftintWD (fd : BitVec 5) (fj : BitVec 5)
  /-- `ftint.l.s`, R712. -/
  | ftintLS (fd : BitVec 5) (fj : BitVec 5)
  /-- `ftint.l.d`, R713. -/
  | ftintLD (fd : BitVec 5) (fj : BitVec 5)
  /-- `ftintrm.w.s`, R715. -/
  | ftintrmWS (fd : BitVec 5) (fj : BitVec 5)
  /-- `ftintrm.w.d`, R716. -/
  | ftintrmWD (fd : BitVec 5) (fj : BitVec 5)
  /-- `ftintrm.l.s`, R717. -/
  | ftintrmLS (fd : BitVec 5) (fj : BitVec 5)
  /-- `ftintrm.l.d`, R718. -/
  | ftintrmLD (fd : BitVec 5) (fj : BitVec 5)
  /-- `ftintrp.w.s`, R719. -/
  | ftintrpWS (fd : BitVec 5) (fj : BitVec 5)
  /-- `ftintrp.w.d`, R720. -/
  | ftintrpWD (fd : BitVec 5) (fj : BitVec 5)
  /-- `ftintrp.l.s`, R721. -/
  | ftintrpLS (fd : BitVec 5) (fj : BitVec 5)
  /-- `ftintrp.l.d`, R722. -/
  | ftintrpLD (fd : BitVec 5) (fj : BitVec 5)
  /-- `ftintrz.w.s`, R723. -/
  | ftintrzWS (fd : BitVec 5) (fj : BitVec 5)
  /-- `ftintrz.w.d`, R724. -/
  | ftintrzWD (fd : BitVec 5) (fj : BitVec 5)
  /-- `ftintrz.l.s`, R725. -/
  | ftintrzLS (fd : BitVec 5) (fj : BitVec 5)
  /-- `ftintrz.l.d`, R726. -/
  | ftintrzLD (fd : BitVec 5) (fj : BitVec 5)
  /-- `ftintrne.w.s`, R727. -/
  | ftintrneWS (fd : BitVec 5) (fj : BitVec 5)
  /-- `ftintrne.w.d`, R728. -/
  | ftintrneWD (fd : BitVec 5) (fj : BitVec 5)
  /-- `ftintrne.l.s`, R729. -/
  | ftintrneLS (fd : BitVec 5) (fj : BitVec 5)
  /-- `ftintrne.l.d`, R730. -/
  | ftintrneLD (fd : BitVec 5) (fj : BitVec 5)
  /-- `frint.s`, R731. -/
  | frintS (fd : BitVec 5) (fj : BitVec 5)
  /-- `frint.d`, R732. -/
  | frintD (fd : BitVec 5) (fj : BitVec 5)
  /-- `fmov.s`, R733. -/
  | fmovS (fd : BitVec 5) (fj : BitVec 5)
  /-- `fmov.d`, R734. -/
  | fmovD (fd : BitVec 5) (fj : BitVec 5)
  /-- `fsel`, R735. -/
  | fsel (fd : BitVec 5) (fj : BitVec 5) (fk : BitVec 5) (ca : BitVec 3)
  /-- `movgr2fr.w`, R736. -/
  | movgr2frW (fd : BitVec 5) (rj : BitVec 5)
  /-- `movgr2fr.d`, R737. -/
  | movgr2frD (fd : BitVec 5) (rj : BitVec 5)
  /-- `movgr2frh.w`, R738. -/
  | movgr2frhW (fd : BitVec 5) (rj : BitVec 5)
  /-- `movfr2gr.s`, R739. -/
  | movfr2grS (rd : BitVec 5) (fj : BitVec 5)
  /-- `movfr2gr.d`, R740. -/
  | movfr2grD (rd : BitVec 5) (fj : BitVec 5)
  /-- `movfrh2gr.s`, R741. -/
  | movfrh2grS (rd : BitVec 5) (fj : BitVec 5)
  /-- `movgr2fcsr`, R745. -/
  | movgr2fcsr (fcsr : BitVec 5) (rj : BitVec 5)
  /-- `movfcsr2gr`, R746. -/
  | movfcsr2gr (rd : BitVec 5) (fcsr : BitVec 5)
  /-- `movfr2cf`, R747. -/
  | movfr2cf (cd : BitVec 3) (fj : BitVec 5)
  /-- `movcf2fr`, R748. -/
  | movcf2fr (fd : BitVec 5) (cj : BitVec 3)
  /-- `movgr2cf`, R749. -/
  | movgr2cf (cd : BitVec 3) (rj : BitVec 5)
  /-- `movcf2gr`, R750. -/
  | movcf2gr (rd : BitVec 5) (cj : BitVec 3)
  /-- `bceqz`, R760. -/
  | bceqz (cj : BitVec 3) (offs : BitVec 21)
  /-- `bcnez`, R761. -/
  | bcnez (cj : BitVec 3) (offs : BitVec 21)
  /-- `fld.s`, R762. -/
  | fldS (fd : BitVec 5) (rj : BitVec 5) (i12 : BitVec 12)
  /-- `fld.d`, R763. -/
  | fldD (fd : BitVec 5) (rj : BitVec 5) (i12 : BitVec 12)
  /-- `fst.s`, R764. -/
  | fstS (fd : BitVec 5) (rj : BitVec 5) (i12 : BitVec 12)
  /-- `fst.d`, R765. -/
  | fstD (fd : BitVec 5) (rj : BitVec 5) (i12 : BitVec 12)
  /-- `fldx.s`, R766. -/
  | fldxS (fd : BitVec 5) (rj : BitVec 5) (rk : BitVec 5)
  /-- `fldx.d`, R767. -/
  | fldxD (fd : BitVec 5) (rj : BitVec 5) (rk : BitVec 5)
  /-- `fstx.s`, R769. -/
  | fstxS (fd : BitVec 5) (rj : BitVec 5) (rk : BitVec 5)
  /-- `fstx.d`, R770. -/
  | fstxD (fd : BitVec 5) (rj : BitVec 5) (rk : BitVec 5)
  /-- `fldgt.s`, R771. -/
  | fldgtS (fd : BitVec 5) (rj : BitVec 5) (rk : BitVec 5)
  /-- `fldgt.d`, R772. -/
  | fldgtD (fd : BitVec 5) (rj : BitVec 5) (rk : BitVec 5)
  /-- `fldle.s`, R773. -/
  | fldleS (fd : BitVec 5) (rj : BitVec 5) (rk : BitVec 5)
  /-- `fldle.d`, R774. -/
  | fldleD (fd : BitVec 5) (rj : BitVec 5) (rk : BitVec 5)
  /-- `fstgt.s`, R775. -/
  | fstgtS (fd : BitVec 5) (rj : BitVec 5) (rk : BitVec 5)
  /-- `fstgt.d`, R776. -/
  | fstgtD (fd : BitVec 5) (rj : BitVec 5) (rk : BitVec 5)
  /-- `fstle.s`, R777. -/
  | fstleS (fd : BitVec 5) (rj : BitVec 5) (rk : BitVec 5)
  /-- `fstle.d`, R778. -/
  | fstleD (fd : BitVec 5) (rj : BitVec 5) (rk : BitVec 5)
  /-- `csrrd`, R781. -/
  | csrrd (rd : BitVec 5) (csr : BitVec 14)
  /-- `csrwr`, R782. -/
  | csrwr (rd : BitVec 5) (csr : BitVec 14)
  /-- `csrxchg`, R783. -/
  | csrxchg (rd : BitVec 5) (rj : BitVec 5) (csr : BitVec 14)
  /-- `iocsrrd.b`, R785. -/
  | iocsrrdB (rd : BitVec 5) (rj : BitVec 5)
  /-- `iocsrrd.h`, R786. -/
  | iocsrrdH (rd : BitVec 5) (rj : BitVec 5)
  /-- `iocsrrd.w`, R787. -/
  | iocsrrdW (rd : BitVec 5) (rj : BitVec 5)
  /-- `iocsrrd.d`, R788. -/
  | iocsrrdD (rd : BitVec 5) (rj : BitVec 5)
  /-- `iocsrwr.b`, R789. -/
  | iocsrwrB (rd : BitVec 5) (rj : BitVec 5)
  /-- `iocsrwr.h`, R790. -/
  | iocsrwrH (rd : BitVec 5) (rj : BitVec 5)
  /-- `iocsrwr.w`, R791. -/
  | iocsrwrW (rd : BitVec 5) (rj : BitVec 5)
  /-- `iocsrwr.d`, R792. -/
  | iocsrwrD (rd : BitVec 5) (rj : BitVec 5)
  /-- `cacop`, R793. -/
  | cacop (code : BitVec 5) (rj : BitVec 5) (si12 : BitVec 12)
  /-- `tlbsrch`, R796. -/
  | tlbsrch
  /-- `tlbrd`, R797. -/
  | tlbrd
  /-- `tlbwr`, R798. -/
  | tlbwr
  /-- `tlbfill`, R799. -/
  | tlbfill
  /-- `tlbclr`, R800. -/
  | tlbclr
  /-- `tlbflush`, R801. -/
  | tlbflush
  /-- `invtlb`, R802. -/
  | invtlb (op : BitVec 5) (rj : BitVec 5) (rk : BitVec 5)
  /-- `ertn`, R803. -/
  | ertn
  /-- `dbcl`, R805. -/
  | dbcl (code : BitVec 15)
  /-- `idle`, R806. -/
  | idle (code : BitVec 15)
  /-- `lddir`, R808. -/
  | lddir (rd : BitVec 5) (rj : BitVec 5) (i8 : BitVec 8)
  /-- `ldpte`, R809. -/
  | ldpte (rj : BitVec 5) (seq : BitVec 8)
  deriving DecidableEq, Repr

end Sys2Proof
end

