-- ==== Sys2Proof/WellFormed.lean ====
section
/-!
DEFINITION. Which terms of `Instr` an instruction word stands for. The operand fields of every instruction range over
all their values (spec/30_encoding.md R331, R334) but one: CSRXCHG shares its opcode with CSRRD (rj field 0) and CSRWR
(rj field 1), so its rj is 2 to 31 (R333, R336). An operand value that the spec makes an exception (INVTLB with op > 6,
FCMP with an undefined cond, AM* with rd = rj: R337 item c) is well formed: it decodes, and its meaning raises INE.
-/

namespace Sys2Proof

/-- The check itself. -/
def Instr.wellFormed : Instr → Bool
  | .csrxchg _ rj _ => decide (2 ≤ rj.toNat)
  | _ => true

/-- `i` is an instruction that some instruction word stands for. -/
abbrev WellFormed (i : Instr) : Prop := i.wellFormed = true

end Sys2Proof
end

