-- ==== Sys2Proof/Decode.lean ====
section
/-!
DEFINITION. Decoding and encoding of instruction words (spec/30_encoding.md R330-R337, spec/opcode_table.json).
Every row of the table fixes a run of leading bits (its opcode prefix); the decoder looks the prefix of each length up
in turn. A word no row covers is `none` (R337 item a: the machine raises INE). Fixed zeros inside operand positions are
part of the opcode (R336). The encoder writes each instruction from the same rows.

`noncomputable` says only that Lean's compiler writes no machine code for the decoder: its runtime numbers a type's
constructors in one byte, and the table has 332 rows. The definitions are plain matches the kernel evaluates.
-/

namespace Sys2Proof

/-! ## Fields of an instruction word (R331, R334) -/

/-- The first register operand, [4:0]. -/
def fD (w : BitVec 32) : BitVec 5 := w.extractLsb' 0 5
/-- The second register operand, [9:5]. -/
def fJ (w : BitVec 32) : BitVec 5 := w.extractLsb' 5 5
/-- The third register operand, [14:10]. -/
def fK (w : BitVec 32) : BitVec 5 := w.extractLsb' 10 5
/-- The fourth register operand, [19:15]. -/
def fA (w : BitVec 32) : BitVec 5 := w.extractLsb' 15 5
/-- A condition flag in [2:0]. -/
def fCd (w : BitVec 32) : BitVec 3 := w.extractLsb' 0 3
/-- The two bits above it, [4:3], that must be 0. -/
def fCdHi (w : BitVec 32) : BitVec 2 := w.extractLsb' 3 2
/-- A condition flag in [7:5]. -/
def fCj (w : BitVec 32) : BitVec 3 := w.extractLsb' 5 3
/-- The two bits above it, [9:8]. -/
def fCjHi (w : BitVec 32) : BitVec 2 := w.extractLsb' 8 2
/-- A condition flag in [17:15]. -/
def fCa (w : BitVec 32) : BitVec 3 := w.extractLsb' 15 3
/-- [16:15]. -/
def fSa2 (w : BitVec 32) : BitVec 2 := w.extractLsb' 15 2
/-- [17:15]. -/
def fSa3 (w : BitVec 32) : BitVec 3 := w.extractLsb' 15 3
/-- [15:10]. -/
def fU6 (w : BitVec 32) : BitVec 6 := w.extractLsb' 10 6
/-- [17:10]. -/
def fI8 (w : BitVec 32) : BitVec 8 := w.extractLsb' 10 8
/-- [21:10]. -/
def fI12 (w : BitVec 32) : BitVec 12 := w.extractLsb' 10 12
/-- [23:10]. -/
def fI14 (w : BitVec 32) : BitVec 14 := w.extractLsb' 10 14
/-- [25:10]. -/
def fI16 (w : BitVec 32) : BitVec 16 := w.extractLsb' 10 16
/-- [24:5]. -/
def fI20 (w : BitVec 32) : BitVec 20 := w.extractLsb' 5 20
/-- [14:0]. -/
def fCode (w : BitVec 32) : BitVec 15 := w.extractLsb' 0 15
/-- The 21-bit offset {[4:0], [25:10]}. -/
def fOffs21 (w : BitVec 32) : BitVec 21 := w.extractLsb' 0 5 ++ w.extractLsb' 10 16
/-- The 26-bit offset {[9:0], [25:10]}. -/
def fOffs26 (w : BitVec 32) : BitVec 26 := w.extractLsb' 0 10 ++ w.extractLsb' 10 16
/-- BSTRINS.D and BSTRPICK.D: msbd at [21:16]. -/
def fMsbd (w : BitVec 32) : BitVec 6 := w.extractLsb' 16 6
/-- BSTRINS.W and BSTRPICK.W: msbw at [20:16]. -/
def fMsbw (w : BitVec 32) : BitVec 5 := w.extractLsb' 16 5
/-- BSTRINS.W and BSTRPICK.W: the sub-opcode bit [15]. -/
def fBit15 (w : BitVec 32) : BitVec 1 := w.extractLsb' 15 1

/-! ## Encodings by layout (R332, R333): the prefix first, then the fields from high to low -/

/-- Four register fields. -/
def enc4R (p : BitVec 12) (a k j d : BitVec 5) : BitVec 32 := p ++ a ++ k ++ j ++ d
/-- Three register fields. -/
def enc3R (p : BitVec 17) (k j d : BitVec 5) : BitVec 32 := p ++ k ++ j ++ d
/-- Two register fields. -/
def enc2R (p : BitVec 22) (j d : BitVec 5) : BitVec 32 := p ++ j ++ d
/-- Three registers and a 2-bit amount. -/
def encSa2 (p : BitVec 15) (sa : BitVec 2) (k j d : BitVec 5) : BitVec 32 := p ++ sa ++ k ++ j ++ d
/-- Three registers and a 3-bit amount. -/
def encSa3 (p : BitVec 14) (sa : BitVec 3) (k j d : BitVec 5) : BitVec 32 := p ++ sa ++ k ++ j ++ d
/-- Two registers and a 6-bit immediate. -/
def encU6 (p : BitVec 16) (i : BitVec 6) (j d : BitVec 5) : BitVec 32 := p ++ i ++ j ++ d
/-- Two registers and an 8-bit immediate. -/
def encI8 (p : BitVec 14) (i : BitVec 8) (j d : BitVec 5) : BitVec 32 := p ++ i ++ j ++ d
/-- Two registers and a 12-bit immediate. -/
def encI12 (p : BitVec 10) (i : BitVec 12) (j d : BitVec 5) : BitVec 32 := p ++ i ++ j ++ d
/-- Two registers and a 14-bit immediate (a CSR number, too). -/
def encI14 (p : BitVec 8) (i : BitVec 14) (j d : BitVec 5) : BitVec 32 := p ++ i ++ j ++ d
/-- Two registers and a 16-bit immediate. -/
def encI16 (p : BitVec 6) (i : BitVec 16) (j d : BitVec 5) : BitVec 32 := p ++ i ++ j ++ d
/-- One register and a 20-bit immediate. -/
def encI20 (p : BitVec 7) (i : BitVec 20) (d : BitVec 5) : BitVec 32 := p ++ i ++ d
/-- One register and a 21-bit offset, its low half above its high half. -/
def encOffs21 (p : BitVec 6) (offs : BitVec 21) (j : BitVec 5) : BitVec 32 :=
  p ++ offs.extractLsb' 0 16 ++ j ++ offs.extractLsb' 16 5
/-- A 26-bit offset, its low half above its high half. -/
def encOffs26 (p : BitVec 6) (offs : BitVec 26) : BitVec 32 :=
  p ++ offs.extractLsb' 0 16 ++ offs.extractLsb' 16 10
/-- A 15-bit code. -/
def encCode (p : BitVec 17) (c : BitVec 15) : BitVec 32 := p ++ c
/-- Bit-string instructions on doublewords. -/
def encBstrD (p : BitVec 10) (msb lsb : BitVec 6) (j d : BitVec 5) : BitVec 32 := p ++ msb ++ lsb ++ j ++ d
/-- Bit-string instructions on words. -/
def encBstrW (p : BitVec 11) (msb : BitVec 5) (sub : BitVec 1) (lsb j d : BitVec 5) : BitVec 32 :=
  p ++ msb ++ sub ++ lsb ++ j ++ d

/-- The word of an instruction (spec/opcode_table.json; meant for a well-formed one). -/
def encode : Instr → BitVec 32
  | .addW rd rj rk => enc3R 0x00020#17 rk rj rd
  | .subW rd rj rk => enc3R 0x00022#17 rk rj rd
  | .addD rd rj rk => enc3R 0x00021#17 rk rj rd
  | .subD rd rj rk => enc3R 0x00023#17 rk rj rd
  | .addiW rd rj i12 => encI12 0x00A#10 i12 rj rd
  | .addiD rd rj i12 => encI12 0x00B#10 i12 rj rd
  | .addu16iD rd rj i16 => encI16 0x04#6 i16 rj rd
  | .alslW rd rj rk sa2 => encSa2 0x0002#15 sa2 rk rj rd
  | .alslWu rd rj rk sa2 => encSa2 0x0003#15 sa2 rk rj rd
  | .alslD rd rj rk sa2 => encSa2 0x0016#15 sa2 rk rj rd
  | .lu12iW rd si20 => encI20 0x0A#7 si20 rd
  | .lu32iD rd si20 => encI20 0x0B#7 si20 rd
  | .lu52iD rd rj i12 => encI12 0x00C#10 i12 rj rd
  | .slt rd rj rk => enc3R 0x00024#17 rk rj rd
  | .sltu rd rj rk => enc3R 0x00025#17 rk rj rd
  | .slti rd rj i12 => encI12 0x008#10 i12 rj rd
  | .sltui rd rj i12 => encI12 0x009#10 i12 rj rd
  | .pcaddi rd si20 => encI20 0x0C#7 si20 rd
  | .pcaddu12i rd si20 => encI20 0x0E#7 si20 rd
  | .pcaddu18i rd si20 => encI20 0x0F#7 si20 rd
  | .pcalau12i rd si20 => encI20 0x0D#7 si20 rd
  | .and rd rj rk => enc3R 0x00029#17 rk rj rd
  | .or rd rj rk => enc3R 0x0002A#17 rk rj rd
  | .nor rd rj rk => enc3R 0x00028#17 rk rj rd
  | .xor rd rj rk => enc3R 0x0002B#17 rk rj rd
  | .andn rd rj rk => enc3R 0x0002D#17 rk rj rd
  | .orn rd rj rk => enc3R 0x0002C#17 rk rj rd
  | .andi rd rj i12 => encI12 0x00D#10 i12 rj rd
  | .ori rd rj i12 => encI12 0x00E#10 i12 rj rd
  | .xori rd rj i12 => encI12 0x00F#10 i12 rj rd
  | .mulW rd rj rk => enc3R 0x00038#17 rk rj rd
  | .mulhW rd rj rk => enc3R 0x00039#17 rk rj rd
  | .mulhWu rd rj rk => enc3R 0x0003A#17 rk rj rd
  | .mulD rd rj rk => enc3R 0x0003B#17 rk rj rd
  | .mulhD rd rj rk => enc3R 0x0003C#17 rk rj rd
  | .mulhDu rd rj rk => enc3R 0x0003D#17 rk rj rd
  | .mulwDW rd rj rk => enc3R 0x0003E#17 rk rj rd
  | .mulwDWu rd rj rk => enc3R 0x0003F#17 rk rj rd
  | .divW rd rj rk => enc3R 0x00040#17 rk rj rd
  | .modW rd rj rk => enc3R 0x00041#17 rk rj rd
  | .divWu rd rj rk => enc3R 0x00042#17 rk rj rd
  | .modWu rd rj rk => enc3R 0x00043#17 rk rj rd
  | .divD rd rj rk => enc3R 0x00044#17 rk rj rd
  | .modD rd rj rk => enc3R 0x00045#17 rk rj rd
  | .divDu rd rj rk => enc3R 0x00046#17 rk rj rd
  | .modDu rd rj rk => enc3R 0x00047#17 rk rj rd
  | .sllW rd rj rk => enc3R 0x0002E#17 rk rj rd
  | .srlW rd rj rk => enc3R 0x0002F#17 rk rj rd
  | .sraW rd rj rk => enc3R 0x00030#17 rk rj rd
  | .rotrW rd rj rk => enc3R 0x00036#17 rk rj rd
  | .slliW rd rj ui5 => enc3R 0x00081#17 ui5 rj rd
  | .srliW rd rj ui5 => enc3R 0x00089#17 ui5 rj rd
  | .sraiW rd rj ui5 => enc3R 0x00091#17 ui5 rj rd
  | .rotriW rd rj ui5 => enc3R 0x00099#17 ui5 rj rd
  | .sllD rd rj rk => enc3R 0x00031#17 rk rj rd
  | .srlD rd rj rk => enc3R 0x00032#17 rk rj rd
  | .sraD rd rj rk => enc3R 0x00033#17 rk rj rd
  | .rotrD rd rj rk => enc3R 0x00037#17 rk rj rd
  | .slliD rd rj ui6 => encU6 0x0041#16 ui6 rj rd
  | .srliD rd rj ui6 => encU6 0x0045#16 ui6 rj rd
  | .sraiD rd rj ui6 => encU6 0x0049#16 ui6 rj rd
  | .rotriD rd rj ui6 => encU6 0x004D#16 ui6 rj rd
  | .extWB rd rj => enc2R 0x000017#22 rj rd
  | .extWH rd rj => enc2R 0x000016#22 rj rd
  | .cloW rd rj => enc2R 0x000004#22 rj rd
  | .clzW rd rj => enc2R 0x000005#22 rj rd
  | .ctoW rd rj => enc2R 0x000006#22 rj rd
  | .ctzW rd rj => enc2R 0x000007#22 rj rd
  | .cloD rd rj => enc2R 0x000008#22 rj rd
  | .clzD rd rj => enc2R 0x000009#22 rj rd
  | .ctoD rd rj => enc2R 0x00000A#22 rj rd
  | .ctzD rd rj => enc2R 0x00000B#22 rj rd
  | .bytepickW rd rj rk sa2 => encSa2 0x0004#15 sa2 rk rj rd
  | .bytepickD rd rj rk sa3 => encSa3 0x0003#14 sa3 rk rj rd
  | .revb2h rd rj => enc2R 0x00000C#22 rj rd
  | .revb4h rd rj => enc2R 0x00000D#22 rj rd
  | .revb2w rd rj => enc2R 0x00000E#22 rj rd
  | .revbD rd rj => enc2R 0x00000F#22 rj rd
  | .revh2w rd rj => enc2R 0x000010#22 rj rd
  | .revhD rd rj => enc2R 0x000011#22 rj rd
  | .bitrev4b rd rj => enc2R 0x000012#22 rj rd
  | .bitrev8b rd rj => enc2R 0x000013#22 rj rd
  | .bitrevW rd rj => enc2R 0x000014#22 rj rd
  | .bitrevD rd rj => enc2R 0x000015#22 rj rd
  | .bstrinsW rd rj lsbw msbw => encBstrW 0x003#11 msbw 0x0#1 lsbw rj rd
  | .bstrinsD rd rj lsbd msbd => encBstrD 0x002#10 msbd lsbd rj rd
  | .bstrpickW rd rj lsbw msbw => encBstrW 0x003#11 msbw 0x1#1 lsbw rj rd
  | .bstrpickD rd rj lsbd msbd => encBstrD 0x003#10 msbd lsbd rj rd
  | .maskeqz rd rj rk => enc3R 0x00026#17 rk rj rd
  | .masknez rd rj rk => enc3R 0x00027#17 rk rj rd
  | .beq rd rj i16 => encI16 0x16#6 i16 rj rd
  | .bne rd rj i16 => encI16 0x17#6 i16 rj rd
  | .blt rd rj i16 => encI16 0x18#6 i16 rj rd
  | .bge rd rj i16 => encI16 0x19#6 i16 rj rd
  | .bltu rd rj i16 => encI16 0x1A#6 i16 rj rd
  | .bgeu rd rj i16 => encI16 0x1B#6 i16 rj rd
  | .beqz rj offs => encOffs21 0x10#6 offs rj
  | .bnez rj offs => encOffs21 0x11#6 offs rj
  | .b offs => encOffs26 0x14#6 offs
  | .bl offs => encOffs26 0x15#6 offs
  | .jirl rd rj i16 => encI16 0x13#6 i16 rj rd
  | .ldB rd rj i12 => encI12 0x0A0#10 i12 rj rd
  | .ldH rd rj i12 => encI12 0x0A1#10 i12 rj rd
  | .ldW rd rj i12 => encI12 0x0A2#10 i12 rj rd
  | .ldD rd rj i12 => encI12 0x0A3#10 i12 rj rd
  | .ldBu rd rj i12 => encI12 0x0A8#10 i12 rj rd
  | .ldHu rd rj i12 => encI12 0x0A9#10 i12 rj rd
  | .ldWu rd rj i12 => encI12 0x0AA#10 i12 rj rd
  | .stB rd rj i12 => encI12 0x0A4#10 i12 rj rd
  | .stH rd rj i12 => encI12 0x0A5#10 i12 rj rd
  | .stW rd rj i12 => encI12 0x0A6#10 i12 rj rd
  | .stD rd rj i12 => encI12 0x0A7#10 i12 rj rd
  | .ldxB rd rj rk => enc3R 0x07000#17 rk rj rd
  | .ldxH rd rj rk => enc3R 0x07008#17 rk rj rd
  | .ldxW rd rj rk => enc3R 0x07010#17 rk rj rd
  | .ldxD rd rj rk => enc3R 0x07018#17 rk rj rd
  | .ldxBu rd rj rk => enc3R 0x07040#17 rk rj rd
  | .ldxHu rd rj rk => enc3R 0x07048#17 rk rj rd
  | .ldxWu rd rj rk => enc3R 0x07050#17 rk rj rd
  | .stxB rd rj rk => enc3R 0x07020#17 rk rj rd
  | .stxH rd rj rk => enc3R 0x07028#17 rk rj rd
  | .stxW rd rj rk => enc3R 0x07030#17 rk rj rd
  | .stxD rd rj rk => enc3R 0x07038#17 rk rj rd
  | .ldptrW rd rj i14 => encI14 0x24#8 i14 rj rd
  | .ldptrD rd rj i14 => encI14 0x26#8 i14 rj rd
  | .stptrW rd rj i14 => encI14 0x25#8 i14 rj rd
  | .stptrD rd rj i14 => encI14 0x27#8 i14 rj rd
  | .preld hint rj i12 => encI12 0x0AB#10 i12 rj hint
  | .preldx hint rj rk => enc3R 0x07058#17 rk rj hint
  | .ldgtB rd rj rk => enc3R 0x070F0#17 rk rj rd
  | .ldgtH rd rj rk => enc3R 0x070F1#17 rk rj rd
  | .ldgtW rd rj rk => enc3R 0x070F2#17 rk rj rd
  | .ldgtD rd rj rk => enc3R 0x070F3#17 rk rj rd
  | .ldleB rd rj rk => enc3R 0x070F4#17 rk rj rd
  | .ldleH rd rj rk => enc3R 0x070F5#17 rk rj rd
  | .ldleW rd rj rk => enc3R 0x070F6#17 rk rj rd
  | .ldleD rd rj rk => enc3R 0x070F7#17 rk rj rd
  | .stgtB rd rj rk => enc3R 0x070F8#17 rk rj rd
  | .stgtH rd rj rk => enc3R 0x070F9#17 rk rj rd
  | .stgtW rd rj rk => enc3R 0x070FA#17 rk rj rd
  | .stgtD rd rj rk => enc3R 0x070FB#17 rk rj rd
  | .stleB rd rj rk => enc3R 0x070FC#17 rk rj rd
  | .stleH rd rj rk => enc3R 0x070FD#17 rk rj rd
  | .stleW rd rj rk => enc3R 0x070FE#17 rk rj rd
  | .stleD rd rj rk => enc3R 0x070FF#17 rk rj rd
  | .amswapW rd rj rk => enc3R 0x070C0#17 rk rj rd
  | .amswapD rd rj rk => enc3R 0x070C1#17 rk rj rd
  | .amaddW rd rj rk => enc3R 0x070C2#17 rk rj rd
  | .amaddD rd rj rk => enc3R 0x070C3#17 rk rj rd
  | .amandW rd rj rk => enc3R 0x070C4#17 rk rj rd
  | .amandD rd rj rk => enc3R 0x070C5#17 rk rj rd
  | .amorW rd rj rk => enc3R 0x070C6#17 rk rj rd
  | .amorD rd rj rk => enc3R 0x070C7#17 rk rj rd
  | .amxorW rd rj rk => enc3R 0x070C8#17 rk rj rd
  | .amxorD rd rj rk => enc3R 0x070C9#17 rk rj rd
  | .ammaxW rd rj rk => enc3R 0x070CA#17 rk rj rd
  | .ammaxD rd rj rk => enc3R 0x070CB#17 rk rj rd
  | .amminW rd rj rk => enc3R 0x070CC#17 rk rj rd
  | .amminD rd rj rk => enc3R 0x070CD#17 rk rj rd
  | .ammaxWu rd rj rk => enc3R 0x070CE#17 rk rj rd
  | .ammaxDu rd rj rk => enc3R 0x070CF#17 rk rj rd
  | .amminWu rd rj rk => enc3R 0x070D0#17 rk rj rd
  | .amminDu rd rj rk => enc3R 0x070D1#17 rk rj rd
  | .amswapDbW rd rj rk => enc3R 0x070D2#17 rk rj rd
  | .amswapDbD rd rj rk => enc3R 0x070D3#17 rk rj rd
  | .amaddDbW rd rj rk => enc3R 0x070D4#17 rk rj rd
  | .amaddDbD rd rj rk => enc3R 0x070D5#17 rk rj rd
  | .amandDbW rd rj rk => enc3R 0x070D6#17 rk rj rd
  | .amandDbD rd rj rk => enc3R 0x070D7#17 rk rj rd
  | .amorDbW rd rj rk => enc3R 0x070D8#17 rk rj rd
  | .amorDbD rd rj rk => enc3R 0x070D9#17 rk rj rd
  | .amxorDbW rd rj rk => enc3R 0x070DA#17 rk rj rd
  | .amxorDbD rd rj rk => enc3R 0x070DB#17 rk rj rd
  | .ammaxDbW rd rj rk => enc3R 0x070DC#17 rk rj rd
  | .ammaxDbD rd rj rk => enc3R 0x070DD#17 rk rj rd
  | .amminDbW rd rj rk => enc3R 0x070DE#17 rk rj rd
  | .amminDbD rd rj rk => enc3R 0x070DF#17 rk rj rd
  | .ammaxDbWu rd rj rk => enc3R 0x070E0#17 rk rj rd
  | .ammaxDbDu rd rj rk => enc3R 0x070E1#17 rk rj rd
  | .amminDbWu rd rj rk => enc3R 0x070E2#17 rk rj rd
  | .amminDbDu rd rj rk => enc3R 0x070E3#17 rk rj rd
  | .llW rd rj i14 => encI14 0x20#8 i14 rj rd
  | .scW rd rj i14 => encI14 0x21#8 i14 rj rd
  | .llD rd rj i14 => encI14 0x22#8 i14 rj rd
  | .scD rd rj i14 => encI14 0x23#8 i14 rj rd
  | .dbar code => encCode 0x070E4#17 code
  | .ibar code => encCode 0x070E5#17 code
  | .crcWBW rd rj rk => enc3R 0x00048#17 rk rj rd
  | .crcWHW rd rj rk => enc3R 0x00049#17 rk rj rd
  | .crcWWW rd rj rk => enc3R 0x0004A#17 rk rj rd
  | .crcWDW rd rj rk => enc3R 0x0004B#17 rk rj rd
  | .crccWBW rd rj rk => enc3R 0x0004C#17 rk rj rd
  | .crccWHW rd rj rk => enc3R 0x0004D#17 rk rj rd
  | .crccWWW rd rj rk => enc3R 0x0004E#17 rk rj rd
  | .crccWDW rd rj rk => enc3R 0x0004F#17 rk rj rd
  | .syscall code => encCode 0x00056#17 code
  | .brk code => encCode 0x00054#17 code
  | .asrtleD rj rk => enc3R 0x00002#17 rk rj 0#5
  | .asrtgtD rj rk => enc3R 0x00003#17 rk rj 0#5
  | .rdtimelW rd rj => enc2R 0x000018#22 rj rd
  | .rdtimehW rd rj => enc2R 0x000019#22 rj rd
  | .rdtimeD rd rj => enc2R 0x00001A#22 rj rd
  | .cpucfg rd rj => enc2R 0x00001B#22 rj rd
  | .faddS fd fj fk => enc3R 0x00201#17 fk fj fd
  | .faddD fd fj fk => enc3R 0x00202#17 fk fj fd
  | .fsubS fd fj fk => enc3R 0x00205#17 fk fj fd
  | .fsubD fd fj fk => enc3R 0x00206#17 fk fj fd
  | .fmulS fd fj fk => enc3R 0x00209#17 fk fj fd
  | .fmulD fd fj fk => enc3R 0x0020A#17 fk fj fd
  | .fdivS fd fj fk => enc3R 0x0020D#17 fk fj fd
  | .fdivD fd fj fk => enc3R 0x0020E#17 fk fj fd
  | .fmaddS fd fj fk fa => enc4R 0x081#12 fa fk fj fd
  | .fmaddD fd fj fk fa => enc4R 0x082#12 fa fk fj fd
  | .fmsubS fd fj fk fa => enc4R 0x085#12 fa fk fj fd
  | .fmsubD fd fj fk fa => enc4R 0x086#12 fa fk fj fd
  | .fnmaddS fd fj fk fa => enc4R 0x089#12 fa fk fj fd
  | .fnmaddD fd fj fk fa => enc4R 0x08A#12 fa fk fj fd
  | .fnmsubS fd fj fk fa => enc4R 0x08D#12 fa fk fj fd
  | .fnmsubD fd fj fk fa => enc4R 0x08E#12 fa fk fj fd
  | .fmaxS fd fj fk => enc3R 0x00211#17 fk fj fd
  | .fmaxD fd fj fk => enc3R 0x00212#17 fk fj fd
  | .fminS fd fj fk => enc3R 0x00215#17 fk fj fd
  | .fminD fd fj fk => enc3R 0x00216#17 fk fj fd
  | .fmaxaS fd fj fk => enc3R 0x00219#17 fk fj fd
  | .fmaxaD fd fj fk => enc3R 0x0021A#17 fk fj fd
  | .fminaS fd fj fk => enc3R 0x0021D#17 fk fj fd
  | .fminaD fd fj fk => enc3R 0x0021E#17 fk fj fd
  | .fabsS fd fj => enc2R 0x004501#22 fj fd
  | .fabsD fd fj => enc2R 0x004502#22 fj fd
  | .fnegS fd fj => enc2R 0x004505#22 fj fd
  | .fnegD fd fj => enc2R 0x004506#22 fj fd
  | .fsqrtS fd fj => enc2R 0x004511#22 fj fd
  | .fsqrtD fd fj => enc2R 0x004512#22 fj fd
  | .frecipS fd fj => enc2R 0x004515#22 fj fd
  | .frecipD fd fj => enc2R 0x004516#22 fj fd
  | .frsqrtS fd fj => enc2R 0x004519#22 fj fd
  | .frsqrtD fd fj => enc2R 0x00451A#22 fj fd
  | .fscalebS fd fj fk => enc3R 0x00221#17 fk fj fd
  | .fscalebD fd fj fk => enc3R 0x00222#17 fk fj fd
  | .flogbS fd fj => enc2R 0x004509#22 fj fd
  | .flogbD fd fj => enc2R 0x00450A#22 fj fd
  | .fcopysignS fd fj fk => enc3R 0x00225#17 fk fj fd
  | .fcopysignD fd fj fk => enc3R 0x00226#17 fk fj fd
  | .fclassS fd fj => enc2R 0x00450D#22 fj fd
  | .fclassD fd fj => enc2R 0x00450E#22 fj fd
  | .fcmpCondS cd fj fk cond => enc4R 0x0C1#12 cond fk fj (0#2 ++ cd)
  | .fcmpCondD cd fj fk cond => enc4R 0x0C2#12 cond fk fj (0#2 ++ cd)
  | .fcvtSD fd fj => enc2R 0x004646#22 fj fd
  | .fcvtDS fd fj => enc2R 0x004649#22 fj fd
  | .ffintSW fd fj => enc2R 0x004744#22 fj fd
  | .ffintSL fd fj => enc2R 0x004746#22 fj fd
  | .ffintDW fd fj => enc2R 0x004748#22 fj fd
  | .ffintDL fd fj => enc2R 0x00474A#22 fj fd
  | .ftintWS fd fj => enc2R 0x0046C1#22 fj fd
  | .ftintWD fd fj => enc2R 0x0046C2#22 fj fd
  | .ftintLS fd fj => enc2R 0x0046C9#22 fj fd
  | .ftintLD fd fj => enc2R 0x0046CA#22 fj fd
  | .ftintrmWS fd fj => enc2R 0x004681#22 fj fd
  | .ftintrmWD fd fj => enc2R 0x004682#22 fj fd
  | .ftintrmLS fd fj => enc2R 0x004689#22 fj fd
  | .ftintrmLD fd fj => enc2R 0x00468A#22 fj fd
  | .ftintrpWS fd fj => enc2R 0x004691#22 fj fd
  | .ftintrpWD fd fj => enc2R 0x004692#22 fj fd
  | .ftintrpLS fd fj => enc2R 0x004699#22 fj fd
  | .ftintrpLD fd fj => enc2R 0x00469A#22 fj fd
  | .ftintrzWS fd fj => enc2R 0x0046A1#22 fj fd
  | .ftintrzWD fd fj => enc2R 0x0046A2#22 fj fd
  | .ftintrzLS fd fj => enc2R 0x0046A9#22 fj fd
  | .ftintrzLD fd fj => enc2R 0x0046AA#22 fj fd
  | .ftintrneWS fd fj => enc2R 0x0046B1#22 fj fd
  | .ftintrneWD fd fj => enc2R 0x0046B2#22 fj fd
  | .ftintrneLS fd fj => enc2R 0x0046B9#22 fj fd
  | .ftintrneLD fd fj => enc2R 0x0046BA#22 fj fd
  | .frintS fd fj => enc2R 0x004791#22 fj fd
  | .frintD fd fj => enc2R 0x004792#22 fj fd
  | .fmovS fd fj => enc2R 0x004525#22 fj fd
  | .fmovD fd fj => enc2R 0x004526#22 fj fd
  | .fsel fd fj fk ca => encSa3 0x0340#14 ca fk fj fd
  | .movgr2frW fd rj => enc2R 0x004529#22 rj fd
  | .movgr2frD fd rj => enc2R 0x00452A#22 rj fd
  | .movgr2frhW fd rj => enc2R 0x00452B#22 rj fd
  | .movfr2grS rd fj => enc2R 0x00452D#22 fj rd
  | .movfr2grD rd fj => enc2R 0x00452E#22 fj rd
  | .movfrh2grS rd fj => enc2R 0x00452F#22 fj rd
  | .movgr2fcsr fcsr rj => enc2R 0x004530#22 rj fcsr
  | .movfcsr2gr rd fcsr => enc2R 0x004532#22 fcsr rd
  | .movfr2cf cd fj => enc2R 0x004534#22 fj (0#2 ++ cd)
  | .movcf2fr fd cj => enc2R 0x004535#22 (0#2 ++ cj) fd
  | .movgr2cf cd rj => enc2R 0x004536#22 rj (0#2 ++ cd)
  | .movcf2gr rd cj => enc2R 0x004537#22 (0#2 ++ cj) rd
  | .bceqz cj offs => encOffs21 0x12#6 offs (0x0#2 ++ cj)
  | .bcnez cj offs => encOffs21 0x12#6 offs (0x1#2 ++ cj)
  | .fldS fd rj i12 => encI12 0x0AC#10 i12 rj fd
  | .fldD fd rj i12 => encI12 0x0AE#10 i12 rj fd
  | .fstS fd rj i12 => encI12 0x0AD#10 i12 rj fd
  | .fstD fd rj i12 => encI12 0x0AF#10 i12 rj fd
  | .fldxS fd rj rk => enc3R 0x07060#17 rk rj fd
  | .fldxD fd rj rk => enc3R 0x07068#17 rk rj fd
  | .fstxS fd rj rk => enc3R 0x07070#17 rk rj fd
  | .fstxD fd rj rk => enc3R 0x07078#17 rk rj fd
  | .fldgtS fd rj rk => enc3R 0x070E8#17 rk rj fd
  | .fldgtD fd rj rk => enc3R 0x070E9#17 rk rj fd
  | .fldleS fd rj rk => enc3R 0x070EA#17 rk rj fd
  | .fldleD fd rj rk => enc3R 0x070EB#17 rk rj fd
  | .fstgtS fd rj rk => enc3R 0x070EC#17 rk rj fd
  | .fstgtD fd rj rk => enc3R 0x070ED#17 rk rj fd
  | .fstleS fd rj rk => enc3R 0x070EE#17 rk rj fd
  | .fstleD fd rj rk => enc3R 0x070EF#17 rk rj fd
  | .csrrd rd csr => encI14 0x04#8 csr 0x00#5 rd
  | .csrwr rd csr => encI14 0x04#8 csr 0x01#5 rd
  | .csrxchg rd rj csr => encI14 0x04#8 csr rj rd
  | .iocsrrdB rd rj => enc2R 0x019200#22 rj rd
  | .iocsrrdH rd rj => enc2R 0x019201#22 rj rd
  | .iocsrrdW rd rj => enc2R 0x019202#22 rj rd
  | .iocsrrdD rd rj => enc2R 0x019203#22 rj rd
  | .iocsrwrB rd rj => enc2R 0x019204#22 rj rd
  | .iocsrwrH rd rj => enc2R 0x019205#22 rj rd
  | .iocsrwrW rd rj => enc2R 0x019206#22 rj rd
  | .iocsrwrD rd rj => enc2R 0x019207#22 rj rd
  | .cacop code rj si12 => encI12 0x018#10 si12 rj code
  | .tlbsrch => 0x06482800#32
  | .tlbrd => 0x06482C00#32
  | .tlbwr => 0x06483000#32
  | .tlbfill => 0x06483400#32
  | .tlbclr => 0x06482000#32
  | .tlbflush => 0x06482400#32
  | .invtlb op rj rk => enc3R 0x00C93#17 rk rj op
  | .ertn => 0x06483800#32
  | .dbcl code => encCode 0x00055#17 code
  | .idle code => encCode 0x00C91#17 code
  | .lddir rd rj i8 => encI8 0x0190#14 i8 rj rd
  | .ldpte rj seq => encI8 0x0191#14 seq rj 0#5

/-- The instructions whose opcode is the leading 6 bits. -/
noncomputable def dec6 (p : BitVec 6) (w : BitVec 32) : Option Instr :=
  match p with
  | 0x04#6 => some (.addu16iD (fD w) (fJ w) (fI16 w))
  | 0x10#6 => some (.beqz (fJ w) (fOffs21 w))
  | 0x11#6 => some (.bnez (fJ w) (fOffs21 w))
  | 0x12#6 => if fCjHi w = 0#2 then some (.bceqz (fCj w) (fOffs21 w)) else if fCjHi w = 1#2 then some (.bcnez (fCj w) (fOffs21 w)) else none
  | 0x13#6 => some (.jirl (fD w) (fJ w) (fI16 w))
  | 0x14#6 => some (.b (fOffs26 w))
  | 0x15#6 => some (.bl (fOffs26 w))
  | 0x16#6 => some (.beq (fD w) (fJ w) (fI16 w))
  | 0x17#6 => some (.bne (fD w) (fJ w) (fI16 w))
  | 0x18#6 => some (.blt (fD w) (fJ w) (fI16 w))
  | 0x19#6 => some (.bge (fD w) (fJ w) (fI16 w))
  | 0x1A#6 => some (.bltu (fD w) (fJ w) (fI16 w))
  | 0x1B#6 => some (.bgeu (fD w) (fJ w) (fI16 w))
  | _ => none

/-- The instructions whose opcode is the leading 7 bits. -/
noncomputable def dec7 (p : BitVec 7) (w : BitVec 32) : Option Instr :=
  match p with
  | 0x0A#7 => some (.lu12iW (fD w) (fI20 w))
  | 0x0B#7 => some (.lu32iD (fD w) (fI20 w))
  | 0x0C#7 => some (.pcaddi (fD w) (fI20 w))
  | 0x0D#7 => some (.pcalau12i (fD w) (fI20 w))
  | 0x0E#7 => some (.pcaddu12i (fD w) (fI20 w))
  | 0x0F#7 => some (.pcaddu18i (fD w) (fI20 w))
  | _ => none

/-- The instructions whose opcode is the leading 8 bits. -/
noncomputable def dec8 (p : BitVec 8) (w : BitVec 32) : Option Instr :=
  match p with
  | 0x04#8 => if fJ w = 0#5 then some (.csrrd (fD w) (fI14 w)) else if fJ w = 1#5 then some (.csrwr (fD w) (fI14 w)) else some (.csrxchg (fD w) (fJ w) (fI14 w))
  | 0x20#8 => some (.llW (fD w) (fJ w) (fI14 w))
  | 0x21#8 => some (.scW (fD w) (fJ w) (fI14 w))
  | 0x22#8 => some (.llD (fD w) (fJ w) (fI14 w))
  | 0x23#8 => some (.scD (fD w) (fJ w) (fI14 w))
  | 0x24#8 => some (.ldptrW (fD w) (fJ w) (fI14 w))
  | 0x25#8 => some (.stptrW (fD w) (fJ w) (fI14 w))
  | 0x26#8 => some (.ldptrD (fD w) (fJ w) (fI14 w))
  | 0x27#8 => some (.stptrD (fD w) (fJ w) (fI14 w))
  | _ => none

/-- The instructions whose opcode is the leading 10 bits. -/
noncomputable def dec10 (p : BitVec 10) (w : BitVec 32) : Option Instr :=
  match p with
  | 0x002#10 => some (.bstrinsD (fD w) (fJ w) (fU6 w) (fMsbd w))
  | 0x003#10 => some (.bstrpickD (fD w) (fJ w) (fU6 w) (fMsbd w))
  | 0x008#10 => some (.slti (fD w) (fJ w) (fI12 w))
  | 0x009#10 => some (.sltui (fD w) (fJ w) (fI12 w))
  | 0x00A#10 => some (.addiW (fD w) (fJ w) (fI12 w))
  | 0x00B#10 => some (.addiD (fD w) (fJ w) (fI12 w))
  | 0x00C#10 => some (.lu52iD (fD w) (fJ w) (fI12 w))
  | 0x00D#10 => some (.andi (fD w) (fJ w) (fI12 w))
  | 0x00E#10 => some (.ori (fD w) (fJ w) (fI12 w))
  | 0x00F#10 => some (.xori (fD w) (fJ w) (fI12 w))
  | 0x018#10 => some (.cacop (fD w) (fJ w) (fI12 w))
  | 0x0A0#10 => some (.ldB (fD w) (fJ w) (fI12 w))
  | 0x0A1#10 => some (.ldH (fD w) (fJ w) (fI12 w))
  | 0x0A2#10 => some (.ldW (fD w) (fJ w) (fI12 w))
  | 0x0A3#10 => some (.ldD (fD w) (fJ w) (fI12 w))
  | 0x0A4#10 => some (.stB (fD w) (fJ w) (fI12 w))
  | 0x0A5#10 => some (.stH (fD w) (fJ w) (fI12 w))
  | 0x0A6#10 => some (.stW (fD w) (fJ w) (fI12 w))
  | 0x0A7#10 => some (.stD (fD w) (fJ w) (fI12 w))
  | 0x0A8#10 => some (.ldBu (fD w) (fJ w) (fI12 w))
  | 0x0A9#10 => some (.ldHu (fD w) (fJ w) (fI12 w))
  | 0x0AA#10 => some (.ldWu (fD w) (fJ w) (fI12 w))
  | 0x0AB#10 => some (.preld (fD w) (fJ w) (fI12 w))
  | 0x0AC#10 => some (.fldS (fD w) (fJ w) (fI12 w))
  | 0x0AD#10 => some (.fstS (fD w) (fJ w) (fI12 w))
  | 0x0AE#10 => some (.fldD (fD w) (fJ w) (fI12 w))
  | 0x0AF#10 => some (.fstD (fD w) (fJ w) (fI12 w))
  | _ => none

/-- The instructions whose opcode is the leading 11 bits. -/
noncomputable def dec11 (p : BitVec 11) (w : BitVec 32) : Option Instr :=
  match p with
  | 0x003#11 => if fBit15 w = 0#1 then some (.bstrinsW (fD w) (fJ w) (fK w) (fMsbw w)) else some (.bstrpickW (fD w) (fJ w) (fK w) (fMsbw w))
  | _ => none

/-- The instructions whose opcode is the leading 12 bits. -/
noncomputable def dec12 (p : BitVec 12) (w : BitVec 32) : Option Instr :=
  match p with
  | 0x081#12 => some (.fmaddS (fD w) (fJ w) (fK w) (fA w))
  | 0x082#12 => some (.fmaddD (fD w) (fJ w) (fK w) (fA w))
  | 0x085#12 => some (.fmsubS (fD w) (fJ w) (fK w) (fA w))
  | 0x086#12 => some (.fmsubD (fD w) (fJ w) (fK w) (fA w))
  | 0x089#12 => some (.fnmaddS (fD w) (fJ w) (fK w) (fA w))
  | 0x08A#12 => some (.fnmaddD (fD w) (fJ w) (fK w) (fA w))
  | 0x08D#12 => some (.fnmsubS (fD w) (fJ w) (fK w) (fA w))
  | 0x08E#12 => some (.fnmsubD (fD w) (fJ w) (fK w) (fA w))
  | 0x0C1#12 => if fCdHi w = 0#2 then some (.fcmpCondS (fCd w) (fJ w) (fK w) (fA w)) else none
  | 0x0C2#12 => if fCdHi w = 0#2 then some (.fcmpCondD (fCd w) (fJ w) (fK w) (fA w)) else none
  | _ => none

/-- The instructions whose opcode is the leading 14 bits. -/
noncomputable def dec14 (p : BitVec 14) (w : BitVec 32) : Option Instr :=
  match p with
  | 0x0003#14 => some (.bytepickD (fD w) (fJ w) (fK w) (fSa3 w))
  | 0x0190#14 => some (.lddir (fD w) (fJ w) (fI8 w))
  | 0x0191#14 => if fD w = 0#5 then some (.ldpte (fJ w) (fI8 w)) else none
  | 0x0340#14 => some (.fsel (fD w) (fJ w) (fK w) (fCa w))
  | _ => none

/-- The instructions whose opcode is the leading 15 bits. -/
noncomputable def dec15 (p : BitVec 15) (w : BitVec 32) : Option Instr :=
  match p with
  | 0x0002#15 => some (.alslW (fD w) (fJ w) (fK w) (fSa2 w))
  | 0x0003#15 => some (.alslWu (fD w) (fJ w) (fK w) (fSa2 w))
  | 0x0004#15 => some (.bytepickW (fD w) (fJ w) (fK w) (fSa2 w))
  | 0x0016#15 => some (.alslD (fD w) (fJ w) (fK w) (fSa2 w))
  | _ => none

/-- The instructions whose opcode is the leading 16 bits. -/
noncomputable def dec16 (p : BitVec 16) (w : BitVec 32) : Option Instr :=
  match p with
  | 0x0041#16 => some (.slliD (fD w) (fJ w) (fU6 w))
  | 0x0045#16 => some (.srliD (fD w) (fJ w) (fU6 w))
  | 0x0049#16 => some (.sraiD (fD w) (fJ w) (fU6 w))
  | 0x004D#16 => some (.rotriD (fD w) (fJ w) (fU6 w))
  | _ => none

/-- The instructions whose opcode is the leading 17 bits (Fp block). -/
noncomputable def dec17Fp (p : BitVec 17) (w : BitVec 32) : Option Instr :=
  match p with
  | 0x00201#17 => some (.faddS (fD w) (fJ w) (fK w))
  | 0x00202#17 => some (.faddD (fD w) (fJ w) (fK w))
  | 0x00205#17 => some (.fsubS (fD w) (fJ w) (fK w))
  | 0x00206#17 => some (.fsubD (fD w) (fJ w) (fK w))
  | 0x00209#17 => some (.fmulS (fD w) (fJ w) (fK w))
  | 0x0020A#17 => some (.fmulD (fD w) (fJ w) (fK w))
  | 0x0020D#17 => some (.fdivS (fD w) (fJ w) (fK w))
  | 0x0020E#17 => some (.fdivD (fD w) (fJ w) (fK w))
  | 0x00211#17 => some (.fmaxS (fD w) (fJ w) (fK w))
  | 0x00212#17 => some (.fmaxD (fD w) (fJ w) (fK w))
  | 0x00215#17 => some (.fminS (fD w) (fJ w) (fK w))
  | 0x00216#17 => some (.fminD (fD w) (fJ w) (fK w))
  | 0x00219#17 => some (.fmaxaS (fD w) (fJ w) (fK w))
  | 0x0021A#17 => some (.fmaxaD (fD w) (fJ w) (fK w))
  | 0x0021D#17 => some (.fminaS (fD w) (fJ w) (fK w))
  | 0x0021E#17 => some (.fminaD (fD w) (fJ w) (fK w))
  | 0x00221#17 => some (.fscalebS (fD w) (fJ w) (fK w))
  | 0x00222#17 => some (.fscalebD (fD w) (fJ w) (fK w))
  | 0x00225#17 => some (.fcopysignS (fD w) (fJ w) (fK w))
  | 0x00226#17 => some (.fcopysignD (fD w) (fJ w) (fK w))
  | _ => none

/-- The instructions whose opcode is the leading 17 bits (Int block). -/
noncomputable def dec17Int (p : BitVec 17) (w : BitVec 32) : Option Instr :=
  match p with
  | 0x00002#17 => if fD w = 0#5 then some (.asrtleD (fJ w) (fK w)) else none
  | 0x00003#17 => if fD w = 0#5 then some (.asrtgtD (fJ w) (fK w)) else none
  | 0x00020#17 => some (.addW (fD w) (fJ w) (fK w))
  | 0x00021#17 => some (.addD (fD w) (fJ w) (fK w))
  | 0x00022#17 => some (.subW (fD w) (fJ w) (fK w))
  | 0x00023#17 => some (.subD (fD w) (fJ w) (fK w))
  | 0x00024#17 => some (.slt (fD w) (fJ w) (fK w))
  | 0x00025#17 => some (.sltu (fD w) (fJ w) (fK w))
  | 0x00026#17 => some (.maskeqz (fD w) (fJ w) (fK w))
  | 0x00027#17 => some (.masknez (fD w) (fJ w) (fK w))
  | 0x00028#17 => some (.nor (fD w) (fJ w) (fK w))
  | 0x00029#17 => some (.and (fD w) (fJ w) (fK w))
  | 0x0002A#17 => some (.or (fD w) (fJ w) (fK w))
  | 0x0002B#17 => some (.xor (fD w) (fJ w) (fK w))
  | 0x0002C#17 => some (.orn (fD w) (fJ w) (fK w))
  | 0x0002D#17 => some (.andn (fD w) (fJ w) (fK w))
  | 0x0002E#17 => some (.sllW (fD w) (fJ w) (fK w))
  | 0x0002F#17 => some (.srlW (fD w) (fJ w) (fK w))
  | 0x00030#17 => some (.sraW (fD w) (fJ w) (fK w))
  | 0x00031#17 => some (.sllD (fD w) (fJ w) (fK w))
  | 0x00032#17 => some (.srlD (fD w) (fJ w) (fK w))
  | 0x00033#17 => some (.sraD (fD w) (fJ w) (fK w))
  | 0x00036#17 => some (.rotrW (fD w) (fJ w) (fK w))
  | 0x00037#17 => some (.rotrD (fD w) (fJ w) (fK w))
  | 0x00038#17 => some (.mulW (fD w) (fJ w) (fK w))
  | 0x00039#17 => some (.mulhW (fD w) (fJ w) (fK w))
  | 0x0003A#17 => some (.mulhWu (fD w) (fJ w) (fK w))
  | 0x0003B#17 => some (.mulD (fD w) (fJ w) (fK w))
  | 0x0003C#17 => some (.mulhD (fD w) (fJ w) (fK w))
  | 0x0003D#17 => some (.mulhDu (fD w) (fJ w) (fK w))
  | 0x0003E#17 => some (.mulwDW (fD w) (fJ w) (fK w))
  | 0x0003F#17 => some (.mulwDWu (fD w) (fJ w) (fK w))
  | 0x00040#17 => some (.divW (fD w) (fJ w) (fK w))
  | 0x00041#17 => some (.modW (fD w) (fJ w) (fK w))
  | 0x00042#17 => some (.divWu (fD w) (fJ w) (fK w))
  | 0x00043#17 => some (.modWu (fD w) (fJ w) (fK w))
  | 0x00044#17 => some (.divD (fD w) (fJ w) (fK w))
  | 0x00045#17 => some (.modD (fD w) (fJ w) (fK w))
  | 0x00046#17 => some (.divDu (fD w) (fJ w) (fK w))
  | 0x00047#17 => some (.modDu (fD w) (fJ w) (fK w))
  | 0x00048#17 => some (.crcWBW (fD w) (fJ w) (fK w))
  | 0x00049#17 => some (.crcWHW (fD w) (fJ w) (fK w))
  | 0x0004A#17 => some (.crcWWW (fD w) (fJ w) (fK w))
  | 0x0004B#17 => some (.crcWDW (fD w) (fJ w) (fK w))
  | 0x0004C#17 => some (.crccWBW (fD w) (fJ w) (fK w))
  | 0x0004D#17 => some (.crccWHW (fD w) (fJ w) (fK w))
  | 0x0004E#17 => some (.crccWWW (fD w) (fJ w) (fK w))
  | 0x0004F#17 => some (.crccWDW (fD w) (fJ w) (fK w))
  | 0x00054#17 => some (.brk (fCode w))
  | 0x00055#17 => some (.dbcl (fCode w))
  | 0x00056#17 => some (.syscall (fCode w))
  | _ => none

/-- The instructions whose opcode is the leading 17 bits (Mem block). -/
noncomputable def dec17Mem (p : BitVec 17) (w : BitVec 32) : Option Instr :=
  match p with
  | 0x00081#17 => some (.slliW (fD w) (fJ w) (fK w))
  | 0x00089#17 => some (.srliW (fD w) (fJ w) (fK w))
  | 0x00091#17 => some (.sraiW (fD w) (fJ w) (fK w))
  | 0x00099#17 => some (.rotriW (fD w) (fJ w) (fK w))
  | 0x00C91#17 => some (.idle (fCode w))
  | 0x00C93#17 => some (.invtlb (fD w) (fJ w) (fK w))
  | 0x07000#17 => some (.ldxB (fD w) (fJ w) (fK w))
  | 0x07008#17 => some (.ldxH (fD w) (fJ w) (fK w))
  | 0x07010#17 => some (.ldxW (fD w) (fJ w) (fK w))
  | 0x07018#17 => some (.ldxD (fD w) (fJ w) (fK w))
  | 0x07020#17 => some (.stxB (fD w) (fJ w) (fK w))
  | 0x07028#17 => some (.stxH (fD w) (fJ w) (fK w))
  | 0x07030#17 => some (.stxW (fD w) (fJ w) (fK w))
  | 0x07038#17 => some (.stxD (fD w) (fJ w) (fK w))
  | 0x07040#17 => some (.ldxBu (fD w) (fJ w) (fK w))
  | 0x07048#17 => some (.ldxHu (fD w) (fJ w) (fK w))
  | 0x07050#17 => some (.ldxWu (fD w) (fJ w) (fK w))
  | 0x07058#17 => some (.preldx (fD w) (fJ w) (fK w))
  | 0x07060#17 => some (.fldxS (fD w) (fJ w) (fK w))
  | 0x07068#17 => some (.fldxD (fD w) (fJ w) (fK w))
  | 0x07070#17 => some (.fstxS (fD w) (fJ w) (fK w))
  | 0x07078#17 => some (.fstxD (fD w) (fJ w) (fK w))
  | 0x070C0#17 => some (.amswapW (fD w) (fJ w) (fK w))
  | 0x070C1#17 => some (.amswapD (fD w) (fJ w) (fK w))
  | 0x070C2#17 => some (.amaddW (fD w) (fJ w) (fK w))
  | 0x070C3#17 => some (.amaddD (fD w) (fJ w) (fK w))
  | 0x070C4#17 => some (.amandW (fD w) (fJ w) (fK w))
  | 0x070C5#17 => some (.amandD (fD w) (fJ w) (fK w))
  | 0x070C6#17 => some (.amorW (fD w) (fJ w) (fK w))
  | 0x070C7#17 => some (.amorD (fD w) (fJ w) (fK w))
  | 0x070C8#17 => some (.amxorW (fD w) (fJ w) (fK w))
  | 0x070C9#17 => some (.amxorD (fD w) (fJ w) (fK w))
  | 0x070CA#17 => some (.ammaxW (fD w) (fJ w) (fK w))
  | 0x070CB#17 => some (.ammaxD (fD w) (fJ w) (fK w))
  | 0x070CC#17 => some (.amminW (fD w) (fJ w) (fK w))
  | 0x070CD#17 => some (.amminD (fD w) (fJ w) (fK w))
  | 0x070CE#17 => some (.ammaxWu (fD w) (fJ w) (fK w))
  | 0x070CF#17 => some (.ammaxDu (fD w) (fJ w) (fK w))
  | 0x070D0#17 => some (.amminWu (fD w) (fJ w) (fK w))
  | 0x070D1#17 => some (.amminDu (fD w) (fJ w) (fK w))
  | 0x070D2#17 => some (.amswapDbW (fD w) (fJ w) (fK w))
  | 0x070D3#17 => some (.amswapDbD (fD w) (fJ w) (fK w))
  | 0x070D4#17 => some (.amaddDbW (fD w) (fJ w) (fK w))
  | 0x070D5#17 => some (.amaddDbD (fD w) (fJ w) (fK w))
  | 0x070D6#17 => some (.amandDbW (fD w) (fJ w) (fK w))
  | 0x070D7#17 => some (.amandDbD (fD w) (fJ w) (fK w))
  | 0x070D8#17 => some (.amorDbW (fD w) (fJ w) (fK w))
  | 0x070D9#17 => some (.amorDbD (fD w) (fJ w) (fK w))
  | 0x070DA#17 => some (.amxorDbW (fD w) (fJ w) (fK w))
  | 0x070DB#17 => some (.amxorDbD (fD w) (fJ w) (fK w))
  | 0x070DC#17 => some (.ammaxDbW (fD w) (fJ w) (fK w))
  | 0x070DD#17 => some (.ammaxDbD (fD w) (fJ w) (fK w))
  | 0x070DE#17 => some (.amminDbW (fD w) (fJ w) (fK w))
  | 0x070DF#17 => some (.amminDbD (fD w) (fJ w) (fK w))
  | 0x070E0#17 => some (.ammaxDbWu (fD w) (fJ w) (fK w))
  | 0x070E1#17 => some (.ammaxDbDu (fD w) (fJ w) (fK w))
  | 0x070E2#17 => some (.amminDbWu (fD w) (fJ w) (fK w))
  | 0x070E3#17 => some (.amminDbDu (fD w) (fJ w) (fK w))
  | 0x070E4#17 => some (.dbar (fCode w))
  | 0x070E5#17 => some (.ibar (fCode w))
  | 0x070E8#17 => some (.fldgtS (fD w) (fJ w) (fK w))
  | 0x070E9#17 => some (.fldgtD (fD w) (fJ w) (fK w))
  | 0x070EA#17 => some (.fldleS (fD w) (fJ w) (fK w))
  | 0x070EB#17 => some (.fldleD (fD w) (fJ w) (fK w))
  | 0x070EC#17 => some (.fstgtS (fD w) (fJ w) (fK w))
  | 0x070ED#17 => some (.fstgtD (fD w) (fJ w) (fK w))
  | 0x070EE#17 => some (.fstleS (fD w) (fJ w) (fK w))
  | 0x070EF#17 => some (.fstleD (fD w) (fJ w) (fK w))
  | 0x070F0#17 => some (.ldgtB (fD w) (fJ w) (fK w))
  | 0x070F1#17 => some (.ldgtH (fD w) (fJ w) (fK w))
  | 0x070F2#17 => some (.ldgtW (fD w) (fJ w) (fK w))
  | 0x070F3#17 => some (.ldgtD (fD w) (fJ w) (fK w))
  | 0x070F4#17 => some (.ldleB (fD w) (fJ w) (fK w))
  | 0x070F5#17 => some (.ldleH (fD w) (fJ w) (fK w))
  | 0x070F6#17 => some (.ldleW (fD w) (fJ w) (fK w))
  | 0x070F7#17 => some (.ldleD (fD w) (fJ w) (fK w))
  | 0x070F8#17 => some (.stgtB (fD w) (fJ w) (fK w))
  | 0x070F9#17 => some (.stgtH (fD w) (fJ w) (fK w))
  | 0x070FA#17 => some (.stgtW (fD w) (fJ w) (fK w))
  | 0x070FB#17 => some (.stgtD (fD w) (fJ w) (fK w))
  | 0x070FC#17 => some (.stleB (fD w) (fJ w) (fK w))
  | 0x070FD#17 => some (.stleH (fD w) (fJ w) (fK w))
  | 0x070FE#17 => some (.stleW (fD w) (fJ w) (fK w))
  | 0x070FF#17 => some (.stleD (fD w) (fJ w) (fK w))
  | _ => none

/-- The instructions whose opcode is the leading 22 bits. -/
noncomputable def dec22 (p : BitVec 22) (w : BitVec 32) : Option Instr :=
  match p with
  | 0x000004#22 => some (.cloW (fD w) (fJ w))
  | 0x000005#22 => some (.clzW (fD w) (fJ w))
  | 0x000006#22 => some (.ctoW (fD w) (fJ w))
  | 0x000007#22 => some (.ctzW (fD w) (fJ w))
  | 0x000008#22 => some (.cloD (fD w) (fJ w))
  | 0x000009#22 => some (.clzD (fD w) (fJ w))
  | 0x00000A#22 => some (.ctoD (fD w) (fJ w))
  | 0x00000B#22 => some (.ctzD (fD w) (fJ w))
  | 0x00000C#22 => some (.revb2h (fD w) (fJ w))
  | 0x00000D#22 => some (.revb4h (fD w) (fJ w))
  | 0x00000E#22 => some (.revb2w (fD w) (fJ w))
  | 0x00000F#22 => some (.revbD (fD w) (fJ w))
  | 0x000010#22 => some (.revh2w (fD w) (fJ w))
  | 0x000011#22 => some (.revhD (fD w) (fJ w))
  | 0x000012#22 => some (.bitrev4b (fD w) (fJ w))
  | 0x000013#22 => some (.bitrev8b (fD w) (fJ w))
  | 0x000014#22 => some (.bitrevW (fD w) (fJ w))
  | 0x000015#22 => some (.bitrevD (fD w) (fJ w))
  | 0x000016#22 => some (.extWH (fD w) (fJ w))
  | 0x000017#22 => some (.extWB (fD w) (fJ w))
  | 0x000018#22 => some (.rdtimelW (fD w) (fJ w))
  | 0x000019#22 => some (.rdtimehW (fD w) (fJ w))
  | 0x00001A#22 => some (.rdtimeD (fD w) (fJ w))
  | 0x00001B#22 => some (.cpucfg (fD w) (fJ w))
  | 0x004501#22 => some (.fabsS (fD w) (fJ w))
  | 0x004502#22 => some (.fabsD (fD w) (fJ w))
  | 0x004505#22 => some (.fnegS (fD w) (fJ w))
  | 0x004506#22 => some (.fnegD (fD w) (fJ w))
  | 0x004509#22 => some (.flogbS (fD w) (fJ w))
  | 0x00450A#22 => some (.flogbD (fD w) (fJ w))
  | 0x00450D#22 => some (.fclassS (fD w) (fJ w))
  | 0x00450E#22 => some (.fclassD (fD w) (fJ w))
  | 0x004511#22 => some (.fsqrtS (fD w) (fJ w))
  | 0x004512#22 => some (.fsqrtD (fD w) (fJ w))
  | 0x004515#22 => some (.frecipS (fD w) (fJ w))
  | 0x004516#22 => some (.frecipD (fD w) (fJ w))
  | 0x004519#22 => some (.frsqrtS (fD w) (fJ w))
  | 0x00451A#22 => some (.frsqrtD (fD w) (fJ w))
  | 0x004525#22 => some (.fmovS (fD w) (fJ w))
  | 0x004526#22 => some (.fmovD (fD w) (fJ w))
  | 0x004529#22 => some (.movgr2frW (fD w) (fJ w))
  | 0x00452A#22 => some (.movgr2frD (fD w) (fJ w))
  | 0x00452B#22 => some (.movgr2frhW (fD w) (fJ w))
  | 0x00452D#22 => some (.movfr2grS (fD w) (fJ w))
  | 0x00452E#22 => some (.movfr2grD (fD w) (fJ w))
  | 0x00452F#22 => some (.movfrh2grS (fD w) (fJ w))
  | 0x004530#22 => some (.movgr2fcsr (fD w) (fJ w))
  | 0x004532#22 => some (.movfcsr2gr (fD w) (fJ w))
  | 0x004534#22 => if fCdHi w = 0#2 then some (.movfr2cf (fCd w) (fJ w)) else none
  | 0x004535#22 => if fCjHi w = 0#2 then some (.movcf2fr (fD w) (fCj w)) else none
  | 0x004536#22 => if fCdHi w = 0#2 then some (.movgr2cf (fCd w) (fJ w)) else none
  | 0x004537#22 => if fCjHi w = 0#2 then some (.movcf2gr (fD w) (fCj w)) else none
  | 0x004646#22 => some (.fcvtSD (fD w) (fJ w))
  | 0x004649#22 => some (.fcvtDS (fD w) (fJ w))
  | 0x004681#22 => some (.ftintrmWS (fD w) (fJ w))
  | 0x004682#22 => some (.ftintrmWD (fD w) (fJ w))
  | 0x004689#22 => some (.ftintrmLS (fD w) (fJ w))
  | 0x00468A#22 => some (.ftintrmLD (fD w) (fJ w))
  | 0x004691#22 => some (.ftintrpWS (fD w) (fJ w))
  | 0x004692#22 => some (.ftintrpWD (fD w) (fJ w))
  | 0x004699#22 => some (.ftintrpLS (fD w) (fJ w))
  | 0x00469A#22 => some (.ftintrpLD (fD w) (fJ w))
  | 0x0046A1#22 => some (.ftintrzWS (fD w) (fJ w))
  | 0x0046A2#22 => some (.ftintrzWD (fD w) (fJ w))
  | 0x0046A9#22 => some (.ftintrzLS (fD w) (fJ w))
  | 0x0046AA#22 => some (.ftintrzLD (fD w) (fJ w))
  | 0x0046B1#22 => some (.ftintrneWS (fD w) (fJ w))
  | 0x0046B2#22 => some (.ftintrneWD (fD w) (fJ w))
  | 0x0046B9#22 => some (.ftintrneLS (fD w) (fJ w))
  | 0x0046BA#22 => some (.ftintrneLD (fD w) (fJ w))
  | 0x0046C1#22 => some (.ftintWS (fD w) (fJ w))
  | 0x0046C2#22 => some (.ftintWD (fD w) (fJ w))
  | 0x0046C9#22 => some (.ftintLS (fD w) (fJ w))
  | 0x0046CA#22 => some (.ftintLD (fD w) (fJ w))
  | 0x004744#22 => some (.ffintSW (fD w) (fJ w))
  | 0x004746#22 => some (.ffintSL (fD w) (fJ w))
  | 0x004748#22 => some (.ffintDW (fD w) (fJ w))
  | 0x00474A#22 => some (.ffintDL (fD w) (fJ w))
  | 0x004791#22 => some (.frintS (fD w) (fJ w))
  | 0x004792#22 => some (.frintD (fD w) (fJ w))
  | 0x019200#22 => some (.iocsrrdB (fD w) (fJ w))
  | 0x019201#22 => some (.iocsrrdH (fD w) (fJ w))
  | 0x019202#22 => some (.iocsrrdW (fD w) (fJ w))
  | 0x019203#22 => some (.iocsrrdD (fD w) (fJ w))
  | 0x019204#22 => some (.iocsrwrB (fD w) (fJ w))
  | 0x019205#22 => some (.iocsrwrH (fD w) (fJ w))
  | 0x019206#22 => some (.iocsrwrW (fD w) (fJ w))
  | 0x019207#22 => some (.iocsrwrD (fD w) (fJ w))
  | _ => none

/-- The instructions whose opcode is the leading 32 bits. -/
noncomputable def dec32 (p : BitVec 32) (_w : BitVec 32) : Option Instr :=
  match p with
  | 0x06482000#32 => some .tlbclr
  | 0x06482400#32 => some .tlbflush
  | 0x06482800#32 => some .tlbsrch
  | 0x06482C00#32 => some .tlbrd
  | 0x06483000#32 => some .tlbwr
  | 0x06483400#32 => some .tlbfill
  | 0x06483800#32 => some .ertn
  | _ => none

/-- Decode one instruction word: the row of the table that covers it, or `none` (R336, R337 item a). -/
noncomputable def decode (w : BitVec 32) : Option Instr :=
  (dec6 (w.extractLsb' 26 6) w).or <|
  (dec7 (w.extractLsb' 25 7) w).or <|
  (dec8 (w.extractLsb' 24 8) w).or <|
  (dec10 (w.extractLsb' 22 10) w).or <|
  (dec11 (w.extractLsb' 21 11) w).or <|
  (dec12 (w.extractLsb' 20 12) w).or <|
  (dec14 (w.extractLsb' 18 14) w).or <|
  (dec15 (w.extractLsb' 17 15) w).or <|
  (dec16 (w.extractLsb' 16 16) w).or <|
  (dec17Fp (w.extractLsb' 15 17) w).or <|
  (dec17Int (w.extractLsb' 15 17) w).or <|
  (dec17Mem (w.extractLsb' 15 17) w).or <|
  (dec22 (w.extractLsb' 10 22) w).or <|
  dec32 w w

/-- The instruction word held by four bytes, the first at the lowest address: little-endian (R330). -/
def insnOfBytes (b0 b1 b2 b3 : Byte) : BitVec 32 := b3 ++ b2 ++ b1 ++ b0

/-- Byte `k` (from 0, the lowest address) of an instruction word. -/
def insnByte (w : BitVec 32) (k : Nat) : Byte := w.extractLsb' (8 * k) 8

/-- The instruction the decoder reads from the `nbits` bits `w`, numbered as spec/opcode_table.json numbers them
(every higher bit 0): the word is laid out as four bytes, least significant first, and gathered as a fetch does. -/
noncomputable def decodeTableWord (nbits w : Nat) : Option Instr :=
  let v := BitVec.ofNat 32 (w % 2 ^ nbits)
  decode (insnOfBytes (insnByte v 0) (insnByte v 1) (insnByte v 2) (insnByte v 3))

end Sys2Proof
end

