-- ==== Sys2Proof/Config.lean ====
section
/-!
DEFINITION. What one implementation fixes (spec/00_scope.md R8 and the parameters of spec/92_eei_decisions.md
section 3), as plain data that the state carries and no step changes, and the free values: constants with no body,
so that nothing can be proved of the value they take.
-/

namespace Sys2Proof

/-- What stands behind a range of physical addresses (spec/20_memory.md R275). -/
inductive RegionKind where
  /-- Readable and writable memory. -/
  | ram
  /-- Readable memory that stores do not change. -/
  | rom
  /-- A device: its behaviour is the platform's, not this document's. -/
  | device
  deriving DecidableEq, Repr

/-- One range of the host's physical memory map `PHYS_MAP` (R275). -/
structure Region where
  /-- First byte address. -/
  base : Nat
  /-- Length in bytes. -/
  size : Nat
  /-- What is there. -/
  kind : RegionKind
  deriving DecidableEq, Repr

/-- The implementation parameters of R8 and of the decisions that name one. -/
structure Config where
  /-- `ARCH`: LA64 (true) or LA32 (false). -/
  la64 : Bool
  /-- `VALEN`: virtual address bits. -/
  valen : Nat
  /-- `PALEN`: physical address bits. -/
  palen : Nat
  /-- `HAS_PGMMU`. -/
  hasPgmmu : Bool
  /-- `HAS_IOCSR`. -/
  hasIocsr : Bool
  /-- `UAL`: non-aligned access supported. -/
  ual : Bool
  /-- `HAS_RI`: the page attribute NR. -/
  hasRi : Bool
  /-- `HAS_EP`: the page attribute NX. -/
  hasEp : Bool
  /-- `HAS_RPLV`: the page attribute RPLV. -/
  hasRplv : Bool
  /-- `HAS_HP`: huge pages. -/
  hasHp : Bool
  /-- `HAS_FP`. -/
  hasFp : Bool
  /-- `HAS_FP_SP`. -/
  hasFpSp : Bool
  /-- `HAS_FP_DP`. -/
  hasFpDp : Bool
  /-- `FP_ver`. -/
  fpVer : BitVec 3
  /-- `HAS_LLFTP`: stable counter and timer. -/
  hasLlftp : Bool
  /-- `LLFTP_ver`. -/
  llftpVer : BitVec 3
  /-- `HAS_LSPW`: LDDIR and LDPTE. -/
  hasLspw : Bool
  /-- `HAS_LAM`: the AM* instructions. -/
  hasLam : Bool
  /-- CPUCFG.3[7:0]: CCDMA, SFB, UCACC, LLEXC, SCDLY, LLDBAR, ITLB, ICACHET (informational). -/
  cpucfg3Low : BitVec 8
  /-- CPUCFG.3.SPW_LVL, as CPUCFG reports it; LDDIR does not read it: DESIGN CHOICE, log 71. -/
  spwLvl : BitVec 3
  /-- CPUCFG.3.SPW_HP_HF, as CPUCFG reports it; LDPTE does not read it: DESIGN CHOICE, log 71. -/
  spwHpHf : Bool
  /-- `HAS_RVA`: virtual address reduction. -/
  hasRva : Bool
  /-- CPUCFG.3.RVAMAX-1. -/
  rvamaxMinus1 : BitVec 4
  /-- `CC_FREQ`. -/
  ccFreq : BitVec 32
  /-- `CC_MUL`. -/
  ccMul : BitVec 16
  /-- `CC_DIV`. -/
  ccDiv : BitVec 16
  /-- CPUCFG.6.PMP: performance monitors present. -/
  hasPm : Bool
  /-- CPUCFG.6.PMVER. -/
  pmVer : BitVec 3
  /-- The number of performance monitors minus 1, 0 to 31 (R8, spec/13_csr_pm_watch_debug.md R190). The 4-bit field
  CPUCFG.6.PMNUM shows its low 4 bits: DESIGN CHOICE, log 56, where there are more than 16 monitors. -/
  pmNum : Nat
  /-- CPUCFG.6.PMBITS: bits of a monitor minus 1. -/
  pmBits : BitVec 6
  /-- CPUCFG.6.UPM. -/
  upm : Bool
  /-- `PRID`. -/
  prid : BitVec 32
  /-- The cache description words CPUCFG.0x10 to 0x14 (informational). -/
  cacheWords : Vector (BitVec 32) 5
  /-- `SAVENum`: how many SAVE registers, 1 to 16 (R8). The 4-bit field PRCFG1.SAVENum shows 16 as 0: DESIGN CHOICE,
  log 55. -/
  saveNum : Nat
  /-- `TimerBits`: valid bits of the timer. -/
  timerBits : Nat
  /-- `VMax`: the largest ECFG.VS. -/
  vMax : BitVec 3
  /-- PRCFG2: bit i says that pages of 2^i bytes are supported. -/
  psavl : Word
  /-- PRCFG3.TLBType: 0 none, 1 MTLB, 2 MTLB and STLB. -/
  tlbType : Nat
  /-- PRCFG3.MTLBEntries: entries minus 1. -/
  mtlbEntriesMinus1 : Nat
  /-- PRCFG3.STLBWays: ways minus 1. -/
  stlbWaysMinus1 : Nat
  /-- PRCFG3.STLBSets = `STLB_INDEX`: the power of the entries per way. -/
  stlbSets : Nat
  /-- `TLBIDX_n`: width of TLBIDX.Index. -/
  tlbidxN : Nat
  /-- `ASIDBITS`. -/
  asidBits : BitVec 8
  /-- `CoreID`. -/
  coreId : BitVec 9
  /-- `NUM_DMW`: implemented direct mapping windows. -/
  numDmw : Nat
  /-- `MWP_NUM`: load/store watchpoints. -/
  mwpNum : Nat
  /-- `FWP_NUM`: fetch watchpoints. -/
  fwpNum : Nat
  /-- DBG.DRev: the version of the debugging mechanism, a constant of the implementation (R220, R893). DESIGN CHOICE,
  log 70: the spec names no parameter for it and says only that 1 is the initial version. -/
  dRev : BitVec 7
  /-- `PHYS_MAP` (D5): an address in no region is unbacked. -/
  physMap : List Region
  /-- `IOCSR_MAP` (D69): the ranges (first address, length) of the IOCSR space that hold a plain register byte each;
  everywhere else reads give 0 and writes are ignored. -/
  iocsrMap : List (Nat × Nat)
  /-- `UNBACKED_ACCESS` (spec/93_implementation_defined.md U14): an access with nothing behind it is refused (true), or
  a load gives any value and a store is dropped (false). -/
  unbackedRefused : Bool
  /-- LDDIR, LDPTE and the IOCSR instructions raise no alignment exception, as their own rules say
  (spec/49_privileged.md R784-R792, R807-R809; D69) (false, the default), or MISC.ALCL governs them too, as the
  manual's footnote quoted in spec/11_csr_basic.md R98 and spec/20_memory.md R243 lists them (true). Log 54. -/
  alclCoversAll : Bool
  /-- `LA32_PPN_LSB` (D30): 8 or 12. -/
  la32PpnLsb : Nat
  /-- `STLB_INDEX_LSB` (D34): true for PS+1, false for PS. -/
  stlbIndexAbovePs : Bool
  /-- `BOUND_CMP_SIGNED` (D48). -/
  boundCmpSigned : Bool
  /-- `LL_GRANULE_LOG2` (D50). -/
  llGranuleLog2 : Nat
  /-- `FNM_NEGATES_NAN` (D61). -/
  fnmNegatesNan : Bool
  /-- `FRSQRT_DOUBLE_ROUNDING` (D60). -/
  frsqrtDoubleRounding : Bool
  /-- `FTINT_INEXACT_ALWAYS` (D62). -/
  ftintInexactAlways : Bool
  /-- `FTINT_INVALID_RESULT` (D64): the saturating default with 0 for a NaN (true), or `Config.ftintInvalid`. -/
  ftintInvalidSaturates : Bool
  /-- `FCSR_ABSENT` (D66): an FCSR that does not exist ignores writes and reads 0 (true), or any value (false). -/
  fcsrAbsentNoop : Bool
  /-- `CF2R_UPPER` (D67): MOVCF2FR and MOVCF2GR write zero (true) or any value (false) above bit 0. -/
  cf2rUpperZero : Bool
  /-- `DBCL_PRIVILEGED` (D74). -/
  dbclPrivileged : Bool
  /-- `IDLE_WAKE_NEEDS_IE` (D75). -/
  idleWakeNeedsIe : Bool
  /-- Clock ticks of a step for which the host supplies no input (D20, D78). DESIGN CHOICE, log 16. -/
  stableStep : Nat
  deriving DecidableEq, Repr

/-- The instance of decision D1. DESIGN CHOICE, log 1: the manual names no default. -/
def Config.default : Config where
  la64 := true
  valen := 48
  palen := 48
  hasPgmmu := true
  hasIocsr := true
  ual := true
  hasRi := true
  hasEp := true
  hasRplv := true
  hasHp := true
  hasFp := true
  hasFpSp := true
  hasFpDp := true
  fpVer := 1
  hasLlftp := true
  llftpVer := 1
  hasLspw := true
  hasLam := true
  cpucfg3Low := 0xC1
  spwLvl := 4
  spwHpHf := true
  hasRva := false
  rvamaxMinus1 := 0
  ccFreq := 100000000
  ccMul := 1
  ccDiv := 1
  hasPm := false
  pmVer := 0
  pmNum := 0
  pmBits := 0
  upm := false
  prid := 0
  cacheWords := #v[0x2C7D, 0x06080003, 0x06080003, 0x0608000F, 0x060E000F]
  saveNum := 8
  timerBits := 48
  vMax := 7
  psavl := 0x7FFFF000
  tlbType := 2
  mtlbEntriesMinus1 := 63
  stlbWaysMinus1 := 7
  stlbSets := 8
  tlbidxN := 12
  asidBits := 10
  coreId := 0
  numDmw := 4
  mwpNum := 0
  fwpNum := 0
  dRev := 1
  physMap := [⟨0, 2 ^ 48, .ram⟩]
  iocsrMap := []
  unbackedRefused := false
  alclCoversAll := false
  la32PpnLsb := 8
  stlbIndexAbovePs := true
  boundCmpSigned := true
  llGranuleLog2 := 6
  fnmNegatesNan := false
  frsqrtDoubleRounding := false
  ftintInexactAlways := false
  ftintInvalidSaturates := true
  fcsrAbsentNoop := true
  cf2rUpperZero := true
  dbclPrivileged := true
  idleWakeNeedsIe := false
  stableStep := 1

/-- Which division instruction divided by zero (the index of `Config.divZero`). -/
inductive DivKind where
  | divW | modW | divWu | modWu | divD | modD | divDu | modDu
  deriving DecidableEq, Repr

/-- FREE VALUE. The result of a division by zero, a function of the instruction and the dividend, the whole register for
the W forms too (spec/93_implementation_defined.md U21, `DIV_ZERO_RESULT(mnemonic, a)`; log 10). -/
opaque Config.divZero : DivKind → Word → Word

/-- FREE VALUE. The stream of values the spec leaves open (U1, U10, U16, U22, U23, U24; log 8). The machine draws
them in order: `State.freeCount` is the index of the next one. -/
opaque Config.freeValue : Nat → Word

/-- FREE VALUE. What the byte at a physical address with nothing behind it reads as, where the instance does not refuse
the access (U14: any value, drawn once and then stable; log 18). -/
opaque Config.unbackedByte : Nat → Byte

/-- FREE VALUE. The result of an invalid conversion to an integer on an instance whose `FTINT_INVALID_RESULT` is not the
default: a function of the source format (double or not), the width of the result and the operand (D64; log 28). -/
opaque Config.ftintInvalid : Bool → Nat → Word → Word

/-- FREE VALUE. Where execution goes on after DBCL enters debug mode: the entry address is not in the document
(spec/13_csr_pm_watch_debug.md R223; log 21). -/
opaque Config.debugEntry : Word

end Sys2Proof
end

