-- ==== Sys2Proof/Machine/Sparse.lean ====
section
/-!
DEFINITION. Sparse data by number: a list of (key, value) pairs, keys strictly rising, no value equal to the one an
unlisted key has. Physical memory, the IOCSR space and the TLB are held so. Writing the default value removes the
entry, so equal contents are equal lists.
-/

namespace Sys2Proof.Machine

/-- The value at key `a`; `d` where nothing is listed. -/
def sparseGet {α : Type} (d : α) : List (Nat × α) → Nat → α
  | [], _ => d
  | (k, v) :: m, a => if a = k then v else sparseGet d m a

/-- `m` with the value `x` at key `a`, in canonical form. -/
def sparseSet {α : Type} [DecidableEq α] (d : α) : List (Nat × α) → Nat → α → List (Nat × α)
  | [], a, x => if x = d then [] else [(a, x)]
  | (k, v) :: m, a, x =>
    if a < k then (if x = d then (k, v) :: m else (a, x) :: (k, v) :: m)
    else if a = k then (if x = d then m else (a, x) :: m)
    else (k, v) :: sparseSet d m a x

/-- Every key is above `lo` (`lo` exclusive where present), keys rise strictly, no value is the default. -/
def sparseWfFrom {α : Type} [DecidableEq α] (d : α) : Option Nat → List (Nat × α) → Bool
  | _, [] => true
  | lo, (k, v) :: m => (lo.all fun l => decide (l < k)) && decide (v ≠ d) && sparseWfFrom d (some k) m

/-- The canonical form. -/
def sparseWf {α : Type} [DecidableEq α] (d : α) (m : List (Nat × α)) : Bool := sparseWfFrom d none m

/-- Every value becomes `f` of it, entries that become the default are dropped. `f d = d` is the caller's. -/
def sparseMap {α : Type} [DecidableEq α] (d : α) (f : Nat → α → α) : List (Nat × α) → List (Nat × α)
  | [] => []
  | (k, v) :: m => if f k v = d then sparseMap d f m else (k, f k v) :: sparseMap d f m

end Sys2Proof.Machine
end

