-- ==== Sys2Proof/Machine/State.lean ====
section
/-!
DEFINITION. The state of one core (spec/10_state.md R30-R54, the CSR files 11, 12, 13), the reasons a step can stop,
and the state after reset (spec/70_reset_and_hazards.md R890-R897). CSRs are held as the words software sees, less
the parts that are views of other state: ESTAT.IS[12:2], LLBCTL.ROLLB, ASID.ASIDBITS, MISC.ALCLn without UAL, PGD,
TVAL, TICLR, CPUID, PRCFG1-3, MWPC.Num, FWPC.Num and DBG.DRev are computed when read (Sys2Proof/Machine/Csr.lean).
Register values that the spec leaves undefined after reset are zero: DESIGN CHOICE, unsafe, log 5.
-/

namespace Sys2Proof.Machine

/-! ## Reasons to stop -/

/-- Reasons for which the machine stops with a fault: the spec calls the processor's behaviour undefined. Safe: a
claim about a run that stops says nothing of the hardware going on. Log 19. -/
inductive Fault where
  /-- More than one TLB entry matches an address (U15). Raised by every translation and by TLBSRCH. Safe. -/
  | multipleTlbHit
  /-- TLBRD or TLBWR with TLBIDX.Index beyond the last entry (U26). Safe. -/
  | tlbIndexRange
  /-- TLBWR to an STLB entry whose set or page size conflicts with the written VPPN or PS (U27). Safe. -/
  | stlbConflict
  deriving DecidableEq, Repr

/-- Reasons for which the model refuses to go on. Safe, each of them. Log 18, 20. -/
inductive Refusal where
  /-- An instruction whose meaning is not written yet; raised by Sys2Proof/Machine/Dispatch.lean alone. -/
  | notModelled (mnemonic : String)
  /-- A CSR write that makes RVACFG.RBits larger than 8 or than RVAMAX (U7). -/
  | rvacfgIllegal
  /-- A CSR write that makes ECFG.VS larger than PRCFG1.VMax (U9). -/
  | ecfgVsIllegal
  /-- A TLB lookup, TLBWR or TLBFILL that uses the STLB while STLBPS.PS is a page size the TLB does not support
  (U11). -/
  | pageSizeUnsupported
  /-- An access whose memory access type is the reserved encoding 3 (U13). -/
  | reservedMat
  /-- An access to a physical address with nothing behind it, on an instance whose parameter `UNBACKED_ACCESS` is
  `refuse` (U14; `Config.unbackedRefused`). -/
  | unbackedAddress
  /-- An access to a physical address the host's map gives to a device, whose behaviour the spec does not give (R275,
  D5; log 18). -/
  | deviceAddress
  /-- A store to a physical address the host's map gives to a ROM: what it does there is the platform's (R275, D5;
  log 18). -/
  | romStore
  /-- LDDIR naming a directory level the page tables do not have, where GR[rj] is no huge-page entry (U29). -/
  | lddirLevel
  deriving DecidableEq, Repr

/-! ## Parts of the state -/

/-- One page of a TLB entry (spec/21_address_translation.md R290). -/
structure TlbPage where
  v : Bool
  d : Bool
  nr : Bool
  nx : Bool
  rplv : Bool
  mat : BitVec 2
  plv : BitVec 2
  /-- PPN[PALEN-1:12] as a number of 4 KB frames. -/
  ppn : Word
  deriving DecidableEq, Repr

/-- One TLB entry (R290); in the STLB `ps` is not used (STLBPS.PS is). -/
structure TlbEntry where
  e : Bool
  asid : BitVec 10
  g : Bool
  ps : BitVec 6
  /-- VPPN[VALEN-1:13] as a number of 8 KB page pairs. -/
  vppn : Word
  page0 : TlbPage
  page1 : TlbPage
  deriving DecidableEq, Repr

/-- A page with every field 0. -/
def TlbPage.zero : TlbPage := ⟨false, false, false, false, false, 0, 0, 0⟩

/-- The empty entry: E = 0. An entry that is not listed reads as this. -/
def TlbEntry.empty : TlbEntry := ⟨false, 0, false, 0, 0, .zero, .zero⟩

/-- A machine error the hardware reports (spec/60_exceptions.md R861). -/
structure MerrEvent where
  cause : BitVec 8
  repairable : Bool
  info1 : Word
  info2 : Word
  deriving DecidableEq, Repr

/-- What the outside world does before one step (R849 item 1; log 16): ticks of the constant-frequency clock, the
levels of the external interrupt lines (bits 7:0 HWI7-HWI0, bit 8 IPI), a machine error, and stores by other agents
(physical byte address and byte, in order), and writes by other cores to the IOCSR space (R41, R54). -/
structure StepInput where
  ticks : Nat
  lines : BitVec 9
  merr : Option MerrEvent
  stores : List Host.Cell
  iocsrStores : List Host.Cell
  deriving DecidableEq, Repr

/-- The basic CSRs (spec/11_csr_basic.md). -/
structure BasicCsr where
  crmd : BitVec 32
  prmd : BitVec 32
  euen : BitVec 32
  misc : BitVec 32
  ecfg : BitVec 32
  /-- IS[1:0], Ecode and EsubCode; IS[12:2] are live views. -/
  estat : BitVec 32
  era : Word
  badv : Word
  badi : BitVec 32
  eentry : Word
  rvacfg : BitVec 32
  save : Vector Word 16
  /-- KLO; ROLLB is a view of `State.llbit`. -/
  llbctl : BitVec 32
  dmw : Vector Word 4
  deriving DecidableEq, Repr

/-- The CSRs of mapped address translation (spec/12_csr_mmu_timer_ras.md R130-R147). -/
structure MmuCsr where
  tlbidx : BitVec 32
  tlbehi : Word
  tlbelo0 : Word
  tlbelo1 : Word
  /-- The ASID field; ASIDBITS is a constant. -/
  asid : BitVec 32
  pgdl : Word
  pgdh : Word
  pwcl : BitVec 32
  pwch : BitVec 32
  stlbps : BitVec 32
  tlbrentry : Word
  tlbrbadv : Word
  tlbrera : Word
  tlbrsave : Word
  tlbrelo0 : Word
  tlbrelo1 : Word
  tlbrehi : Word
  tlbrprmd : BitVec 32
  deriving DecidableEq, Repr

/-- The timer CSRs and the counters behind them (R160-R164, spec/10_state.md R44, R45). -/
structure TimerState where
  tid : BitVec 32
  tcfg : Word
  cntc : Word
  stableCounter : Word
  timeVal : Word
  running : Bool
  /-- TI: the timer interrupt pending bit. -/
  ti : Bool
  deriving DecidableEq, Repr

/-- The machine error CSRs (R170-R174). -/
structure RasCsr where
  merrctl : BitVec 32
  merrinfo1 : Word
  merrinfo2 : Word
  merrentry : Word
  merrera : Word
  merrsave : Word
  deriving DecidableEq, Repr

/-- The performance monitors (spec/13_csr_pm_watch_debug.md R190-R192). -/
structure PmCsr where
  pmcfg : Vector (BitVec 32) 32
  pmcnt : Vector Word 32
  deriving DecidableEq, Repr

/-- The four configuration CSRs of one watchpoint (R203-R206, R212-R215). -/
structure Watchpoint where
  vaddr : Word
  mask : Word
  cfg3 : BitVec 32
  cfg4 : BitVec 32
  deriving DecidableEq, Repr

/-- The watchpoint CSRs (R201-R215). -/
structure WatchCsr where
  mwps : BitVec 32
  mwp : Vector Watchpoint 8
  fwps : BitVec 32
  fwp : Vector Watchpoint 8
  deriving DecidableEq, Repr

/-- The debug CSRs (R220-R222); DBG.DRev is the constant `Config.dRev` (log 70). -/
structure DebugCsr where
  dbg : BitVec 32
  dera : Word
  dsave : Word
  deriving DecidableEq, Repr

/-- One core of the machine and the memory it sees. -/
structure State where
  /-- The implementation parameters; no step changes them. -/
  cfg : Config
  /-- GR (R30). Entry 0 is never read or written. -/
  gr : Vector Word 32
  /-- The program counter (R31). -/
  pc : Word
  /-- FR (R35). -/
  fr : Vector Word 32
  /-- CFR (R37). -/
  cfr : Vector Bool 8
  /-- FCSR0 (R38). -/
  fcsr0 : BitVec 32
  csr : BasicCsr
  mmu : MmuCsr
  timer : TimerState
  ras : RasCsr
  pm : PmCsr
  watch : WatchCsr
  dbg : DebugCsr
  /-- LLbit (R42). -/
  llbit : Bool
  /-- LLaddr: the physical address of the last LL (R42). -/
  lladdr : Nat
  /-- TLB entries by index (R43; numbering R795); an unlisted entry is empty. -/
  tlb : List (Nat × TlbEntry)
  /-- External interrupt lines as last sampled: bits 7:0 HWI7-HWI0, bit 8 IPI (R46). -/
  extIrq : BitVec 9
  /-- The wait state of IDLE (R48). -/
  idle : Bool
  /-- A machine error reported and not yet taken (R861). -/
  merrPending : Option MerrEvent
  /-- Physical memory, canonical; an unlisted byte reads 0 (log 4). -/
  mem : List Host.Cell
  /-- The IOCSR space, canonical; an unlisted byte reads 0 (R784, log 36). -/
  iocsr : List Host.Cell
  /-- The model's own: index of the next free value (log 8). -/
  freeCount : Nat
  /-- The model's own: what the outside does before the coming steps (log 16). -/
  inputs : List StepInput
  /-- The model's own: the code of the last DBCL executed, the host event `DebugCall` (log 21). -/
  debugCall : Option (BitVec 15)
  /-- The model's own: the instruction word being executed, what an exception records in BADI (R104; log 52). -/
  curInsn : BitVec 32
  deriving DecidableEq, Repr

/-! ## Reset (R890-R897) -/

/-- The basic CSRs after reset. -/
def BasicCsr.reset : BasicCsr where
  crmd := 0x00000008
  prmd := 0
  euen := 0
  misc := 0
  ecfg := 0
  estat := 0
  era := 0
  badv := 0
  badi := 0
  eentry := 0
  rvacfg := 0
  save := Vector.replicate 16 0
  llbctl := 0
  dmw := Vector.replicate 4 0

/-- The CSRs of mapped translation after reset. -/
def MmuCsr.reset : MmuCsr where
  tlbidx := 0
  tlbehi := 0
  tlbelo0 := 0
  tlbelo1 := 0
  asid := 0
  pgdl := 0
  pgdh := 0
  pwcl := 0
  pwch := 0
  stlbps := 0
  tlbrentry := 0
  tlbrbadv := 0
  tlbrera := 0
  tlbrsave := 0
  tlbrelo0 := 0
  tlbrelo1 := 0
  tlbrehi := 0
  tlbrprmd := 0

/-- A watchpoint after reset: every configurable bit 0 (R895). -/
def Watchpoint.reset : Watchpoint := ⟨0, 0, 0, 0⟩

/-- The machine right after reset. -/
def State.reset : State where
  cfg := Config.default
  gr := Vector.replicate 32 0
  pc := 0x1C000000
  fr := Vector.replicate 32 0
  cfr := Vector.replicate 8 false
  fcsr0 := 0
  csr := .reset
  mmu := .reset
  timer := {
    tid := Config.default.coreId.setWidth 32
    tcfg := 0, cntc := 0, stableCounter := 0, timeVal := 0, running := false, ti := false }
  ras := { merrctl := 0, merrinfo1 := 0, merrinfo2 := 0, merrentry := 0, merrera := 0, merrsave := 0 }
  pm := { pmcfg := Vector.replicate 32 0, pmcnt := Vector.replicate 32 0 }
  watch := {
    mwps := 0, mwp := Vector.replicate 8 .reset, fwps := 0, fwp := Vector.replicate 8 .reset }
  dbg := { dbg := 0, dera := 0, dsave := 0 }
  llbit := false
  lladdr := 0
  tlb := []
  extIrq := 0
  idle := false
  merrPending := none
  mem := []
  iocsr := []
  freeCount := 0
  inputs := []
  debugCall := none
  curInsn := 0

end Sys2Proof.Machine
end

