-- ==== Sys2Proof/Machine/Ops.lean ====
section
/-!
DEFINITION. The named operations over the state: bit fields, general, floating-point and flag registers, bytes of
memory and of the IOCSR space, free values, the program counter, the interrupt lines, taking an exception
(spec/60_exceptions.md R850-R853, R860, R872) and returning from one (spec/49_privileged.md R803, R804).
-/

namespace Sys2Proof.Machine

/-- What a meaning answers. -/
abbrev Out := Host.Outcome State Fault Refusal

/-! ## Bit fields -/

/-- `x` with the `w` bits from `lo` replaced by `v`. -/
def putBits {n : Nat} (x : BitVec n) (lo w : Nat) (v : BitVec w) : BitVec n :=
  (x &&& ~~~((BitVec.allOnes w).setWidth n <<< lo)) ||| (v.setWidth n <<< lo)

/-- `x` with bit `i` replaced by `b`. -/
def putBit {n : Nat} (x : BitVec n) (i : Nat) (b : Bool) : BitVec n := putBits x i 1 (BitVec.ofBool b)

/-- The bits of `v` where `m` is 1, the bits of `old` elsewhere. -/
def mix {n : Nat} (old v m : BitVec n) : BitVec n := (old &&& ~~~m) ||| (v &&& m)

/-- `sext_64` of a 32-bit value (spec/00_scope.md R12). -/
def sext32 (x : BitVec 32) : Word := x.signExtend 64

/-- `zext_64` of the low 32 bits. -/
def zextLow32 (x : Word) : Word := (x.setWidth 32).setWidth 64

/-- The low 32 bits. -/
def low32 (x : Word) : BitVec 32 := x.setWidth 32

/-- The low `n` bits of `x`, sign-extended from bit `n - 1`. -/
def sextFrom (n : Nat) (x : Word) : Word := (x <<< (64 - n)).sshiftRight (64 - n)

end Sys2Proof.Machine

namespace Sys2Proof

open Machine

/-! ## What the configuration fixes: widths, counts -/

/-- A value as a general register holds it: all 64 bits in LA64; in LA32 the low 32, kept sign-extended (log 2). -/
def Config.normGr (c : Config) (x : Word) : Word := if c.la64 then x else sext32 (low32 x)

/-- An address or a GRLEN-wide CSR: all 64 bits in LA64, the low 32 in LA32. -/
def Config.wrap (c : Config) (x : Word) : Word := if c.la64 then x else zextLow32 x

/-- Watchpoints are implemented (spec/13_csr_pm_watch_debug.md R200). -/
def Config.hasWatch (c : Config) : Bool := c.mwpNum + c.fwpNum != 0

/-- The instance has a TLB (spec/49_privileged.md R794). -/
def Config.hasTlb (c : Config) : Bool := c.hasPgmmu && c.tlbType != 0

/-- The `n` consecutive byte addresses of the IOCSR space from `a`, modulo 2^GRLEN. -/
def Config.iocsrAddrs (c : Config) (a : Word) (n : Nat) : List Nat :=
  (List.range n).map fun k => (c.wrap (a + BitVec.ofNat 64 k)).toNat

/-- How many performance monitors are implemented (spec/13_csr_pm_watch_debug.md R190). -/
def Config.pmCount (c : Config) : Nat := if c.hasPm then c.pmNum + 1 else 0

/-- The highest bit of a performance counter: GRLEN - 1 (R193). -/
def Config.topBit (c : Config) : Nat := if c.la64 then 63 else 31

/-- `va[VALEN-1:13]` in the place a VPPN field has, with the sign extension TLBEHI shows above it (R131, R146). -/
def Config.vppnField (c : Config) (va : Word) : Word :=
  (if c.la64 then sextFrom c.valen va else zextLow32 va) &&& ~~~0x1FFF#64

end Sys2Proof

namespace Sys2Proof.Machine

/-! ## Registers -/

/-- `GR[r]` (spec/10_state.md R30): r0 reads 0. -/
def State.getGr (s : State) (r : Reg) : Word := if r = 0#5 then 0#64 else s.gr[r.toNat]'(by have := r.isLt; omega)

/-- `GR[r] <- x` (R30): a write to r0 is discarded. -/
def State.setGr (s : State) (r : Reg) (x : Word) : State :=
  if r = 0#5 then s else { s with gr := s.gr.set r.toNat (s.cfg.normGr x) (by have := r.isLt; omega) }

/-- `FR[r]` (R35). -/
def State.getFr (s : State) (r : Reg) : Word := s.fr[r.toNat]'(by have := r.isLt; omega)

/-- `FR[r][31:0]` (R36). -/
def State.getFrS (s : State) (r : Reg) : BitVec 32 := low32 (s.getFr r)

/-- `FR[r] <- x`, all 64 bits. -/
def State.setFr (s : State) (r : Reg) (x : Word) : State :=
  { s with fr := s.fr.set r.toNat x (by have := r.isLt; omega) }

/-- The next free value and the state that has drawn it (log 8). -/
def State.draw (s : State) : Word × State := (Config.freeValue s.freeCount, { s with freeCount := s.freeCount + 1 })

/-- `FR[r][31:0] <- x`; `FR[r][63:32]` becomes a free value (R36, U1; log 9). -/
def State.setFrS (s : State) (r : Reg) (x : BitVec 32) : State :=
  s.draw.2.setFr r (s.draw.1.extractLsb' 32 32 ++ x)

/-- `CFR[c]` (R37). -/
def State.getCf (s : State) (c : BitVec 3) : Bool := s.cfr[c.toNat]'(by have := c.isLt; omega)

/-- `CFR[c] <- b`. -/
def State.setCf (s : State) (c : BitVec 3) (b : Bool) : State :=
  { s with cfr := s.cfr.set c.toNat b (by have := c.isLt; omega) }

/-- `pc <- t`, as wide as a general register (R31). -/
def State.setPc (s : State) (t : Word) : State := { s with pc := s.cfg.wrap t }

/-- `pc <- pc + 4` modulo 2^GRLEN (R32). -/
def State.advance (s : State) : State := s.setPc (s.pc + 4)

/-! ## Mode -/

/-- CSR.CRMD.PLV (R34). -/
def State.plv (s : State) : BitVec 2 := s.csr.crmd.extractLsb' 0 2

/-- `va32` (R33): 32-bit address mode at the current privilege level. -/
def State.va32 (s : State) : Bool := s.cfg.la64 && s.plv != 0#2 && s.csr.misc.getLsbD s.plv.toNat

/-- A virtual address as the machine uses and records it: zero-extended from 32 bits in 32-bit address mode
(R33 items a and c, R233) and in LA32. -/
def State.vaddr (s : State) (a : Word) : Word := if s.va32 then zextLow32 a else s.cfg.wrap a

/-- A link value or PC-relative result: sign-extended from 32 bits in 32-bit address mode (R33 item b). -/
def State.link (s : State) (a : Word) : Word := if s.va32 then sext32 (low32 a) else a

/-! ## The host's maps -/

/-- What the host's map puts at a physical address (spec/20_memory.md R275). -/
def regionAt (c : Config) (pa : Nat) : Option RegionKind :=
  (c.physMap.find? fun r => decide (r.base ≤ pa ∧ pa < r.base + r.size)).map Region.kind

/-- Something stands behind the physical address (R276). -/
def backed (c : Config) (pa : Nat) : Bool := (regionAt c pa).isSome

/-- The host's IOCSR map defines the byte (spec/49_privileged.md R784, D69). -/
def iocsrDefined (c : Config) (a : Nat) : Bool := c.iocsrMap.any fun r => decide (r.1 ≤ a ∧ a < r.1 + r.2)

/-! ## Bytes: memory and the IOCSR space are little-endian (spec/20_memory.md R230, spec/49_privileged.md R784) -/

/-- A list of bytes, the first at the lowest address, as a number. -/
def wordOfBytes : List Byte → Word
  | [] => 0#64
  | b :: bs => (wordOfBytes bs <<< 8) ||| b.setWidth 64

/-- The `n` low bytes of `v`, the lowest first. -/
def bytesOfWord : Nat → Word → List Byte
  | 0, _ => []
  | n + 1, v => v.setWidth 8 :: bytesOfWord n (v >>> 8)

/-- One byte of physical memory; with nothing behind the address a free value of the address (U14; log 18). -/
def State.memByte (s : State) (a : Nat) : Byte :=
  if backed s.cfg a then sparseGet 0#8 s.mem a else Config.unbackedByte a

/-- The bytes at a list of physical addresses, the first the least significant. -/
def State.readBytes (s : State) (as : List Nat) : Word := wordOfBytes (as.map s.memByte)

/-- One byte put at an address where `p` says that something holds it; dropped elsewhere. -/
def putByte (p : Nat → Bool) (m : List Host.Cell) (a : Nat) (b : Byte) : List Host.Cell :=
  if p a then sparseSet 0#8 m a b else m

/-- Put bytes at addresses, in order, where `p` holds. -/
def putBytes (p : Nat → Bool) (m : List Host.Cell) : List Nat → List Byte → List Host.Cell
  | a :: as, b :: bs => putBytes p (putByte p m a b) as bs
  | _, _ => m

/-- Store the low bytes of `v` at a list of physical addresses; a byte with nothing behind it is dropped (U14). -/
def State.writeBytes (s : State) (as : List Nat) (v : Word) : State :=
  { s with mem := putBytes (backed s.cfg) s.mem as (bytesOfWord as.length v) }

/-- One byte of the IOCSR space: 0 at an address the host's map does not define (D69). -/
def State.iocsrByte (s : State) (a : Nat) : Byte := if iocsrDefined s.cfg a then sparseGet 0#8 s.iocsr a else 0#8

/-- `IOCSR_read(a, n)` (R784). -/
def State.iocsrRead (s : State) (a : Word) (n : Nat) : Word :=
  wordOfBytes ((s.cfg.iocsrAddrs a n).map s.iocsrByte)

/-- `IOCSR_write(a, n, v)` (R784): an address the host's map does not define ignores the write (D69). -/
def State.iocsrWrite (s : State) (a : Word) (n : Nat) (v : Word) : State :=
  { s with iocsr := putBytes (iocsrDefined s.cfg) s.iocsr (s.cfg.iocsrAddrs a n) (bytesOfWord n v) }

/-! ## Interrupt lines (spec/60_exceptions.md R865, R868, R871) -/

/-- `PMI_pending` (R193). -/
def State.pmi (s : State) : Bool :=
  (List.range 32).any fun n =>
    decide (n < s.cfg.pmCount) && (s.pm.pmcfg.getD n 0).getLsbD 20 && (s.pm.pmcnt.getD n 0).getLsbD s.cfg.topBit

/-- ESTAT.IS[12:0] (R865): IPI, TI, PMI, HWI7-HWI0, SWI1, SWI0. -/
def State.isBits (s : State) : BitVec 13 :=
  s.extIrq.extractLsb' 8 1 ++ BitVec.ofBool s.timer.ti ++ BitVec.ofBool s.pmi ++ s.extIrq.extractLsb' 0 8
    ++ s.csr.estat.extractLsb' 0 2

/-- `int_vec` (R868): pending and locally enabled. -/
def State.intVec (s : State) : BitVec 13 := s.isBits &&& s.csr.ecfg.extractLsb' 0 13

/-- `irq_taken` (R868). -/
def State.irqTaken (s : State) : Bool := s.csr.crmd.getLsbD 2 && s.intVec != 0#13

/-- What ends the wait state and keeps IDLE from entering it (spec/49_privileged.md R806, D75): an interrupt pending and
locally enabled, or a machine error. -/
def State.wakes (s : State) : Bool :=
  s.intVec != 0#13 && (!s.cfg.idleWakeNeedsIe || s.csr.crmd.getLsbD 2) || s.merrPending.isSome

/-! ## Exceptions -/

/-- The exceptions this machine raises (R830), with the bad address where one is recorded. -/
inductive Exc where
  | pil (va : Word) | pis (va : Word) | pif (va : Word) | pme (va : Word)
  | pnr (va : Word) | pnx (va : Word) | ppi (va : Word)
  | adef (va : Word) | adem (va : Word) | ale (va : Word) | bce (va : Word)
  | sys | brk | ine | ipe | fpd | fpe | wpef | wpem
  /-- TLB refill: no code of its own (R830). -/
  | tlbr (va : Word)
  deriving DecidableEq, Repr

/-- (Ecode, EsubCode) of R830; TLBR has none and is given the 0x7 that DBG.Ecode records for it (R857). -/
def Exc.code : Exc → BitVec 6 × BitVec 9
  | .pil _ => (0x1#6, 0#9)
  | .pis _ => (0x2#6, 0#9)
  | .pif _ => (0x3#6, 0#9)
  | .pme _ => (0x4#6, 0#9)
  | .pnr _ => (0x5#6, 0#9)
  | .pnx _ => (0x6#6, 0#9)
  | .ppi _ => (0x7#6, 0#9)
  | .adef _ => (0x8#6, 0#9)
  | .adem _ => (0x8#6, 1#9)
  | .ale _ => (0x9#6, 0#9)
  | .bce _ => (0xA#6, 0#9)
  | .sys => (0xB#6, 0#9)
  | .brk => (0xC#6, 0#9)
  | .ine => (0xD#6, 0#9)
  | .ipe => (0xE#6, 0#9)
  | .fpd => (0xF#6, 0#9)
  | .fpe => (0x12#6, 0#9)
  | .wpef => (0x13#6, 0#9)
  | .wpem => (0x13#6, 1#9)
  | .tlbr _ => (0x7#6, 0#9)

/-- The address BADV receives (R845): none for TLBR, which has TLBRBADV. -/
def Exc.badVa : Exc → Option Word
  | .pil va | .pis va | .pif va | .pme va | .pnr va | .pnx va | .ppi va => some va
  | .adef va | .adem va | .ale va | .bce va => some va
  | .sys | .brk | .ine | .ipe | .fpd | .fpe | .wpef | .wpem | .tlbr _ => none

/-- The exceptions that also record TLBEHI.VPPN (R852). -/
def Exc.isPage : Exc → Bool
  | .pil _ | .pis _ | .pif _ | .pme _ | .pnr _ | .pnx _ | .ppi _ => true
  | _ => false

/-- The offset of R846 for exception number `n`. -/
def entryOffset (ecfg : BitVec 32) (n : Nat) : Word :=
  let vs := (ecfg.extractLsb' 16 3).toNat
  if vs = 0 then 0#64 else BitVec.ofNat 64 (2 ^ (vs + 2) * n)

/-- In debug mode an exception's code is also recorded in DBG.Ecode (R857). -/
def State.noteDebug (s : State) (e : BitVec 6) : DebugCsr :=
  if s.dbg.dbg.getLsbD 0 then { s.dbg with dbg := putBits s.dbg.dbg 16 6 e } else s.dbg

/-- General exception entry (R851), exception number `n` (R846): PRMD, CRMD, ERA, ESTAT and pc. -/
def State.enterGeneral (s : State) (n : Nat) (e : BitVec 6) (sub : BitVec 9) : State :=
  { s with
    csr := { s.csr with
      prmd := (s.csr.crmd.extractLsb' 9 1 ++ s.csr.crmd.extractLsb' 0 3).setWidth 32
      crmd := s.csr.crmd &&& ~~~0x207#32
      era := s.vaddr s.pc
      estat := putBits (putBits s.csr.estat 16 6 e) 22 9 sub }
    dbg := s.noteDebug e
    pc := s.cfg.wrap (s.csr.eentry ||| entryOffset s.csr.ecfg n) }

/-- TLB refill entry (R853) for the faulting address `va`. -/
def State.enterRefill (s : State) (va : Word) : State :=
  { s with
    csr := { s.csr with crmd := (s.csr.crmd &&& ~~~0x21F#32) ||| 0x8#32 }
    mmu := { s.mmu with
      tlbrprmd := (s.csr.crmd.extractLsb' 9 1 ++ 0#1 ++ s.csr.crmd.extractLsb' 0 3).setWidth 32
      tlbrera := (s.vaddr s.pc &&& ~~~3#64) ||| 1#64
      tlbrbadv := s.vaddr va
      tlbrehi := (s.mmu.tlbrehi &&& 0x3F#64) ||| s.cfg.vppnField va }
    dbg := s.noteDebug 0x7#6
    pc := s.cfg.wrap s.mmu.tlbrentry }

/-- Machine error entry (R860). -/
def State.enterMerr (s : State) (ev : MerrEvent) : State :=
  let c := s.csr.crmd
  { s with
    csr := { s.csr with crmd := 0x8#32 }
    ras := { s.ras with
      merrctl := 0#8 ++ ev.cause ++ 0#3 ++ c.extractLsb' 3 6 ++ c.extractLsb' 9 1 ++ 0#1 ++ c.extractLsb' 2 1
        ++ c.extractLsb' 0 2 ++ BitVec.ofBool ev.repairable ++ 1#1
      merrera := s.pc
      merrinfo1 := s.cfg.wrap ev.info1
      merrinfo2 := s.cfg.wrap ev.info2 }
    dbg := s.noteDebug 0xE#6
    merrPending := none
    pc := s.cfg.wrap s.ras.merrentry }

/-- Interrupt entry (R872): the highest pending and enabled number chooses the entry; BADV and BADI stay. -/
def State.enterIrq (s : State) : State := s.enterGeneral (64 + Nat.log2 s.intVec.toNat) 0#6 0#9

/-- BADI <- the instruction word; a free value when the fetch itself failed (R104, U10; log 11). -/
def State.recordBadi (s : State) (fetch : Bool) : State :=
  if fetch then { s.draw.2 with csr := { s.csr with badi := low32 s.draw.1 } }
  else { s with csr := { s.csr with badi := s.curInsn } }

/-- BADV and TLBEHI.VPPN, where the exception records them (R851, R852). -/
def State.recordBadv (s : State) (x : Exc) : State :=
  match x.badVa with
  | none => s
  | some va =>
    { s with
      csr := { s.csr with badv := s.vaddr va }
      mmu := if x.isPage then { s.mmu with tlbehi := s.cfg.vppnField (s.vaddr va) } else s.mmu }

/-- Take exception `x` on the instruction at `pc` (R850); `fetch` says that fetching it is what failed. -/
def State.takeExc (s : State) (fetch : Bool) (x : Exc) : State :=
  match x with
  | .tlbr va => (s.recordBadi fetch).enterRefill va
  | x => ((s.recordBadi fetch).recordBadv x).enterGeneral x.code.1.toNat x.code.1 x.code.2

/-- `raise X` by an executing instruction. -/
def State.raise (s : State) (x : Exc) : Out := .next (s.takeExc false x)

/-! ## Return from an exception (spec/49_privileged.md R803, R804) -/

/-- The LLbit step of every ERTN (R804). -/
def State.ertnLlbit (s : State) : State :=
  if s.csr.llbctl.getLsbD 2 then { s with csr := { s.csr with llbctl := putBit s.csr.llbctl 2 false } }
  else { s with llbit := false }

/-- CRMD with PLV and IE from bits [2:0] of a saved mode and WE from `we`. -/
def restoreMode (crmd : BitVec 32) (plvIe : BitVec 3) (we : BitVec 1) : BitVec 32 :=
  putBits (putBits crmd 0 3 plvIe) 9 1 we

/-- The mode and pc of ERTN, by the context it returns from (R803). -/
def State.ertnContext (s : State) : State :=
  let c := s.csr.crmd
  if s.dbg.dbg.getLsbD 0 then
    { s with dbg := { s.dbg with dbg := putBit s.dbg.dbg 0 false }, pc := s.cfg.wrap s.dbg.dera }
  else if s.ras.merrctl.getLsbD 0 then
    let m := s.ras.merrctl
    { s with
      csr := { s.csr with
        crmd := putBits (restoreMode c (m.extractLsb' 2 3) (m.extractLsb' 6 1)) 3 6 (m.extractLsb' 7 6) }
      ras := { s.ras with merrctl := putBit m 0 false }
      pc := s.cfg.wrap s.ras.merrera }
  else if s.mmu.tlbrera.getLsbD 0 then
    let p := s.mmu.tlbrprmd
    { s with
      csr := { s.csr with
        crmd := putBits (restoreMode c (p.extractLsb' 0 3) (p.extractLsb' 4 1)) 3 2 0b10#2 }
      mmu := { s.mmu with tlbrera := putBit s.mmu.tlbrera 0 false }
      pc := s.cfg.wrap (s.mmu.tlbrera &&& ~~~3#64) }
  else
    let p := s.csr.prmd
    { s with
      csr := { s.csr with crmd := restoreMode c (p.extractLsb' 0 3) (p.extractLsb' 3 1) }
      pc := s.cfg.wrap s.csr.era }

/-- Return from exception. -/
def State.ertn (s : State) : State := s.ertnContext.ertnLlbit

/-! ## Gates: the decode-stage checks, in the order of decision D68 (spec/60_exceptions.md R849 item 6) -/

/-- INE unless the instance has the instruction (spec/30_encoding.md R337 item b). -/
def State.need (s : State) (present : Bool) (k : Out) : Out := if present then k else s.raise .ine

/-- The instruction exists in LA64 only (R343). -/
def State.la64Only (s : State) (k : Out) : Out := s.need s.cfg.la64 k

/-- IPE unless at PLV0 (spec/49_privileged.md R780). -/
def State.privileged (s : State) (k : Out) : Out := if s.plv = 0#2 then k else s.raise .ipe

/-- FPD unless EUEN.FPE (spec/46_fp_arith.md R644). -/
def State.fpEnabled (s : State) (k : Out) : Out := if s.csr.euen.getLsbD 0 then k else s.raise .fpd

end Sys2Proof.Machine
end

