-- ==== Sys2Proof/Machine/Csr.lean ====
section
/-!
DEFINITION. The control and status registers: the address map (spec/11_csr_basic.md R80), what a read returns and
what a write changes, field by field (R81, R82, R85; the fields in spec/11_csr_basic.md, 12_csr_mmu_timer_ras.md,
13_csr_pm_watch_debug.md), and the write side effects (spec/49_privileged.md R782).
-/

namespace Sys2Proof.Machine

/-- The implemented CSRs of Table 14 (R80). IMPCTL1, IMPCTL2 and CTAG are not: their format is the implementation's
(R113, R114, U20; log 39). -/
inductive CsrId where
  | crmd | prmd | euen | misc | ecfg | estat | era | badv | badi | eentry
  | tlbidx | tlbehi | tlbelo0 | tlbelo1 | asid | pgdl | pgdh | pgd | pwcl | pwch | stlbps | rvacfg
  | cpuid | prcfg1 | prcfg2 | prcfg3
  | save (n : Fin 16)
  | tid | tcfg | tval | cntc | ticlr | llbctl
  | tlbrentry | tlbrbadv | tlbrera | tlbrsave | tlbrelo0 | tlbrelo1 | tlbrehi | tlbrprmd
  | merrctl | merrinfo1 | merrinfo2 | merrentry | merrera | merrsave
  | dmw (n : Fin 4)
  | pmcfg (n : Fin 32) | pmcnt (n : Fin 32)
  | mwpc | mwps | mwpCfg (n : Fin 8) (k : Fin 4)
  | fwpc | fwps | fwpCfg (n : Fin 8) (k : Fin 4)
  | dbg | dera | dsave
  deriving DecidableEq, Repr

/-- The CSRs with a number of their own (R80), before the implementation's choices. -/
def csrFixed (n : Nat) : Option CsrId :=
  match n with
  | 0x0 => some .crmd | 0x1 => some .prmd | 0x2 => some .euen | 0x3 => some .misc
  | 0x4 => some .ecfg | 0x5 => some .estat | 0x6 => some .era | 0x7 => some .badv
  | 0x8 => some .badi | 0xC => some .eentry
  | 0x10 => some .tlbidx | 0x11 => some .tlbehi | 0x12 => some .tlbelo0 | 0x13 => some .tlbelo1
  | 0x18 => some .asid | 0x19 => some .pgdl | 0x1A => some .pgdh | 0x1B => some .pgd
  | 0x1C => some .pwcl | 0x1D => some .pwch | 0x1E => some .stlbps | 0x1F => some .rvacfg
  | 0x20 => some .cpuid | 0x21 => some .prcfg1 | 0x22 => some .prcfg2 | 0x23 => some .prcfg3
  | 0x40 => some .tid | 0x41 => some .tcfg | 0x42 => some .tval | 0x43 => some .cntc | 0x44 => some .ticlr
  | 0x60 => some .llbctl
  | 0x88 => some .tlbrentry | 0x89 => some .tlbrbadv | 0x8A => some .tlbrera | 0x8B => some .tlbrsave
  | 0x8C => some .tlbrelo0 | 0x8D => some .tlbrelo1 | 0x8E => some .tlbrehi | 0x8F => some .tlbrprmd
  | 0x90 => some .merrctl | 0x91 => some .merrinfo1 | 0x92 => some .merrinfo2 | 0x93 => some .merrentry
  | 0x94 => some .merrera | 0x95 => some .merrsave
  | 0x300 => some .mwpc | 0x301 => some .mwps | 0x380 => some .fwpc | 0x381 => some .fwps
  | 0x500 => some .dbg | 0x501 => some .dera | 0x502 => some .dsave
  | _ => none

/-- The CSRs that come in numbered groups (R80). -/
def csrGrouped (n : Nat) : Option CsrId :=
  if 0x30 ≤ n ∧ n < 0x40 then some (.save (Fin.ofNat 16 (n - 0x30)))
  else if 0x180 ≤ n ∧ n < 0x184 then some (.dmw (Fin.ofNat 4 (n - 0x180)))
  else if 0x200 ≤ n ∧ n < 0x240 then
    if n % 2 = 0 then some (.pmcfg (Fin.ofNat 32 ((n - 0x200) / 2)))
    else some (.pmcnt (Fin.ofNat 32 ((n - 0x200) / 2)))
  else if 0x310 ≤ n ∧ n < 0x350 ∧ n % 8 < 4 then
    some (.mwpCfg (Fin.ofNat 8 ((n - 0x310) / 8)) (Fin.ofNat 4 (n % 8)))
  else if 0x390 ≤ n ∧ n < 0x3D0 ∧ n % 8 < 4 then
    some (.fwpCfg (Fin.ofNat 8 ((n - 0x390) / 8)) (Fin.ofNat 4 (n % 8)))
  else none

/-- Whether the instance implements the CSR (R83). -/
def CsrId.implemented (c : Config) : CsrId → Bool
  | .save n => decide (n.val < c.saveNum)
  | .dmw n => decide (n.val < c.numDmw)
  | .pmcfg n | .pmcnt n => decide (n.val < c.pmCount)
  | .mwpCfg n _ => decide (n.val < c.mwpNum)
  | .fwpCfg n _ => decide (n.val < c.fwpNum)
  | .pwch => c.la64 && c.tlbType != 0
  | .rvacfg => c.la64
  | .tlbidx | .tlbehi | .tlbelo0 | .tlbelo1 | .asid | .pgdl | .pgdh | .pgd | .pwcl | .stlbps
  | .tlbrentry | .tlbrbadv | .tlbrera | .tlbrsave | .tlbrelo0 | .tlbrelo1 | .tlbrehi | .tlbrprmd => c.tlbType != 0
  | .tid | .tcfg | .tval | .cntc | .ticlr => c.hasLlftp
  | .crmd | .prmd | .euen | .misc | .ecfg | .estat | .era | .badv | .badi | .eentry
  | .cpuid | .prcfg1 | .prcfg2 | .prcfg3 | .llbctl
  | .merrctl | .merrinfo1 | .merrinfo2 | .merrentry | .merrera | .merrsave
  | .mwpc | .mwps | .fwpc | .fwps | .dbg | .dera | .dsave => true

/-- The CSR of a `csr_num`: none where the number is undefined or the instance does not implement it (R83). -/
def csrOfNum (c : Config) (num : BitVec 14) : Option CsrId :=
  ((csrFixed num.toNat).or (csrGrouped num.toNat)).filter (CsrId.implemented c)

/-! ## Write masks: the RW bits of each CSR -/

/-- All GRLEN bits. -/
def grMask (c : Config) : Word := if c.la64 then BitVec.allOnes 64 else 0xFFFFFFFF#64

/-- `2^n - 1`, the low `n` bits. -/
def lowMask (n : Nat) : Word := BitVec.ofNat 64 (2 ^ n - 1)

/-- The physical page number of a refill or machine error entry: [PALEN-1:12] in LA64, [31:12] in LA32 (R141, R172). -/
def ppnMask (c : Config) : Word := lowMask (if c.la64 then c.palen else 32) &&& ~~~0xFFF#64

/-- The writable bits of TLBELO0/1 and TLBRELO0/1 (R132, R145): NR, NX, RPLV only where the attribute exists
(log 35). -/
def eloMask (c : Config) : Word :=
  if c.la64 then
    0x7F#64 ||| ppnMask c
      ||| (BitVec.ofBool c.hasRplv ++ BitVec.ofBool c.hasEp ++ BitVec.ofBool c.hasRi ++ 0#61)
  else 0x7F#64 ||| (0xFFFFFFFF#64 &&& ~~~lowMask c.la32PpnLsb)

/-- WE and its saved copies are constant 0 without watchpoints (R91, R200; log 33). -/
def weMask (c : Config) (i : Nat) (m : BitVec 32) : BitVec 32 := if c.hasWatch then m else putBit m i false

/-- Writable bits of CRMD (R86). -/
def crmdMask (c : Config) : BitVec 32 := weMask c 9 0x3FF#32
/-- Writable bits of PRMD (R92). -/
def prmdMask (c : Config) : BitVec 32 := weMask c 3 0xF#32
/-- Writable bits of EUEN: SXE, ASXE and BTE are constant 0, the extensions do not exist (R93; log 34). -/
def euenMask (c : Config) : BitVec 32 := if c.hasFp then 1#32 else 0#32
/-- Writable bits of MISC (R94). -/
def miscMask (c : Config) : BitVec 32 :=
  0x00070EE0#32 ||| (if c.la64 then 0xE#32 else 0#32) ||| (if c.ual then 0xF000#32 else 0#32)
/-- Writable bits of TLBIDX (R130). -/
def tlbidxMask (c : Config) : BitVec 32 := 0xBF000000#32 ||| low32 (lowMask c.tlbidxN)
/-- Writable bits of TLBRPRMD (R147). -/
def tlbrprmdMask (c : Config) : BitVec 32 := weMask c 4 0x17#32
/-- Writable bits of MERRCTL (R170). -/
def merrctlMask (c : Config) : BitVec 32 := weMask c 6 0x1FDE#32
/-- Writable bits of DMWn (R148). -/
def dmwMask (c : Config) : Word := if c.la64 then 0xF00000000000003F#64 else 0xEE00003F#64

/-! ## Reading -/

/-- One configuration register of a watchpoint, as read. -/
def Watchpoint.cfg (w : Watchpoint) (k : Fin 4) : Word :=
  match k with
  | 0 => w.vaddr
  | 1 => w.mask
  | 2 => sext32 w.cfg3
  | 3 => sext32 w.cfg4

/-- CSR.PRCFG1 (R108); 16 SAVE registers show as 0 in the 4-bit SAVENum (N12: DESIGN CHOICE, log 55). -/
def prcfg1 (c : Config) : BitVec 32 :=
  BitVec.ofNat 32 (c.saveNum % 16) ||| (BitVec.ofNat 32 ((c.timerBits - 1) % 256) <<< 4) ||| (c.vMax.setWidth 32 <<< 12)

/-- CSR.PRCFG3 (R110). -/
def prcfg3 (c : Config) : BitVec 32 :=
  BitVec.ofNat 32 (c.tlbType % 16)
    ||| (if c.tlbType = 0 then 0#32 else BitVec.ofNat 32 (c.mtlbEntriesMinus1 % 256) <<< 4)
    ||| (if c.tlbType = 2 then
          (BitVec.ofNat 32 (c.stlbWaysMinus1 % 256) <<< 12) ||| (BitVec.ofNat 32 (c.stlbSets % 64) <<< 20)
        else 0#32)

/-- CSR.PGD (R137): PGDL or PGDH by bit VALEN-1 of the bad address of the current context. -/
def State.pgd (s : State) : Word :=
  let bad := if s.mmu.tlbrera.getLsbD 0 then s.mmu.tlbrbadv else s.csr.badv
  if bad.getLsbD (s.cfg.valen - 1) then s.mmu.pgdh else s.mmu.pgdl

/-- The value of an implemented CSR as a read returns it (R781): every field per its attribute, a 32-bit CSR
sign-extended (R82). DBG.DRev is the constant `Config.dRev` (R220; DESIGN CHOICE, log 70). -/
def State.csrRead (s : State) (id : CsrId) : Word :=
  match id with
  | .crmd => sext32 s.csr.crmd
  | .prmd => sext32 s.csr.prmd
  | .euen => sext32 s.csr.euen
  | .misc => sext32 (s.csr.misc ||| (if s.cfg.ual then 0#32 else 0xF000#32))
  | .ecfg => sext32 s.csr.ecfg
  | .estat => sext32 (putBits s.csr.estat 0 13 s.isBits)
  | .era => s.csr.era
  | .badv => s.csr.badv
  | .badi => sext32 s.csr.badi
  | .eentry => s.csr.eentry
  | .tlbidx => sext32 s.mmu.tlbidx
  | .tlbehi => s.mmu.tlbehi
  | .tlbelo0 => s.mmu.tlbelo0
  | .tlbelo1 => s.mmu.tlbelo1
  | .asid => sext32 (putBits s.mmu.asid 16 8 s.cfg.asidBits)
  | .pgdl => s.mmu.pgdl
  | .pgdh => s.mmu.pgdh
  | .pgd => s.pgd
  | .pwcl => sext32 s.mmu.pwcl
  | .pwch => sext32 s.mmu.pwch
  | .stlbps => sext32 s.mmu.stlbps
  | .rvacfg => sext32 s.csr.rvacfg
  | .cpuid => sext32 (s.cfg.coreId.setWidth 32)
  | .prcfg1 => sext32 (prcfg1 s.cfg)
  | .prcfg2 => s.cfg.psavl
  | .prcfg3 => sext32 (prcfg3 s.cfg)
  | .save n => s.csr.save[n.val]
  | .tid => sext32 s.timer.tid
  | .tcfg => s.timer.tcfg
  | .tval => s.timer.timeVal
  | .cntc => s.timer.cntc
  | .ticlr => 0#64
  | .llbctl => sext32 (putBit (putBit s.csr.llbctl 0 s.llbit) 1 false)
  | .tlbrentry => s.mmu.tlbrentry
  | .tlbrbadv => s.mmu.tlbrbadv
  | .tlbrera => s.mmu.tlbrera
  | .tlbrsave => s.mmu.tlbrsave
  | .tlbrelo0 => s.mmu.tlbrelo0
  | .tlbrelo1 => s.mmu.tlbrelo1
  | .tlbrehi => s.mmu.tlbrehi
  | .tlbrprmd => sext32 s.mmu.tlbrprmd
  | .merrctl => sext32 s.ras.merrctl
  | .merrinfo1 => s.ras.merrinfo1
  | .merrinfo2 => s.ras.merrinfo2
  | .merrentry => s.ras.merrentry
  | .merrera => s.ras.merrera
  | .merrsave => s.ras.merrsave
  | .dmw n => s.csr.dmw[n.val]
  | .pmcfg n => sext32 s.pm.pmcfg[n.val]
  | .pmcnt n => s.pm.pmcnt[n.val]
  | .mwpc => BitVec.ofNat 64 (s.cfg.mwpNum % 64)
  | .mwps => sext32 s.watch.mwps
  | .mwpCfg n k => s.watch.mwp[n.val].cfg k
  | .fwpc => BitVec.ofNat 64 (s.cfg.fwpNum % 64)
  | .fwps => sext32 s.watch.fwps
  | .fwpCfg n k => s.watch.fwp[n.val].cfg k
  | .dbg => sext32 (putBits s.dbg.dbg 1 7 s.cfg.dRev)
  | .dera => s.dbg.dera
  | .dsave => s.dbg.dsave

/-- `csr_read(csr_num)`: 0 for an undefined or unimplemented number (R83, D11). -/
def State.csrReadNum (s : State) (num : BitVec 14) : Word :=
  match csrOfNum s.cfg num with
  | some id => s.csrRead id
  | none => 0#64

/-! ## Writing -/

/-- Status bits are RW1: cleared where 1 is written; Skip is RW (R202, R211). -/
def writeWps (num : Nat) (old v m : BitVec 32) : BitVec 32 :=
  putBit (old &&& ~~~(v &&& m &&& low32 (lowMask num))) 16 ((mix old v m).getLsbD 16)

/-- A write to one watchpoint configuration register (R203-R206, R212-R215): outside debug mode DMOnly keeps its
value, and a watchpoint whose DMOnly is 1 keeps everything. -/
def Watchpoint.write (w : Watchpoint) (c : Config) (dm : Bool) (cfg3Mask : BitVec 32) (k : Fin 4) (v m : Word) :
    Watchpoint :=
  if w.cfg3.getLsbD 0 && !dm then w
  else match k with
    | 0 => { w with vaddr := mix w.vaddr v (m &&& grMask c) }
    | 1 => { w with mask := mix w.mask v (m &&& grMask c) }
    | 2 => { w with cfg3 := mix w.cfg3 (low32 v) (low32 m &&& (if dm then cfg3Mask else cfg3Mask &&& ~~~1#32)) }
    | 3 => { w with cfg4 := mix w.cfg4 (low32 v) (low32 m &&& 0x3FF#32) }

/-- TCFG takes the value, then the timer starts with it or stops (spec/60_exceptions.md R876). -/
def TimerState.writeTcfg (t : TimerState) (c : Config) (v m : Word) : TimerState :=
  let tcfg := mix t.tcfg v (m &&& grMask c &&& lowMask c.timerBits)
  if tcfg.getLsbD 0 then { t with tcfg := tcfg, timeVal := tcfg &&& ~~~3#64, running := true }
  else { t with tcfg := tcfg, running := false }

/-- The largest RVACFG.RBits the instance accepts (R106, U7; log 18). -/
def rbitsMax (c : Config) : Nat := if c.hasRva then min 8 (c.rvamaxMinus1.toNat + 1) else 8

/-- `csr_write` of an implemented CSR: the bits of `v` where `m` is 1, per field (R85), with the register's side
effects (R782). An error where the value is one that U7 or U9 refuses. -/
def State.csrWrite (s : State) (id : CsrId) (v m : Word) : Except Refusal State :=
  let v32 := low32 v
  let m32 := low32 m
  match id with
  | .crmd => .ok { s with csr := { s.csr with crmd := mix s.csr.crmd v32 (m32 &&& crmdMask s.cfg) } }
  | .prmd => .ok { s with csr := { s.csr with prmd := mix s.csr.prmd v32 (m32 &&& prmdMask s.cfg) } }
  | .euen => .ok { s with csr := { s.csr with euen := mix s.csr.euen v32 (m32 &&& euenMask s.cfg) } }
  | .misc => .ok { s with csr := { s.csr with misc := mix s.csr.misc v32 (m32 &&& miscMask s.cfg) } }
  | .ecfg =>
    let e := mix s.csr.ecfg v32 (m32 &&& 0x00071FFF#32)
    if s.cfg.vMax < e.extractLsb' 16 3 then .error .ecfgVsIllegal
    else .ok { s with csr := { s.csr with ecfg := e } }
  | .estat => .ok { s with csr := { s.csr with estat := mix s.csr.estat v32 (m32 &&& 3#32) } }
  | .era => .ok { s with csr := { s.csr with era := mix s.csr.era v (m &&& grMask s.cfg) } }
  | .badv => .ok { s with csr := { s.csr with badv := mix s.csr.badv v (m &&& grMask s.cfg) } }
  | .badi => .ok s
  | .eentry => .ok { s with csr := { s.csr with eentry := mix s.csr.eentry v (m &&& grMask s.cfg &&& ~~~0xFFF#64) } }
  | .tlbidx => .ok { s with mmu := { s.mmu with tlbidx := mix s.mmu.tlbidx v32 (m32 &&& tlbidxMask s.cfg) } }
  | .tlbehi => .ok { s with mmu := { s.mmu with tlbehi := s.cfg.vppnField (mix s.mmu.tlbehi v m) } }
  | .tlbelo0 => .ok { s with mmu := { s.mmu with tlbelo0 := mix s.mmu.tlbelo0 v (m &&& eloMask s.cfg) } }
  | .tlbelo1 => .ok { s with mmu := { s.mmu with tlbelo1 := mix s.mmu.tlbelo1 v (m &&& eloMask s.cfg) } }
  | .asid => .ok { s with mmu := { s.mmu with asid := mix s.mmu.asid v32 (m32 &&& 0x3FF#32) } }
  | .pgdl => .ok { s with mmu := { s.mmu with pgdl := mix s.mmu.pgdl v (m &&& grMask s.cfg &&& ~~~0xFFF#64) } }
  | .pgdh => .ok { s with mmu := { s.mmu with pgdh := mix s.mmu.pgdh v (m &&& grMask s.cfg &&& ~~~0xFFF#64) } }
  | .pgd => .ok s
  | .pwcl => .ok { s with mmu := { s.mmu with pwcl := mix s.mmu.pwcl v32 m32 } }
  | .pwch => .ok { s with mmu := { s.mmu with pwch := mix s.mmu.pwch v32 (m32 &&& 0x00FFFFFF#32) } }
  | .stlbps => .ok { s with mmu := { s.mmu with stlbps := mix s.mmu.stlbps v32 (m32 &&& 0x3F#32) } }
  | .rvacfg =>
    let e := mix s.csr.rvacfg v32 (m32 &&& 0xF#32)
    if rbitsMax s.cfg < (e.extractLsb' 0 4).toNat then .error .rvacfgIllegal
    else .ok { s with csr := { s.csr with rvacfg := e } }
  | .cpuid | .prcfg1 | .prcfg2 | .prcfg3 => .ok s
  | .save n =>
    .ok { s with csr := { s.csr with save := s.csr.save.set n.val (mix s.csr.save[n.val] v (m &&& grMask s.cfg)) } }
  | .tid => .ok { s with timer := { s.timer with tid := mix s.timer.tid v32 m32 } }
  | .tcfg => .ok { s with timer := s.timer.writeTcfg s.cfg v m }
  | .tval => .ok s
  | .cntc => .ok { s with timer := { s.timer with cntc := mix s.timer.cntc v (m &&& grMask s.cfg) } }
  | .ticlr => .ok (if (v32 &&& m32).getLsbD 0 then { s with timer := { s.timer with ti := false } } else s)
  | .llbctl =>
    .ok { s with
      llbit := s.llbit && !(v32 &&& m32).getLsbD 1
      csr := { s.csr with llbctl := mix s.csr.llbctl v32 (m32 &&& 4#32) } }
  | .tlbrentry => .ok { s with mmu := { s.mmu with tlbrentry := mix s.mmu.tlbrentry v (m &&& ppnMask s.cfg) } }
  | .tlbrbadv => .ok { s with mmu := { s.mmu with tlbrbadv := mix s.mmu.tlbrbadv v (m &&& grMask s.cfg) } }
  | .tlbrera => .ok { s with mmu := { s.mmu with tlbrera := mix s.mmu.tlbrera v (m &&& grMask s.cfg &&& ~~~2#64) } }
  | .tlbrsave => .ok { s with mmu := { s.mmu with tlbrsave := mix s.mmu.tlbrsave v (m &&& grMask s.cfg) } }
  | .tlbrelo0 => .ok { s with mmu := { s.mmu with tlbrelo0 := mix s.mmu.tlbrelo0 v (m &&& eloMask s.cfg) } }
  | .tlbrelo1 => .ok { s with mmu := { s.mmu with tlbrelo1 := mix s.mmu.tlbrelo1 v (m &&& eloMask s.cfg) } }
  | .tlbrehi =>
    let e := mix s.mmu.tlbrehi v m
    .ok { s with mmu := { s.mmu with tlbrehi := s.cfg.vppnField e ||| (e &&& 0x3F#64) } }
  | .tlbrprmd => .ok { s with mmu := { s.mmu with tlbrprmd := mix s.mmu.tlbrprmd v32 (m32 &&& tlbrprmdMask s.cfg) } }
  | .merrctl => .ok { s with ras := { s.ras with merrctl := mix s.ras.merrctl v32 (m32 &&& merrctlMask s.cfg) } }
  | .merrinfo1 | .merrinfo2 => .ok s
  | .merrentry => .ok { s with ras := { s.ras with merrentry := mix s.ras.merrentry v (m &&& ppnMask s.cfg) } }
  | .merrera => .ok { s with ras := { s.ras with merrera := mix s.ras.merrera v (m &&& grMask s.cfg) } }
  | .merrsave => .ok { s with ras := { s.ras with merrsave := mix s.ras.merrsave v (m &&& grMask s.cfg) } }
  | .dmw n =>
    .ok { s with csr := { s.csr with dmw := s.csr.dmw.set n.val (mix s.csr.dmw[n.val] v (m &&& dmwMask s.cfg)) } }
  | .pmcfg n =>
    .ok { s with pm := { s.pm with pmcfg := s.pm.pmcfg.set n.val (mix s.pm.pmcfg[n.val] v32 (m32 &&& 0x001F03FF#32)) } }
  | .pmcnt n =>
    .ok { s with pm := { s.pm with pmcnt := s.pm.pmcnt.set n.val (mix s.pm.pmcnt[n.val] v (m &&& grMask s.cfg)) } }
  | .mwpc | .fwpc => .ok s
  | .mwps => .ok { s with watch := { s.watch with mwps := writeWps s.cfg.mwpNum s.watch.mwps v32 m32 } }
  | .mwpCfg n k =>
    .ok { s with watch := { s.watch with
      mwp := s.watch.mwp.set n.val (s.watch.mwp[n.val].write s.cfg (s.dbg.dbg.getLsbD 0) 0xF9F#32 k v m) } }
  | .fwps => .ok { s with watch := { s.watch with fwps := writeWps s.cfg.fwpNum s.watch.fwps v32 m32 } }
  | .fwpCfg n k =>
    .ok { s with watch := { s.watch with
      fwp := s.watch.fwp.set n.val (s.watch.fwp[n.val].write s.cfg (s.dbg.dbg.getLsbD 0) 0x9F#32 k v m) } }
  | .dbg => .ok s
  | .dera => .ok { s with dbg := { s.dbg with dera := mix s.dbg.dera v (m &&& grMask s.cfg) } }
  | .dsave => .ok { s with dbg := { s.dbg with dsave := mix s.dbg.dsave v (m &&& grMask s.cfg) } }

/-- `csr_write(csr_num, v, m)`: nothing for an undefined or unimplemented number (R83). -/
def State.csrWriteNum (s : State) (num : BitVec 14) (v m : Word) : Except Refusal State :=
  match csrOfNum s.cfg num with
  | some id => s.csrWrite id v m
  | none => .ok s

end Sys2Proof.Machine
end

