-- ==== Sys2Proof/Machine/Translate.lean ====
section
/-!
DEFINITION. Address translation (spec/21_address_translation.md) and the access procedures (spec/20_memory.md
R250, R251): watchpoints, alignment, legality, bound, TLB, and the physical bytes an access touches.
-/

namespace Sys2Proof.Machine

/-- What a check answers: it passes with a value, takes an exception, or stops. -/
inductive Check (α : Type) where
  | ok (a : α)
  | trap (x : Exc)
  | fault (f : Fault)
  | refused (r : Refusal)
  deriving Repr

/-- Go on with the value of a check that passes. -/
def Check.bind {α β : Type} (c : Check α) (k : α → Check β) : Check β :=
  match c with
  | .ok a => k a
  | .trap x => .trap x
  | .fault f => .fault f
  | .refused r => .refused r

/-- End a check: go on, or take its exception in `s`, or stop. -/
def Check.run {α : Type} (c : Check α) (s : State) (k : α → Out) : Out :=
  match c with
  | .ok a => k a
  | .trap x => s.raise x
  | .fault f => .fault f
  | .refused r => .refused r

/-- The kind of an access (`mem_type` of R302, and the read-modify-write of AM* and SC, D42). -/
inductive AccessKind where
  | fetch | load | store | rmw
  deriving DecidableEq, Repr

/-! ## The TLB -/

/-- `N_S`: how many entries the STLB has (spec/49_privileged.md R795); 0 unless TLBType is 2. -/
def stlbEntries (c : Config) : Nat := if c.tlbType = 2 then (c.stlbWaysMinus1 + 1) * 2 ^ c.stlbSets else 0

/-- How many entries the TLB has. -/
def tlbEntries (c : Config) : Nat := stlbEntries c + (c.mtlbEntriesMinus1 + 1)

/-- The page size is one PRCFG2 lists (R109). -/
def psSupported (c : Config) (ps : Nat) : Bool := c.psavl.getLsbD ps

/-- `stlb_idx(va)` (R292) for page size exponent `ps`. -/
def stlbIdx (c : Config) (ps : Nat) (va : Word) : Nat :=
  va.toNat / 2 ^ (if c.stlbIndexAbovePs then ps + 1 else ps) % 2 ^ c.stlbSets

/-- CSR.STLBPS.PS. -/
def State.stlbPs (s : State) : Nat := (s.mmu.stlbps.extractLsb' 0 6).toNat

/-- CSR.ASID.ASID. -/
def State.asid (s : State) : BitVec 10 := s.mmu.asid.extractLsb' 0 10

/-- The page size exponent of the entry at index `i`: STLBPS.PS in the STLB (R290). An MTLB entry is used with its PS as
it is, listed in PRCFG2 or not (DESIGN CHOICE, log 58). -/
def State.entryPs (s : State) (i : Nat) (e : TlbEntry) : Nat :=
  if i < stlbEntries s.cfg then s.stlbPs else e.ps.toNat

/-- VPPN and `va` agree above the page size (R295, R802). Where the page size exponent is below 12, R295 names bits
[12:ps+1] of VPPN, which no entry holds (R290): they are taken as 0 (DESIGN CHOICE, log 58). -/
def vppnMatch (c : Config) (ps : Nat) (e : TlbEntry) (va : Word) : Bool :=
  e.vppn.toNat * 2 ^ 13 % 2 ^ c.valen / 2 ^ (ps + 1) == va.toNat % 2 ^ c.valen / 2 ^ (ps + 1)

/-- `match(e, va)` for the entry at index `i` (R295); an STLB entry must also stand in the set of `va` (R292). -/
def State.tlbMatch (s : State) (va : Word) (i : Nat) (e : TlbEntry) : Bool :=
  e.e && (e.g || e.asid == s.asid) && vppnMatch s.cfg (s.entryPs i e) e va
    && (decide (stlbEntries s.cfg ≤ i) || i % 2 ^ s.cfg.stlbSets == stlbIdx s.cfg s.stlbPs va)

/-- The entries that hit. -/
def State.tlbHits (s : State) (va : Word) : List (Nat × TlbEntry) := s.tlb.filter fun p => s.tlbMatch va p.1 p.2

/-- The STLB holds a valid entry while STLBPS.PS is a size it does not support (U11; log 18). -/
def State.stlbPsIllegal (s : State) : Bool :=
  !psSupported s.cfg s.stlbPs && s.tlb.any fun p => decide (p.1 < stlbEntries s.cfg) && p.2.e

/-- The one entry that hits, with its index; more than one is undefined (R293, U15). -/
def State.tlbLookup (s : State) (va : Word) : Check (Option (Nat × TlbEntry)) :=
  if s.stlbPsIllegal then .refused .pageSizeUnsupported
  else match s.tlbHits va with
    | [] => .ok none
    | [p] => .ok (some p)
    | _ :: _ :: _ => .fault .multipleTlbHit

/-- The page invalid exception of an access (R298). -/
def AccessKind.pageInvalid (k : AccessKind) (va : Word) : Exc :=
  match k with
  | .fetch => .pif va
  | .load => .pil va
  | .store | .rmw => .pis va

/-- CSR.MISC[16+plv]: the write protection check is disabled (R300); never at PLV3. -/
def State.dwpl (s : State) : Bool := s.plv != 3#2 && s.csr.misc.getLsbD (16 + s.plv.toNat)

/-- The permission tests of the selected page, in order (R298-R300, D42). -/
def State.pageCheck (s : State) (k : AccessKind) (va : Word) (p : TlbPage) : Option Exc :=
  if !p.v then some (k.pageInvalid va)
  else if k = .fetch && p.nx then some (.pnx va)
  else if (if p.rplv then s.plv != p.plv else decide (p.plv < s.plv)) then some (.ppi va)
  else if (k = .load || k = .rmw) && p.nr then some (.pnr va)
  else if (k = .store || k = .rmw) && !p.d && !s.dwpl then some (.pme va)
  else none

/-- The page of an entry that `va` selects (R296). -/
def TlbEntry.page (e : TlbEntry) (ps : Nat) (va : Word) : TlbPage := if va.getLsbD ps then e.page1 else e.page0

/-- `{PPN[PALEN-1:ps], va[ps-1:0]}` (R301). Where the page size exponent is below 12, this names bits [11:ps] of PPN,
which no entry holds (R290): they are taken as 0. Where it is PALEN or above, PPN[PALEN-1:ps] names no bits: the address
is va[ps-1:0] as it is, which may lie above 2^PALEN-1 (both DESIGN CHOICE, log 58). -/
def pagePa (c : Config) (ps : Nat) (p : TlbPage) (va : Word) : Nat :=
  p.ppn.toNat * 2 ^ 12 % 2 ^ c.palen / 2 ^ ps * 2 ^ ps + va.toNat % 2 ^ ps

/-- `tlb_translate` (R302). An instance without a TLB (TLBType 0 or HAS_PGMMU 0), of which the spec says no more than
that its TLB instructions take INE (R794, D44), comes here too: it looks up the entries of the state, and where none
matches it raises TLBR like any other (R297; DESIGN CHOICE, log 73). -/
def State.tlbTranslate (s : State) (k : AccessKind) (va : Word) : Check (Nat × BitVec 2) :=
  (s.tlbLookup va).bind fun hit =>
    match hit with
    | none => .trap (.tlbr va)
    | some (i, e) =>
      let ps := s.entryPs i e
      let p := e.page ps va
      match s.pageCheck k va p with
      | some x => .trap x
      | none => .ok (pagePa s.cfg ps p va, p.mat)

/-! ## Direct mode and direct mapping windows -/

/-- Direct address translation mode: CRMD.DA = 1 (R281; DA = PG is decided by DA, D12, log 17). -/
def State.directMode (s : State) : Bool := s.csr.crmd.getLsbD 3

/-- Window `w` translates `va` at the current privilege level (R285). -/
def State.dmwHit (s : State) (va w : Word) : Bool :=
  w.getLsbD s.plv.toNat
    && (if s.cfg.la64 then va.extractLsb' 60 4 == w.extractLsb' 60 4 else va.extractLsb' 29 3 == w.extractLsb' 29 3)

/-- The physical address window `w` gives (R285). -/
def dmwPa (c : Config) (va w : Word) : Nat :=
  if c.la64 then va.toNat % 2 ^ c.palen else (w.extractLsb' 25 3 ++ va.extractLsb' 0 29).toNat

/-- The lowest-numbered implemented window that hits (D41); a fetch uses windows 0 and 1 only. -/
def State.dmwFind (s : State) (k : AccessKind) (va : Word) : Option Word :=
  (s.csr.dmw.toList.take (min s.cfg.numDmw (if k = .fetch then 2 else 4))).find? (s.dmwHit va)

/-- A legal virtual address of mapped mode (spec/20_memory.md R232, R284). -/
def State.legalVa (s : State) (va : Word) : Bool :=
  !s.cfg.la64 || sextFrom (s.cfg.valen - (s.csr.rvacfg.extractLsb' 0 4).toNat) va == va

/-- Does `va` fail the legality check? Only in mapped mode, where no window hits (R282). -/
def State.addressError (s : State) (k : AccessKind) (va : Word) : Bool :=
  !s.directMode && (s.dmwFind k va).isNone && !s.legalVa va

/-- The memory access type of direct mode (R247): DATF for a fetch, DATM otherwise. -/
def State.directMat (s : State) (k : AccessKind) : BitVec 2 :=
  if k = .fetch then s.csr.crmd.extractLsb' 5 2 else s.csr.crmd.extractLsb' 7 2

/-- Translate an address that has passed the legality check: physical address and memory access type (R281-R302). -/
def State.translate (s : State) (k : AccessKind) (va : Word) : Check (Nat × BitVec 2) :=
  if s.directMode then .ok (va.toNat % 2 ^ s.cfg.palen, s.directMat k)
  else match s.dmwFind k va with
    | some w => .ok (dmwPa s.cfg va w, w.extractLsb' 4 2)
    | none => s.tlbTranslate k va

/-! ## Physical memory -/

/-- Why an access to a physical byte is refused, if it is (U14; log 18). -/
def byteRefusal (c : Config) (k : AccessKind) (pa : Nat) : Option Refusal :=
  match regionAt c pa with
  | some .ram => none
  | some .rom => if k = .store || k = .rmw then some .romStore else none
  | some .device => some .deviceAddress
  | none => if c.unbackedRefused then some .unbackedAddress else none

/-- Every byte of a physical access is usable, and its memory access type is not the reserved 3 (U13, U14). -/
def physCheck (c : Config) (k : AccessKind) (mat : BitVec 2) (as : List Nat) : Check Unit :=
  if mat = 3#2 then .refused .reservedMat
  else match as.findSome? (byteRefusal c k) with
    | some r => .refused r
    | none => .ok ()

/-! ## Accesses (R250) -/

/-- One load or store as its instruction asks for it. -/
structure Access where
  kind : AccessKind
  /-- The effective address, `vaddr` applied. -/
  va : Word
  /-- Size in bytes: 1, 2, 4 or 8. -/
  size : Nat
  /-- Natural alignment is always required (R242); otherwise R243 decides. -/
  strict : Bool
  /-- The bound test of a bound-check instruction fails (R550). -/
  outOfBound : Bool
  deriving DecidableEq, Repr

/-- Alignment is checked at the current privilege level also where an instruction does not require it (R243, R98). -/
def State.alignChecked (s : State) : Bool := !s.cfg.ual || s.csr.misc.getLsbD (12 + s.plv.toNat)

/-- `check_align` fails (R242, R243). -/
def State.misaligned (s : State) (a : Access) : Bool := a.va.toNat % a.size != 0 && (a.strict || s.alignChecked)

/-- The alignment of LDDIR, LDPTE and the IOCSR instructions: by their own rules there is none to check (R784, R807,
D69). Only on an instance that applies to them the footnote of R98 and R243, which lists them among the instructions
MISC.ALCL governs, is it `check_align` (DESIGN CHOICE, log 54). -/
def State.alignGate (s : State) (x : Word) (n : Nat) (k : Out) : Out :=
  if s.cfg.alclCoversAll && x.toNat % n != 0 && s.alignChecked then s.raise (.ale x) else k

/-- How many bytes of the access stand in the 4 KB page of its first byte. -/
def Access.firstPart (a : Access) : Nat := min a.size (4096 - a.va.toNat % 4096)

/-- The address `k` bytes on, modulo 2^GRLEN (R231), zero-extended from 32 bits in 32-bit address mode (R33 item a). -/
def State.vaPlus (s : State) (va : Word) (k : Nat) : Word := s.vaddr (va + BitVec.ofNat 64 k)

/-- `n` consecutive physical addresses. -/
def physBytes (pa n : Nat) : List Nat := (List.range n).map (pa + ·)

/-- The address part of an access (R250 steps 2 to 6): the physical byte addresses, first byte first, and the memory
access type. The bytes that stand in a second 4 KB page are translated with their own page (R244, D36). ADEM records the
address of the access also where only its second page is illegal (R839; DESIGN CHOICE, log 57). Only a 4 KB boundary
splits an access: one that crosses the boundary of a TLB page smaller than 4 KB is translated as a whole by its first
byte (DESIGN CHOICE, log 58). -/
def State.accessAddrs (s : State) (a : Access) : Check (List Nat × BitVec 2) :=
  let n1 := a.firstPart
  let va2 := s.vaPlus a.va n1
  if s.misaligned a then .trap (.ale a.va)
  else if s.addressError a.kind a.va || (n1 < a.size && s.addressError a.kind va2) then .trap (.adem a.va)
  else if a.outOfBound then .trap (.bce a.va)
  else (s.translate a.kind a.va).bind fun p1 =>
    if n1 = a.size then .ok (physBytes p1.1 a.size, p1.2)
    else (s.translate a.kind va2).bind fun p2 =>
      if p1.2 ≠ p2.2 then .trap (.ale a.va) else .ok (physBytes p1.1 n1 ++ physBytes p2.1 (a.size - n1), p1.2)

/-- The address part with the test of the physical bytes (R250 step 7, R276). -/
def State.accessBytes (s : State) (a : Access) : Check (List Nat × BitVec 2) :=
  (s.accessAddrs a).bind fun r => (physCheck s.cfg a.kind r.2 r.1).bind fun _ => .ok r

/-! ## Watchpoints (spec/13_csr_pm_watch_debug.md R207-R209, R216, R217) -/

/-- `bytemask` (R209): the bytes of the 8-byte group that do not take part. -/
def byteMask (size : BitVec 2) (va : Word) : BitVec 8 :=
  let o := (va.extractLsb' 0 3).toNat
  match size with
  | 0b00#2 => 0x00#8
  | 0b01#2 => ~~~(0x0F#8 <<< (o / 4 * 4))
  | 0b10#2 => ~~~(0x03#8 <<< (o / 2 * 2))
  | _ => ~~~(0x01#8 <<< o)

/-- The tests that load/store and fetch watchpoints share: WE, DMOnly, PLVn, ASID, address (R207, R216). -/
def State.watchCommon (s : State) (w : Watchpoint) (a : Word) : Bool :=
  s.csr.crmd.getLsbD 9
    && !(!s.dbg.dbg.getLsbD 0 && w.cfg3.getLsbD 0)
    && w.cfg3.getLsbD (1 + s.plv.toNat)
    && !(w.cfg3.getLsbD 7 && s.asid != w.cfg4.extractLsb' 0 10)
    && (a &&& ~~~w.mask) == (w.vaddr &&& ~~~w.mask)

/-- A load/store watchpoint hits the bytes `mbyten` of the group at `maddr` (R207). AM* and SC are both a load and
a store (D31). -/
def State.mwHit (s : State) (k : AccessKind) (maddr : Word) (mbyten : BitVec 8) (w : Watchpoint) : Bool :=
  s.watchCommon w maddr
    && ((k = .load || k = .rmw) && w.cfg3.getLsbD 8 || (k = .store || k = .rmw) && w.cfg3.getLsbD 9)
    && (~~~byteMask (w.cfg3.extractLsb' 10 2) w.vaddr &&& mbyten) != 0#8

/-- The bytes of the access in its first 8-byte group and in the next one (R208, D32). -/
def Access.mbyten (a : Access) : BitVec 16 := BitVec.ofNat 16 (2 ^ a.size - 1) <<< (a.va.extractLsb' 0 3).toNat

/-- Load/store watchpoint `w` hits the access. -/
def State.mwAccessHit (s : State) (a : Access) (w : Watchpoint) : Bool :=
  s.mwHit a.kind a.va (a.mbyten.extractLsb' 0 8) w
    || a.mbyten.extractLsb' 8 8 != 0#8
      && s.mwHit a.kind (s.vaPlus (a.va &&& ~~~7#64) 8) (a.mbyten.extractLsb' 8 8) w

/-- One bit per watchpoint of the first `num` that satisfies `hit`. -/
def hitBits (num : Nat) (ws : Vector Watchpoint 8) (hit : Watchpoint → Bool) : BitVec 32 :=
  (List.range 8).foldl (init := 0#32) fun acc n =>
    if n < num && hit (ws.getD n .reset) then putBit acc n true else acc

/-- What a hit does to MWPS or FWPS, and whether the exception is raised: Skip swallows one hit (R217). In debug mode a
hit does the same: the debug exception that R217 names there is out of scope (DESIGN CHOICE, log 32). -/
def applyHit (wps hits : BitVec 32) : BitVec 32 × Bool :=
  if hits = 0#32 then (wps, false)
  else if wps.getLsbD 16 then (putBit wps 16 false, false)
  else (wps ||| hits, true)

/-- The load/store watchpoint test of an access: the state after it, and whether WPEM is raised. -/
def State.watchMem (s : State) (a : Access) : State × Bool :=
  let r := applyHit s.watch.mwps (hitBits s.cfg.mwpNum s.watch.mwp (s.mwAccessHit a))
  ({ s with watch := { s.watch with mwps := r.1 } }, r.2)

/-- The fetch watchpoint test: the state after it, and whether WPEF is raised. -/
def State.watchFetch (s : State) (a : Word) : State × Bool :=
  let r := applyHit s.watch.fwps (hitBits s.cfg.fwpNum s.watch.fwp fun w => s.watchCommon w a)
  ({ s with watch := { s.watch with fwps := r.1 } }, r.2)

/-! ## The procedures -/

/-- The watchpoint test and the address part of an access (R250 steps 0 to 6): `k` gets the state after the test, the
physical byte addresses and the memory access type. -/
def State.withAddrs (s : State) (a : Access) (k : State → List Nat → BitVec 2 → Out) : Out :=
  let w := s.watchMem a
  if w.2 then w.1.raise .wpem
  else (w.1.accessAddrs a).run w.1 fun r => k w.1 r.1 r.2

/-- `MemRead` and `MemWrite` up to the access itself (R250). -/
def State.withAccess (s : State) (a : Access) (k : State → List Nat → BitVec 2 → Out) : Out :=
  s.withAddrs a fun t as mat => (physCheck t.cfg a.kind mat as).run t fun _ => k t as mat

/-- What a fetch answers: the word, or an exception, or a stop (R251). -/
inductive Fetched where
  | word (s : State) (w : BitVec 32)
  | done (o : Out)
  deriving Repr

/-- `raise X` by a fetch that failed. -/
def State.raiseFetch (s : State) (x : Exc) : Out := .next (s.takeExc true x)

/-- The address part of the fetch at `pc` (R251 steps 2 and 3): physical address and memory access type. -/
def State.fetchAddr (s : State) : Check (Nat × BitVec 2) :=
  let va := s.vaddr s.pc
  if va.extractLsb' 0 2 != 0#2 || s.addressError .fetch va then .trap (.adef va) else s.translate .fetch va

/-- The physical address of the word at `pc`, where the fetch reads it (R251 step 5). -/
def State.fetchPa (s : State) : Check Nat :=
  s.fetchAddr.bind fun p => (physCheck s.cfg .fetch p.2 (physBytes p.1 4)).bind fun _ => .ok p.1

/-- The instruction word at physical address `pa` (spec/30_encoding.md R330). -/
def State.insnAt (s : State) (pa : Nat) : BitVec 32 :=
  insnOfBytes (s.memByte pa) (s.memByte (pa + 1)) (s.memByte (pa + 2)) (s.memByte (pa + 3))

/-- A check of a fetch: go on, or take its exception, or stop. -/
def Check.fetched {α : Type} (c : Check α) (s : State) (k : α → Fetched) : Fetched :=
  match c with
  | .ok a => k a
  | .trap x => .done (s.raiseFetch x)
  | .fault f => .done (.fault f)
  | .refused r => .done (.refused r)

/-- The whole fetch: watchpoint, address, translation, then a pending machine error (R251, R861), then the word. -/
def State.fetch (s : State) : Fetched :=
  let w := s.watchFetch (s.vaddr s.pc)
  if w.2 then .done (w.1.raiseFetch .wpef)
  else w.1.fetchAddr.fetched w.1 fun _ =>
    match w.1.merrPending with
    | some ev => .done (.next (w.1.enterMerr ev))
    | none => w.1.fetchPa.fetched w.1 fun pa => .word w.1 (w.1.insnAt pa)

end Sys2Proof.Machine
end

