-- ==== Sys2Proof/Machine/Cycle.lean ====
section
/-!
DEFINITION. What surrounds the execution of an instruction in one step (spec/60_exceptions.md R849): the clock and
the timer (R875, R877, spec/10_state.md R44), the host's inputs (item 1; log 16), the wait state (item 2).
-/

namespace Sys2Proof.Machine

/-- `timer_tick()` (R877). -/
def TimerState.timerTick (t : TimerState) : TimerState :=
  if t.tcfg.getLsbD 0 && t.running then
    let v := if t.timeVal = 0#64 then 0#64 else t.timeVal - 1
    if v = 0#64 then
      if t.tcfg.getLsbD 1 then { t with ti := true, timeVal := t.tcfg &&& ~~~3#64 }
      else { t with ti := true, timeVal := 0#64, running := false }
    else { t with timeVal := v }
  else t

/-- One increment of StableCounter, and the timer's tick with it (R44, R875). -/
def TimerState.tick (t : TimerState) : TimerState :=
  { t.timerTick with stableCounter := t.stableCounter + 1 }

/-- `n` ticks. -/
def TimerState.ticks : Nat → TimerState → TimerState
  | 0, t => t
  | n + 1, t => TimerState.ticks n t.tick

/-- Two physical addresses stand in one monitored granule (spec/44_atomic_barrier.md R590, D50). -/
def sameGranule (c : Config) (a b : Nat) : Bool := a / 2 ^ c.llGranuleLog2 == b / 2 ^ c.llGranuleLog2

/-- A store by another agent: one byte, and LLbit is cleared when it falls in the reserved granule (R42). The byte lands
at every address with something behind it, ROM and device ranges included, where this core's own store is refused: what a
foreign store does there is the platform's (R275, D5; DESIGN CHOICE, log 69). -/
def State.otherStore (s : State) (c : Host.Cell) : State :=
  { s with
    mem := putByte (backed s.cfg) s.mem c.1 c.2
    llbit := s.llbit && !sameGranule s.cfg s.lladdr c.1 }

/-- A write by another core to a byte of the IOCSR space (R41, R54): ignored where the map defines none (D69). -/
def State.otherIocsr (s : State) (c : Host.Cell) : State :=
  { s with iocsr := putByte (iocsrDefined s.cfg) s.iocsr c.1 c.2 }

/-- The clock advances by `n` ticks, on an instance that has it (R44). -/
def State.ticks (s : State) (n : Nat) : State :=
  if s.cfg.hasLlftp then { s with timer := s.timer.ticks n } else s

/-- Host events (R849 item 1): the next input, or none: the configured ticks and nothing else (log 16). -/
def State.applyInput (s : State) : State :=
  match s.inputs with
  | [] => s.ticks s.cfg.stableStep
  | i :: rest =>
    i.iocsrStores.foldl State.otherIocsr <| i.stores.foldl State.otherStore
      { s.ticks i.ticks with
        extIrq := i.lines
        merrPending := i.merr.or s.merrPending
        inputs := rest }

/-- The physical address the fetch at `pc` reads; `pc` modulo 2^PALEN where the fetch would not succeed. -/
def State.fetchAddress (s : State) : Nat :=
  match s.fetchPa with
  | .ok pa => pa
  | _ => s.pc.toNat % 2 ^ s.cfg.palen

/-- The instruction word `w` of `nbits` bits stored where the fetch at `pc` reads (R330). -/
def State.placeWord (s : State) (nbits w : Nat) : State :=
  s.writeBytes (physBytes s.fetchAddress 4) (BitVec.ofNat 64 (w % 2 ^ nbits % 2 ^ 32))

end Sys2Proof.Machine
end

