-- ==== Sys2Proof/Machine/Operands.lean ====
section
/-!
DEFINITION. Operand forms: how instructions read their register and immediate operands and deliver a result
(spec/30_encoding.md R334, spec/40_int_arith.md R400, spec/41_int_shift_bit.md R450, spec/42_branch.md R500).
-/

namespace Sys2Proof.Machine

/-! ## Sources -/

/-- `GR[r][31:0]`, the operand of a W form (R400 item c). -/
def State.getGrW (s : State) (r : Reg) : BitVec 32 := low32 (s.getGr r)

/-- `GR[r][4:0]` as a shift amount (R451). -/
def State.getSa5 (s : State) (r : Reg) : Nat := ((s.getGr r).extractLsb' 0 5).toNat

/-- `GR[r][5:0]` as a shift amount (R459). -/
def State.getSa6 (s : State) (r : Reg) : Nat := ((s.getGr r).extractLsb' 0 6).toNat

/-- A signed 12-bit immediate, `SignExtend(si12, GRLEN)`. -/
def simm12 (i : BitVec 12) : Word := i.signExtend 64

/-- An unsigned 12-bit immediate, `ZeroExtend(ui12, GRLEN)`. -/
def uimm12 (i : BitVec 12) : Word := i.setWidth 64

/-- `SignExtend({si14, 2'b0}, GRLEN)`. -/
def simm14 (i : BitVec 14) : Word := (i ++ 0#2).signExtend 64

/-- `SignExtend({offs16, 2'b0}, GRLEN)`. -/
def boffs16 (i : BitVec 16) : Word := (i ++ 0#2).signExtend 64

/-- `SignExtend({offs21, 2'b0}, GRLEN)`. -/
def boffs21 (i : BitVec 21) : Word := (i ++ 0#2).signExtend 64

/-- `SignExtend({offs26, 2'b0}, GRLEN)`. -/
def boffs26 (i : BitVec 26) : Word := (i ++ 0#2).signExtend 64

/-- `SignExtend({si20, n'b0}, GRLEN)`. -/
def simm20 (i : BitVec 20) (n : Nat) : Word := i.signExtend 64 <<< n

/-! ## Results -/

/-- Write a general register and go on with the next instruction. -/
def State.putGr (s : State) (rd : Reg) (x : Word) : Out := .next (s.setGr rd x).advance

/-- Write a 32-bit result, sign-extended (R400 item c), and go on. -/
def State.putGrW (s : State) (rd : Reg) (x : BitVec 32) : Out := s.putGr rd (sext32 x)

/-- Write a floating-point register with a doubleword and go on. -/
def State.putFr (s : State) (fd : Reg) (x : Word) : Out := .next (s.setFr fd x).advance

/-- Write a single or word result (R36) and go on. -/
def State.putFrS (s : State) (fd : Reg) (x : BitVec 32) : Out := .next (s.setFrS fd x).advance

/-- Go on with the next instruction, nothing else changed. -/
def State.skip (s : State) : Out := .next s.advance

/-- Branch to `pc + offs` when `c`, else go on (R500). -/
def State.branch (s : State) (c : Bool) (offs : Word) : Out :=
  .next (if c then s.setPc (s.pc + offs) else s.advance)

/-- A general register receives a free value (log 8): the spec leaves the result open. -/
def State.putGrFree (s : State) (rd : Reg) : Out := s.draw.2.putGr rd s.draw.1

/-! ## Arithmetic of the manual's helper functions (R450) -/

/-- How many consecutive bits equal `b`, from bit `n - 1` downward. -/
def leading {w : Nat} (b : Bool) (x : BitVec w) : Nat → Nat
  | 0 => 0
  | n + 1 => if x.getLsbD n = b then leading b x n + 1 else 0

/-- How many consecutive bits equal `b` among the `n` bits from bit `i` upward. -/
def trailing {w : Nat} (b : Bool) (x : BitVec w) : Nat → Nat → Nat
  | 0, _ => 0
  | n + 1, i => if x.getLsbD i = b then trailing b x n (i + 1) + 1 else 0

/-- The number of leading bits equal to `b`: CLO for true, CLZ for false. -/
def countLeading {w : Nat} (b : Bool) (x : BitVec w) : Word := BitVec.ofNat 64 (leading b x w)

/-- The number of trailing bits equal to `b`: CTO for true, CTZ for false. -/
def countTrailing {w : Nat} (b : Bool) (x : BitVec w) : Word := BitVec.ofNat 64 (trailing b x w 0)

/-- `BITREV(x)`: bit `i` becomes bit `w - 1 - i`. -/
def bitrev {w : Nat} (x : BitVec w) : BitVec w :=
  (List.range w).foldl (fun acc i => if x.getLsbD i then acc ||| BitVec.twoPow w (w - 1 - i) else acc) 0#w

/-- The two bytes of a halfword exchanged. -/
def revb16 (x : BitVec 16) : BitVec 16 := x.extractLsb' 0 8 ++ x.extractLsb' 8 8

/-- The four bytes of a word reversed. -/
def revb32 (x : BitVec 32) : BitVec 32 := revb16 (x.extractLsb' 0 16) ++ revb16 (x.extractLsb' 16 16)

/-- The eight bytes of a doubleword reversed. -/
def revb64 (x : Word) : Word := revb32 (x.extractLsb' 0 32) ++ revb32 (x.extractLsb' 32 32)

/-- The two halfwords of a word exchanged. -/
def revh32 (x : BitVec 32) : BitVec 32 := x.extractLsb' 0 16 ++ x.extractLsb' 16 16

/-- `f` on each byte of a word, the bytes staying in place. -/
def mapBytes32 (f : BitVec 8 → BitVec 8) (x : BitVec 32) : BitVec 32 :=
  f (x.extractLsb' 24 8) ++ f (x.extractLsb' 16 8) ++ f (x.extractLsb' 8 8) ++ f (x.extractLsb' 0 8)

/-- The signed 64-bit product of two words. -/
def mulSW (a b : BitVec 32) : BitVec 64 := a.signExtend 64 * b.signExtend 64

/-- The unsigned 64-bit product of two words. -/
def mulUW (a b : BitVec 32) : BitVec 64 := a.setWidth 64 * b.setWidth 64

/-- The signed 128-bit product of two doublewords. -/
def mulSD (a b : Word) : BitVec 128 := a.signExtend 128 * b.signExtend 128

/-- The unsigned 128-bit product of two doublewords. -/
def mulUD (a b : Word) : BitVec 128 := a.setWidth 128 * b.setWidth 128

/-- A division form (R440): `f` on the low `w` bits of the operands, the result sign-extended; a free value of
the instruction and the dividend where the divisor is 0 (U21; log 10). The dividend that this value depends on is the
whole register GR[rj], for the W forms too: what the `a` of `DIV_ZERO_RESULT(mnemonic, a)` is for them is not said
(DESIGN CHOICE, log 10). -/
def State.divForm (s : State) (w : Nat) (k : DivKind) (f : BitVec w → BitVec w → BitVec w) (rd rj rk : Reg) : Out :=
  let a := (s.getGr rj).setWidth w
  let b := (s.getGr rk).setWidth w
  s.putGr rd (if b = 0#w then Config.divZero k (s.getGr rj) else (f a b).signExtend 64)

/-- BSTRINS on `w` bits (R489, R490): bits [msb:lsb] of `d` replaced by the low bits of `x`. -/
def bstrins {w : Nat} (d x : BitVec w) (msb lsb : Nat) : BitVec w :=
  putBits d lsb (msb + 1 - lsb) (x.setWidth (msb + 1 - lsb))

/-- BSTRPICK on `w` bits (R491, R492): bits [msb:lsb] of `x`, zero-extended. -/
def bstrpick {w : Nat} (x : BitVec w) (msb lsb : Nat) : BitVec w :=
  (x.extractLsb' lsb (msb + 1 - lsb)).setWidth w

end Sys2Proof.Machine
end

