-- ==== Sys2Proof/Machine/Access.lean ====
section
/-!
DEFINITION. The shapes of loads, stores and read-modify-write instructions over `withAccess`
(spec/43_load_store.md R520, R550; spec/44_atomic_barrier.md R570-R574, R590).
-/

namespace Sys2Proof.Machine

/-- An ordinary load or store of `n` bytes at `va` (R520): alignment as R243 says. -/
def State.ordinary (s : State) (k : AccessKind) (va : Word) (n : Nat) : Access := ⟨k, s.vaddr va, n, false, false⟩

/-- An access that is always naturally aligned (R242). -/
def State.aligned (s : State) (k : AccessKind) (va : Word) (n : Nat) : Access := ⟨k, s.vaddr va, n, true, false⟩

/-- A bound-check access at `GR[rj]` whose test answers `pass` (R550). -/
def State.bounded (s : State) (k : AccessKind) (va : Word) (n : Nat) (pass : Bool) : Access :=
  ⟨k, s.vaddr va, n, true, !pass⟩

/-- `GR[rj] > GR[rk]`, as the bound checks compare (D48). -/
def State.boundGt (s : State) (rj rk : Reg) : Bool :=
  if s.cfg.boundCmpSigned then (s.getGr rk).slt (s.getGr rj) else (s.getGr rk).ult (s.getGr rj)

/-- `GR[rj] <= GR[rk]`. -/
def State.boundLe (s : State) (rj rk : Reg) : Bool := !s.boundGt rj rk

/-- Load `n` bytes, sign-extended, into a general register. -/
def State.loadS (s : State) (a : Access) (rd : Reg) : Out :=
  s.withAccess a fun t as _ => t.putGr rd (sextFrom (8 * a.size) (t.readBytes as))

/-- Load `n` bytes, zero-extended, into a general register. -/
def State.loadU (s : State) (a : Access) (rd : Reg) : Out :=
  s.withAccess a fun t as _ => t.putGr rd (t.readBytes as)

/-- Store the low bytes of `v`. -/
def State.store (s : State) (a : Access) (v : Word) : Out :=
  s.withAccess a fun t as _ => .next (t.writeBytes as v).advance

/-- AM* (R570): `f` of the old value and `GR[rk]`, `w` bits wide; INE where rd = rj (R572; log 24); free values in
memory and in rd where rd = rk (U23; log 13). -/
def State.amo {w : Nat} (s : State) (f : BitVec w → BitVec w → BitVec w) (rd rj rk : Reg) : Out :=
  s.la64Only <| s.need s.cfg.hasLam <|
  if rd = rj then s.raise .ine
  else s.withAccess (s.aligned .rmw (s.getGr rj) (w / 8)) fun t as _ =>
    let old := (t.readBytes as).setWidth w
    if rd = rk then
      let d := t.draw
      (d.2.writeBytes as d.1).putGrFree rd
    else
      (t.writeBytes as ((f old ((s.getGr rk).setWidth w)).setWidth 64)).putGr rd (old.signExtend 64)

/-- The larger of two signed values. -/
def smax {w : Nat} (a b : BitVec w) : BitVec w := if a.slt b then b else a
/-- The smaller of two signed values. -/
def smin {w : Nat} (a b : BitVec w) : BitVec w := if b.slt a then b else a
/-- The larger of two unsigned values. -/
def umax {w : Nat} (a b : BitVec w) : BitVec w := if a.ult b then b else a
/-- The smaller of two unsigned values. -/
def umin {w : Nat} (a b : BitVec w) : BitVec w := if b.ult a then b else a

/-- LL (R590-R592): the reservation is the physical address. Outside coherent cached memory the loaded value and
LLbit are free (U24; log 14). -/
def State.loadLinked (s : State) (n : Nat) (rd rj : Reg) (i : BitVec 14) : Out :=
  s.withAccess (s.aligned .load (s.getGr rj + simm14 i) n) fun t as mat =>
    let t := { t with lladdr := as.headD 0 }
    if mat = 1#2 then { t with llbit := true }.putGr rd (sextFrom (8 * n) (t.readBytes as))
    else
      let d := t.draw
      { d.2 with llbit := d.1.getLsbD 0 }.putGrFree rd

/-- The store of an SC that happens when `c`: without it memory is not accessed, so what stands at the addresses does not
matter (R593); the memory access type is used either way. -/
def State.storeIf (s : State) (c : Bool) (as : List Nat) (mat : BitVec 2) (v : Word) (k : State → Out) : Out :=
  let as := if c then as else []
  (physCheck s.cfg .rmw mat as).run s fun _ => k (s.writeBytes as v)

/-- SC (R590, R593, R594): the store happens when LLbit is 1; rd receives LLbit; LLbit becomes 0. Outside coherent
cached memory whether the store happens, rd and LLbit are free (U24; log 14). -/
def State.storeConditional (s : State) (n : Nat) (rd rj : Reg) (i : BitVec 14) : Out :=
  s.withAddrs (s.aligned .rmw (s.getGr rj + simm14 i) n) fun t as mat =>
    if mat = 1#2 then
      t.storeIf t.llbit as mat (s.getGr rd) fun u => { u with llbit := false }.putGr rd (Word.ofBool t.llbit)
    else
      let d := t.draw
      d.2.storeIf (d.1.getLsbD 0) as mat (s.getGr rd) fun u => { u with llbit := d.1.getLsbD 1 }.putGrFree rd

end Sys2Proof.Machine
end

