-- ==== Sys2Proof/Machine/Atomic.lean ====
section
/-!
DEFINITION. Atomic read-modify-write, LL and SC, barriers (spec/44_atomic_barrier.md R570-R597, R920-R955).
Each `_DB` form is its plain form: the order it adds is not visible on one core (R573; log 38).
-/

namespace Sys2Proof.Machine

/-- AMSWAP.W (R920). -/
def execAmswapW (rd rj rk : Reg) (s : State) : Out := s.amo (w := 32) (fun _ b => b) rd rj rk

/-- AMSWAP.D (R921). -/
def execAmswapD (rd rj rk : Reg) (s : State) : Out := s.amo (w := 64) (fun _ b => b) rd rj rk

/-- AMADD.W (R922). -/
def execAmaddW (rd rj rk : Reg) (s : State) : Out := s.amo (w := 32) (· + ·) rd rj rk

/-- AMADD.D (R923). -/
def execAmaddD (rd rj rk : Reg) (s : State) : Out := s.amo (w := 64) (· + ·) rd rj rk

/-- AMAND.W (R924). -/
def execAmandW (rd rj rk : Reg) (s : State) : Out := s.amo (w := 32) (· &&& ·) rd rj rk

/-- AMAND.D (R925). -/
def execAmandD (rd rj rk : Reg) (s : State) : Out := s.amo (w := 64) (· &&& ·) rd rj rk

/-- AMOR.W (R926). -/
def execAmorW (rd rj rk : Reg) (s : State) : Out := s.amo (w := 32) (· ||| ·) rd rj rk

/-- AMOR.D (R927). -/
def execAmorD (rd rj rk : Reg) (s : State) : Out := s.amo (w := 64) (· ||| ·) rd rj rk

/-- AMXOR.W (R928). -/
def execAmxorW (rd rj rk : Reg) (s : State) : Out := s.amo (w := 32) (· ^^^ ·) rd rj rk

/-- AMXOR.D (R929). -/
def execAmxorD (rd rj rk : Reg) (s : State) : Out := s.amo (w := 64) (· ^^^ ·) rd rj rk

/-- AMMAX.W (R930). -/
def execAmmaxW (rd rj rk : Reg) (s : State) : Out := s.amo (w := 32) smax rd rj rk

/-- AMMAX.D (R931). -/
def execAmmaxD (rd rj rk : Reg) (s : State) : Out := s.amo (w := 64) smax rd rj rk

/-- AMMIN.W (R932). -/
def execAmminW (rd rj rk : Reg) (s : State) : Out := s.amo (w := 32) smin rd rj rk

/-- AMMIN.D (R933). -/
def execAmminD (rd rj rk : Reg) (s : State) : Out := s.amo (w := 64) smin rd rj rk

/-- AMMAX.WU (R934). -/
def execAmmaxWu (rd rj rk : Reg) (s : State) : Out := s.amo (w := 32) umax rd rj rk

/-- AMMAX.DU (R935). -/
def execAmmaxDu (rd rj rk : Reg) (s : State) : Out := s.amo (w := 64) umax rd rj rk

/-- AMMIN.WU (R936). -/
def execAmminWu (rd rj rk : Reg) (s : State) : Out := s.amo (w := 32) umin rd rj rk

/-- AMMIN.DU (R937). -/
def execAmminDu (rd rj rk : Reg) (s : State) : Out := s.amo (w := 64) umin rd rj rk

/-- AMSWAP_DB.W (R938). -/
def execAmswapDbW (rd rj rk : Reg) (s : State) : Out := s.amo (w := 32) (fun _ b => b) rd rj rk

/-- AMSWAP_DB.D (R939). -/
def execAmswapDbD (rd rj rk : Reg) (s : State) : Out := s.amo (w := 64) (fun _ b => b) rd rj rk

/-- AMADD_DB.W (R940). -/
def execAmaddDbW (rd rj rk : Reg) (s : State) : Out := s.amo (w := 32) (· + ·) rd rj rk

/-- AMADD_DB.D (R941). -/
def execAmaddDbD (rd rj rk : Reg) (s : State) : Out := s.amo (w := 64) (· + ·) rd rj rk

/-- AMAND_DB.W (R942). -/
def execAmandDbW (rd rj rk : Reg) (s : State) : Out := s.amo (w := 32) (· &&& ·) rd rj rk

/-- AMAND_DB.D (R943). -/
def execAmandDbD (rd rj rk : Reg) (s : State) : Out := s.amo (w := 64) (· &&& ·) rd rj rk

/-- AMOR_DB.W (R944). -/
def execAmorDbW (rd rj rk : Reg) (s : State) : Out := s.amo (w := 32) (· ||| ·) rd rj rk

/-- AMOR_DB.D (R945). -/
def execAmorDbD (rd rj rk : Reg) (s : State) : Out := s.amo (w := 64) (· ||| ·) rd rj rk

/-- AMXOR_DB.W (R946). -/
def execAmxorDbW (rd rj rk : Reg) (s : State) : Out := s.amo (w := 32) (· ^^^ ·) rd rj rk

/-- AMXOR_DB.D (R947). -/
def execAmxorDbD (rd rj rk : Reg) (s : State) : Out := s.amo (w := 64) (· ^^^ ·) rd rj rk

/-- AMMAX_DB.W (R948). -/
def execAmmaxDbW (rd rj rk : Reg) (s : State) : Out := s.amo (w := 32) smax rd rj rk

/-- AMMAX_DB.D (R949). -/
def execAmmaxDbD (rd rj rk : Reg) (s : State) : Out := s.amo (w := 64) smax rd rj rk

/-- AMMIN_DB.W (R950). -/
def execAmminDbW (rd rj rk : Reg) (s : State) : Out := s.amo (w := 32) smin rd rj rk

/-- AMMIN_DB.D (R951). -/
def execAmminDbD (rd rj rk : Reg) (s : State) : Out := s.amo (w := 64) smin rd rj rk

/-- AMMAX_DB.WU (R952). -/
def execAmmaxDbWu (rd rj rk : Reg) (s : State) : Out := s.amo (w := 32) umax rd rj rk

/-- AMMAX_DB.DU (R953). -/
def execAmmaxDbDu (rd rj rk : Reg) (s : State) : Out := s.amo (w := 64) umax rd rj rk

/-- AMMIN_DB.WU (R954). -/
def execAmminDbWu (rd rj rk : Reg) (s : State) : Out := s.amo (w := 32) umin rd rj rk

/-- AMMIN_DB.DU (R955). -/
def execAmminDbDu (rd rj rk : Reg) (s : State) : Out := s.amo (w := 64) umin rd rj rk

/-- LL.W (R591). -/
def execLlW (rd rj : Reg) (i14 : BitVec 14) (s : State) : Out := s.loadLinked 4 rd rj i14

/-- SC.W (R593). -/
def execScW (rd rj : Reg) (i14 : BitVec 14) (s : State) : Out := s.storeConditional 4 rd rj i14

/-- LL.D (R592). -/
def execLlD (rd rj : Reg) (i14 : BitVec 14) (s : State) : Out := s.la64Only <| s.loadLinked 8 rd rj i14

/-- SC.D (R594). -/
def execScD (rd rj : Reg) (i14 : BitVec 14) (s : State) : Out := s.la64Only <| s.storeConditional 8 rd rj i14

/-- DBAR (R596): on one core nothing is reordered, so every hint only advances the pc (log 38). -/
def execDbar (_code : BitVec 15) (s : State) : Out := s.skip

/-- IBAR (R597): the fetch always sees the newest bytes, so every hint only advances the pc (log 37). -/
def execIbar (_code : BitVec 15) (s : State) : Out := s.skip

end Sys2Proof.Machine
end

