-- ==== Sys2Proof/Machine/Branch.lean ====
section
/-!
DEFINITION. Branches (spec/42_branch.md R500-R511). A target is not checked here:
a bad one faults when it is fetched (R32).
-/

namespace Sys2Proof.Machine

/-- BEQ (R501). -/
def execBeq (rd rj : Reg) (i16 : BitVec 16) (s : State) : Out := s.branch (s.getGr rj == s.getGr rd) (boffs16 i16)

/-- BNE (R502). -/
def execBne (rd rj : Reg) (i16 : BitVec 16) (s : State) : Out := s.branch (s.getGr rj != s.getGr rd) (boffs16 i16)

/-- BLT (R503). -/
def execBlt (rd rj : Reg) (i16 : BitVec 16) (s : State) : Out := s.branch ((s.getGr rj).slt (s.getGr rd)) (boffs16 i16)

/-- BGE (R504). -/
def execBge (rd rj : Reg) (i16 : BitVec 16) (s : State) : Out := s.branch (!(s.getGr rj).slt (s.getGr rd)) (boffs16 i16)

/-- BLTU (R505). -/
def execBltu (rd rj : Reg) (i16 : BitVec 16) (s : State) : Out := s.branch ((s.getGr rj).ult (s.getGr rd)) (boffs16 i16)

/-- BGEU (R506). -/
def execBgeu (rd rj : Reg) (i16 : BitVec 16) (s : State) : Out :=
  s.branch (!(s.getGr rj).ult (s.getGr rd)) (boffs16 i16)

/-- BEQZ (R507). -/
def execBeqz (rj : Reg) (offs : BitVec 21) (s : State) : Out := s.branch (s.getGr rj == 0#64) (boffs21 offs)

/-- BNEZ (R508). -/
def execBnez (rj : Reg) (offs : BitVec 21) (s : State) : Out := s.branch (s.getGr rj != 0#64) (boffs21 offs)

/-- B (R509). -/
def execB (offs : BitVec 26) (s : State) : Out := s.branch true (boffs26 offs)

/-- BL (R510): the link register is r1. -/
def execBl (offs : BitVec 26) (s : State) : Out := .next ((s.setGr 1#5 (s.link (s.pc + 4))).setPc (s.pc + boffs26 offs))

/-- JIRL (R511): GR[rj] is read before GR[rd] is written (D47). -/
def execJirl (rd rj : Reg) (i16 : BitVec 16) (s : State) : Out :=
  .next ((s.setGr rd (s.link (s.pc + 4))).setPc (s.getGr rj + boffs16 i16))

end Sys2Proof.Machine
end

