-- ==== Sys2Proof/Machine/Flags.lean ====
section
/-!
DEFINITION. FCSR0 and the floating-point exceptions (spec/10_state.md R38, R39; spec/46_fp_arith.md R644, R646-R657):
the fields of FCSR0, rounding modes, the flag computations an arithmetic instruction ends with, and the gate every
floating-point instruction passes.
-/

namespace Sys2Proof.Machine

/-- The rounding modes in the order of FCSR0.RM (R647). -/
inductive Rounding where
  /-- RNE: to nearest, ties to even. -/
  | even
  /-- RZ: toward zero. -/
  | zero
  /-- RP: toward +infinity. -/
  | up
  /-- RM: toward -infinity. -/
  | down
  deriving DecidableEq, Repr

/-- The rounding mode a 2-bit RM value selects. -/
def roundingOf (rm : BitVec 2) : Rounding :=
  if rm = 0#2 then .even else if rm = 1#2 then .zero else if rm = 2#2 then .up else .down

/-- A set of signalled exceptions, in VZOUI order: V = bit 4 … I = bit 0 (R650). -/
abbrev FpExc := BitVec 5

/-- No exception. -/
def excNone : FpExc := 0#5
/-- Invalid operation. -/
def excV : FpExc := 0b10000#5
/-- Division by zero. -/
def excZ : FpExc := 0b01000#5
/-- Overflow, always with inexact (R653). -/
def excOI : FpExc := 0b00101#5
/-- Inexact when `i`. -/
def excI (i : Bool) : FpExc := 0#4 ++ BitVec.ofBool i

/-- What an arithmetic instruction delivers: the bits of the default result and the exceptions signalled. -/
structure FpRes where
  /-- The result, in the low bits. -/
  bits : Word
  /-- The set E of R657. -/
  exc : FpExc
  deriving DecidableEq, Repr

/-- What rounding reads of FCSR0: RM and Enables.U (R647, R654). -/
structure FpCtl where
  /-- The rounding mode. -/
  rm : Rounding
  /-- Enables.U: an exact tiny result is reported too. -/
  trapU : Bool
  deriving DecidableEq, Repr

/-- FCSR0.RM and Enables.U. -/
def State.fpCtl (s : State) : FpCtl := ⟨roundingOf (s.fcsr0.extractLsb' 8 2), s.fcsr0.getLsbD 1⟩

/-- FCSR0.Enables (R38). -/
def State.fpEnables (s : State) : FpExc := s.fcsr0.extractLsb' 0 5

/-- `report_inexact` of FTINT and FRINT (R714, R731): Enables.I, or always under the parameter (D62; log 28). -/
def State.reportInexact (s : State) : Bool := s.fcsr0.getLsbD 0 || s.cfg.ftintInexactAlways

/-- FCSR0 with Cause = `e` (R657). -/
def State.setCause (s : State) (e : FpExc) : State := { s with fcsr0 := putBits s.fcsr0 24 5 e }

/-- FCSR0 with `e` added to Flags. -/
def State.addFlags (s : State) (e : FpExc) : State := { s with fcsr0 := s.fcsr0 ||| (e.setWidth 32 <<< 16) }

/-- `fp_finish(E, write)` (R657): Cause always; a trap when an enabled exception is signalled, with the
destination and Flags unchanged; otherwise Flags, the write and the next instruction. -/
def State.fpFinish (s : State) (e : FpExc) (write : State → State) : Out :=
  if e &&& s.fpEnables = 0#5 then .next (write ((s.setCause e).addFlags e)).advance else (s.setCause e).raise .fpe

/-- The gate of every floating-point instruction (R644): INE when the unit, or double precision for an
instruction that needs it (`dp`), is absent; then FPD. -/
def State.fpGate (s : State) (dp : Bool) (k : Out) : Out :=
  s.need (s.cfg.hasFp && (!dp || s.cfg.hasFpDp)) (s.fpEnabled k)

/-! ## FCSR0 to FCSR3 (R39, R744) -/

/-- The mask M[n]: the bits of FCSR0 that FCSR n shows; none for a number that does not exist (D66; log 47). -/
def fcsrMask (n : BitVec 5) : BitVec 32 :=
  if n = 0#5 then 0x1F1F031F#32
  else if n = 1#5 then 0x0000001F#32
  else if n = 2#5 then 0x1F1F0000#32
  else if n = 3#5 then 0x00000300#32
  else 0#32

/-- FCSR n exists (R744). -/
def fcsrExists (n : BitVec 5) : Bool := decide (n.toNat < 4)

/-- A read of FCSR n. -/
def State.readFcsr (s : State) (n : BitVec 5) : BitVec 32 := s.fcsr0 &&& fcsrMask n

/-- A write of FCSR n. -/
def State.writeFcsr (s : State) (n : BitVec 5) (v : BitVec 32) : State :=
  { s with fcsr0 := mix s.fcsr0 v (fcsrMask n) }

end Sys2Proof.Machine
end

