-- ==== Sys2Proof/Machine/FpFormat.lean ====
section
/-!
DEFINITION. Floating-point data and the IEEE 754-2008 operations on them (spec/46_fp_arith.md R640-R643, R646, R647,
R649, R653, R654, R674; spec/47_fp_cmp_conv_move.md R700, R714, R731; log 27). Every operation is computed exactly on
integers and rounded once. A value of either format stands in the low bits of a `Word`.
-/

namespace Sys2Proof.Machine

/-- The two formats: FP32 and FP64 (R640, R641). -/
inductive Fmt where
  | s | d
  deriving DecidableEq, Repr

/-- Fraction bits: p - 1. -/
def Fmt.frac : Fmt → Nat
  | .s => 23
  | .d => 52

/-- Exponent bits. -/
def Fmt.ebits : Fmt → Nat
  | .s => 8
  | .d => 11

/-- The exponent bias, which is emax. -/
def Fmt.bias : Fmt → Nat
  | .s => 127
  | .d => 1023

/-- emin. -/
def Fmt.emin (f : Fmt) : Int := 1 - (f.bias : Int)

/-- The position of the sign bit. -/
def Fmt.signPos : Fmt → Nat
  | .s => 31
  | .d => 63

/-- The sign bit. -/
def Fmt.sign (f : Fmt) (x : Word) : Bool := x.getLsbD f.signPos

/-- The encoding without its sign bit. -/
def Fmt.mag (f : Fmt) (x : Word) : Nat := x.toNat % 2 ^ f.signPos

/-- The Exponent field. -/
def Fmt.exp (f : Fmt) (x : Word) : Nat := f.mag x / 2 ^ f.frac

/-- The Fraction field. -/
def Fmt.fraction (f : Fmt) (x : Word) : Nat := x.toNat % 2 ^ f.frac

/-- The largest value of the Exponent field. -/
def Fmt.expMax (f : Fmt) : Nat := 2 ^ f.ebits - 1

/-- A NaN. -/
def Fmt.isNaN (f : Fmt) (x : Word) : Bool := f.exp x = f.expMax && f.fraction x != 0

/-- A signaling NaN: the top fraction bit is 0. -/
def Fmt.isSNaN (f : Fmt) (x : Word) : Bool := f.isNaN x && !x.getLsbD (f.frac - 1)

/-- A quiet NaN. -/
def Fmt.isQNaN (f : Fmt) (x : Word) : Bool := f.isNaN x && x.getLsbD (f.frac - 1)

/-- An infinity. -/
def Fmt.isInf (f : Fmt) (x : Word) : Bool := f.exp x = f.expMax && f.fraction x = 0

/-- A zero. -/
def Fmt.isZero (f : Fmt) (x : Word) : Bool := f.mag x = 0

/-- The sign bit alone, in place. -/
def Fmt.signBit (f : Fmt) (neg : Bool) : Word := (BitVec.ofBool neg).setWidth 64 <<< f.signPos

/-- A datum from its sign and its other bits. -/
def Fmt.pack (f : Fmt) (neg : Bool) (mag : Nat) : Word := f.signBit neg ||| BitVec.ofNat 64 mag

/-- A zero of either sign. -/
def Fmt.zero (f : Fmt) (neg : Bool) : Word := f.pack neg 0

/-- An infinity of either sign. -/
def Fmt.inf (f : Fmt) (neg : Bool) : Word := f.pack neg (f.expMax * 2 ^ f.frac)

/-- The largest finite magnitude, of either sign. -/
def Fmt.maxFinite (f : Fmt) (neg : Bool) : Word := f.pack neg (f.expMax * 2 ^ f.frac - 1)

/-- `dNaN`: the default QNaN (R643). -/
def Fmt.dNaN : Fmt → Word
  | .s => 0x7FC00000#64
  | .d => 0x7FF8000000000000#64

/-- 1.0. -/
def Fmt.one (f : Fmt) : Word := f.pack false (f.bias * 2 ^ f.frac)

/-- `quiet`: the top fraction bit set (R643). -/
def Fmt.quiet (f : Fmt) (x : Word) : Word := x ||| (1#64 <<< (f.frac - 1))

/-- The sign inverted, nothing else. -/
def Fmt.negate (f : Fmt) (x : Word) : Word := x ^^^ f.signBit true

/-- The integer significand of a finite datum: `val = (-1)^sign * sig * 2^expo`. -/
def Fmt.sig (f : Fmt) (x : Word) : Nat := if f.exp x = 0 then f.fraction x else 2 ^ f.frac + f.fraction x

/-- The exponent that goes with `sig`. -/
def Fmt.expo (f : Fmt) (x : Word) : Int := f.emin - f.frac + ((f.exp x - 1 : Nat) : Int)

/-! ## NaN operands (R646) -/

/-- `nan_result` of operands listed in priority order: the first SNaN quieted, with V; else the first QNaN. -/
def Fmt.nanResult (f : Fmt) (ops : List Word) : Option FpRes :=
  match ops.find? f.isSNaN with
  | some x => some ⟨f.quiet x, excV⟩
  | none => (ops.find? f.isQNaN).map fun x => ⟨x, excNone⟩

/-- A NaN operand decides the result; otherwise `k`. -/
def Fmt.orNaN (f : Fmt) (ops : List Word) (k : FpRes) : FpRes := (f.nanResult ops).getD k

/-- The invalid operation: V and the default QNaN. -/
def Fmt.invalid (f : Fmt) : FpRes := ⟨f.dNaN, excV⟩

/-- A result that signals nothing. -/
def FpRes.exact (x : Word) : FpRes := ⟨x, excNone⟩

/-! ## Rounding (R647) -/

/-- A positive or negative number before rounding: its magnitude is `m * 2^e`, or strictly between `m * 2^e` and
`(m + 1) * 2^e` when `sticky`. -/
structure Exact where
  /-- The sign. -/
  neg : Bool
  /-- The integer part of the scaled magnitude. -/
  m : Nat
  /-- The scale. -/
  e : Int
  /-- A nonzero part below `m` has been cut off. -/
  sticky : Bool
  deriving DecidableEq, Repr

/-- The magnitude goes away from zero: `rest` is twice the part cut off, `unit` twice half a unit in the last place,
`odd` says that the truncated value is odd. -/
def roundsAway (rm : Rounding) (neg odd : Bool) (rest unit : Nat) : Bool :=
  match rm with
  | .even => decide (unit < rest) || (rest == unit && odd)
  | .zero => false
  | .up => rest != 0 && !neg
  | .down => rest != 0 && neg

/-- Round to a multiple of `2^q`: the multiple, and whether it differs from the exact value. -/
def Exact.roundAt (x : Exact) (rm : Rounding) (q : Int) : Nat × Bool :=
  if q ≤ x.e then (x.m * 2 ^ (x.e - q).toNat, x.sticky)
  else
    let u := 2 ^ (q - x.e).toNat
    let n := x.m / u
    let rest := 2 * (x.m % u) + (if x.sticky then 1 else 0)
    (if roundsAway rm x.neg (n % 2 == 1) rest u then n + 1 else n, rest != 0)

/-- The default result of an overflow (R653, Table 7). -/
def Fmt.overflow (f : Fmt) (rm : Rounding) (neg : Bool) : FpRes :=
  match rm with
  | .even => ⟨f.inf neg, excOI⟩
  | .zero => ⟨f.maxFinite neg, excOI⟩
  | .up => ⟨if neg then f.maxFinite neg else f.inf neg, excOI⟩
  | .down => ⟨if neg then f.inf neg else f.maxFinite neg, excOI⟩

/-- `round(F, rm, x)` for a nonzero `x` (R647, R653, R654): first with unbounded exponent to p bits, which decides
overflow and tininess; a tiny value is rounded again to a multiple of the smallest subnormal. -/
def Fmt.round (f : Fmt) (c : FpCtl) (x : Exact) : FpRes :=
  let top := x.e + Nat.log2 x.m
  let r := x.roundAt c.rm (top - f.frac)
  let carry := r.1 == 2 ^ (f.frac + 1)
  let re := if carry then top + 1 else top
  if (f.bias : Int) < re then f.overflow c.rm x.neg
  else if re < f.emin then
    let t := x.roundAt c.rm (f.emin - f.frac)
    ⟨f.pack x.neg t.1, 0#3 ++ BitVec.ofBool (t.2 || c.trapU) ++ BitVec.ofBool t.2⟩
  else ⟨f.pack x.neg ((re + f.bias - 1).toNat * 2 ^ f.frac + (if carry then 2 ^ f.frac else r.1)), excI r.2⟩

/-- `round` of an exact signed integer multiple of `2^e`; a zero has the sign `zneg`. -/
def Fmt.roundInt (f : Fmt) (c : FpCtl) (v : Int) (e : Int) (zneg : Bool) : FpRes :=
  if v = 0 then .exact (f.zero zneg) else f.round c ⟨decide (v < 0), v.natAbs, e, false⟩

/-! ## Exact values -/

/-- A signed value `v * 2^e`. -/
structure Scaled where
  /-- The signed significand. -/
  v : Int
  /-- The scale. -/
  e : Int
  deriving DecidableEq, Repr

/-- `val(x)` of a finite datum. -/
def Fmt.val (f : Fmt) (x : Word) : Scaled :=
  ⟨if f.sign x then -(f.sig x : Int) else f.sig x, f.expo x⟩

/-- The exact sum. -/
def Scaled.add (a b : Scaled) : Scaled :=
  let e := min a.e b.e
  ⟨a.v * 2 ^ (a.e - e).toNat + b.v * 2 ^ (b.e - e).toNat, e⟩

/-- The exact product. -/
def Scaled.mul (a b : Scaled) : Scaled := ⟨a.v * b.v, a.e + b.e⟩

/-- The integer square root, found bit by bit: the largest `r'` that agrees with `r` above bit `n` and has
`r' * r' ≤ m`. -/
def isqrtFrom (m : Nat) : Nat → Nat → Nat
  | 0, r => r
  | n + 1, r => if (r + 2 ^ n) * (r + 2 ^ n) ≤ m then isqrtFrom m n (r + 2 ^ n) else isqrtFrom m n r

/-- The integer part of the square root. -/
def isqrt (m : Nat) : Nat := isqrtFrom m (Nat.log2 m / 2 + 1) 0

/-! ## Addition, multiplication, division -/

/-- The sign of an exact zero sum of values that are not both zeros of one sign (R658): minus only toward -infinity. -/
def zeroSumSign (rm : Rounding) : Bool := rm = .down

/-- The sign of a zero sum: the common sign of two zeros of the same sign. -/
def Fmt.sumZeroSign (f : Fmt) (rm : Rounding) (a b : Word) : Bool :=
  if f.isZero a && f.isZero b && f.sign a == f.sign b then f.sign a else zeroSumSign rm

/-- The sum of two data neither of which is a NaN (R658). -/
def Fmt.addNum (f : Fmt) (c : FpCtl) (a b : Word) : FpRes :=
  if f.isInf a then if f.isInf b && f.sign a != f.sign b then f.invalid else .exact a
  else if f.isInf b then .exact b
  else
    let t := (f.val a).add (f.val b)
    f.roundInt c t.v t.e (f.sumZeroSign c.rm a b)

/-- addition(a, b) (R658, R659). -/
def Fmt.add (f : Fmt) (c : FpCtl) (a b : Word) : FpRes := f.orNaN [a, b] (f.addNum c a b)

/-- subtraction(a, b) (R660, R661): a NaN keeps its sign. -/
def Fmt.sub (f : Fmt) (c : FpCtl) (a b : Word) : FpRes := f.orNaN [a, b] (f.addNum c a (f.negate b))

/-- The sign of a product or quotient. -/
def Fmt.xorSign (f : Fmt) (a b : Word) : Bool := f.sign a ^^ f.sign b

/-- The product is 0 * infinity. -/
def Fmt.zeroTimesInf (f : Fmt) (a b : Word) : Bool := f.isZero a && f.isInf b || f.isInf a && f.isZero b

/-- multiplication(a, b) (R662, R663). -/
def Fmt.mul (f : Fmt) (c : FpCtl) (a b : Word) : FpRes :=
  f.orNaN [a, b] <|
  if f.zeroTimesInf a b then f.invalid
  else if f.isInf a || f.isInf b then .exact (f.inf (f.xorSign a b))
  else
    let t := (f.val a).mul (f.val b)
    f.roundInt c t.v t.e (f.xorSign a b)

/-- The exact quotient of two finite nonzero data, cut after at least p + 2 significant bits. -/
def Fmt.quotient (f : Fmt) (a b : Word) : Exact :=
  let n := f.sig a * 2 ^ (2 * f.frac + 4)
  ⟨f.xorSign a b, n / f.sig b, f.expo a - f.expo b - (2 * f.frac + 4 : Nat), n % f.sig b != 0⟩

/-- division(a, b) (R664, R665). -/
def Fmt.div (f : Fmt) (c : FpCtl) (a b : Word) : FpRes :=
  f.orNaN [a, b] <|
  if f.isInf a then if f.isInf b then f.invalid else .exact (f.inf (f.xorSign a b))
  else if f.isInf b then .exact (f.zero (f.xorSign a b))
  else if f.isZero b then if f.isZero a then f.invalid else ⟨f.inf (f.xorSign a b), excZ⟩
  else if f.isZero a then .exact (f.zero (f.xorSign a b))
  else f.round c (f.quotient a b)

/-! ## Fused multiply-add (R649) -/

/-- `a * b + z` for data none of which is a NaN, the product not 0 * infinity. -/
def Fmt.fmaNum (f : Fmt) (c : FpCtl) (a b z : Word) : FpRes :=
  let ps := f.xorSign a b
  if f.isInf a || f.isInf b then if f.isInf z && f.sign z != ps then f.invalid else .exact (f.inf ps)
  else if f.isInf z then .exact z
  else
    let t := ((f.val a).mul (f.val b)).add (f.val z)
    let bothZero := (f.isZero a || f.isZero b) && f.isZero z && ps == f.sign z
    f.roundInt c t.v t.e (if bothZero then ps else zeroSumSign c.rm)

/-- fusedMultiplyAdd of fj, fk and fa, fa with its sign inverted when `negZ` unless it is a NaN. NaN priority is fa,
fj, fk; 0 * infinity signals V also beside a NaN (D58). -/
def Fmt.fma (f : Fmt) (c : FpCtl) (negZ : Bool) (a b z : Word) : FpRes :=
  match f.nanResult [z, a, b] with
  | some r => ⟨r.bits, r.exc ||| (if f.zeroTimesInf a b then excV else excNone)⟩
  | none => if f.zeroTimesInf a b then f.invalid else f.fmaNum c a b (if negZ then f.negate z else z)

/-- The outer negation of FNMADD and FNMSUB: not applied to a NaN unless the parameter says so (D61). -/
def Fmt.negateResult (f : Fmt) (alsoNaN : Bool) (r : FpRes) : FpRes :=
  if f.isNaN r.bits && !alsoNaN then r else ⟨f.negate r.bits, r.exc⟩

/-! ## Square root and reciprocals -/

/-- The significand of a finite datum doubled if its exponent is odd. -/
def Fmt.evenSig (f : Fmt) (x : Word) : Nat := if f.expo x % 2 = 0 then f.sig x else 2 * f.sig x

/-- Half the exponent that goes with `evenSig`. -/
def Fmt.halfExpo (f : Fmt) (x : Word) : Int := f.expo x / 2

/-- The square root of a positive finite datum, cut after at least p + 2 significant bits. -/
def Fmt.exactSqrt (f : Fmt) (x : Word) : Exact :=
  let m := f.evenSig x * 2 ^ (2 * (f.frac + 4))
  ⟨false, isqrt m, f.halfExpo x - (f.frac + 4 : Nat), isqrt m * isqrt m != m⟩

/-- squareRoot(x) (R686, R687). -/
def Fmt.sqrt (f : Fmt) (c : FpCtl) (x : Word) : FpRes :=
  f.orNaN [x] <|
  if f.isZero x then .exact x
  else if f.sign x then f.invalid
  else if f.isInf x then .exact x
  else f.round c (f.exactSqrt x)

/-- division(1.0, x) (R688, R689). -/
def Fmt.recip (f : Fmt) (c : FpCtl) (x : Word) : FpRes := f.div c f.one x

/-- 1 / sqrt(x) of a positive finite datum, cut after at least p + 2 significant bits. -/
def Fmt.exactRsqrt (f : Fmt) (x : Word) : Exact :=
  let k := 2 * f.frac
  let r := isqrt (2 ^ (2 * k) / f.evenSig x)
  ⟨false, r, -(f.halfExpo x) - (k : Nat), r * r * f.evenSig x != 2 ^ (2 * k)⟩

/-- The composed form of rSqrt: two rounded operations and the union of what they signal (D60). -/
def Fmt.rsqrtTwice (f : Fmt) (c : FpCtl) (x : Word) : FpRes :=
  let r := f.sqrt c x
  let q := f.div c f.one r.bits
  ⟨q.bits, r.exc ||| q.exc⟩

/-- rSqrt(x) (R690, R691); `twice` selects the composed form. -/
def Fmt.rsqrt (f : Fmt) (c : FpCtl) (twice : Bool) (x : Word) : FpRes :=
  f.orNaN [x] <|
  if f.isZero x then ⟨f.inf (f.sign x), excZ⟩
  else if f.sign x then f.invalid
  else if f.isInf x then .exact (f.zero false)
  else if twice then f.rsqrtTwice c x
  else f.round c (f.exactRsqrt x)

/-! ## Maximum and minimum, comparison -/

/-- The place of a datum that is no NaN in the order -inf < … < zeros < … < +inf: encodings order as sign and
magnitude. -/
def Fmt.key (f : Fmt) (x : Word) : Int := if f.sign x then -(f.mag x : Int) else f.mag x

/-- maxNum of two numbers: for +0 and -0 it is +0 (D59). -/
def Fmt.maxNum (f : Fmt) (a b : Word) : Word :=
  if f.key b < f.key a then a else if f.key a < f.key b then b else if f.sign a then b else a

/-- minNum of two numbers: for +0 and -0 it is -0 (D59). -/
def Fmt.minNum (f : Fmt) (a b : Word) : Word :=
  if f.key a < f.key b then a else if f.key b < f.key a then b else if f.sign a then a else b

/-- maxNumMag of two numbers (R678). -/
def Fmt.maxMag (f : Fmt) (a b : Word) : Word :=
  if f.mag b < f.mag a then a else if f.mag a < f.mag b then b else f.maxNum a b

/-- minNumMag of two numbers (R680). -/
def Fmt.minMag (f : Fmt) (a b : Word) : Word :=
  if f.mag a < f.mag b then a else if f.mag b < f.mag a then b else f.minNum a b

/-- The NaN handling of maxNum and its kin (R674): an SNaN as in R646; one QNaN gives the other operand; two give fj. -/
def Fmt.select (f : Fmt) (pick : Word → Word → Word) (a b : Word) : FpRes :=
  if f.isSNaN a || f.isSNaN b then f.orNaN [a, b] f.invalid
  else if f.isNaN a then .exact (if f.isNaN b then a else b)
  else if f.isNaN b then .exact a
  else .exact (pick a b)

/-- The truth of a comparison with condition `cond` (R700). -/
def Fmt.condTrue (f : Fmt) (cond : BitVec 5) (a b : Word) : Bool :=
  if f.isNaN a || f.isNaN b then cond.getLsbD 3
  else if f.key a < f.key b then cond.getLsbD 1 || cond.getLsbD 4
  else if f.key b < f.key a then cond.getLsbD 4
  else cond.getLsbD 2

/-- What a comparison signals (R700): V on any NaN for the S conditions, on an SNaN for the C conditions. -/
def Fmt.condExc (f : Fmt) (cond : BitVec 5) (a b : Word) : FpExc :=
  if (if cond.getLsbD 0 then f.isNaN a || f.isNaN b else f.isSNaN a || f.isSNaN b) then excV else excNone

/-- The 22 conditions of Table 9 (R701): the ten others are undefined codes. -/
def condDefined (cond : BitVec 5) : Bool :=
  !cond.getLsbD 4 || (!cond.getLsbD 1 && !(cond.getLsbD 3 && cond.getLsbD 2))

/-! ## scaleB, logB, class -/

/-- `N` within bounds: beyond 5000 either way every finite nonzero datum overflows or becomes tiny alike. -/
def clampScale (n : Int) : Int := if 5000 < n then 5000 else if n < -5000 then -5000 else n

/-- scaleB(a, N) (R692, R693). -/
def Fmt.scaleB (f : Fmt) (c : FpCtl) (a : Word) (n : Int) : FpRes :=
  f.orNaN [a] <|
  if f.isInf a || f.isZero a then .exact a
  else f.roundInt c (f.val a).v ((f.val a).e + clampScale n) false

/-- logB(x) (R694, R695). -/
def Fmt.logB (f : Fmt) (c : FpCtl) (x : Word) : FpRes :=
  f.orNaN [x] <|
  if f.isInf x then .exact (f.inf false)
  else if f.isZero x then ⟨f.inf true, excZ⟩
  else f.roundInt c (f.expo x + Nat.log2 (f.sig x)) 0 false

/-- The class vector of FCLASS (R698, Table 8). -/
def Fmt.classify (f : Fmt) (x : Word) : Word :=
  if f.isSNaN x then 0x001#64
  else if f.isQNaN x then 0x002#64
  else
    let k : Word :=
      if f.isInf x then 0x04#64 else if f.isZero x then 0x20#64 else if f.exp x = 0 then 0x10#64 else 0x08#64
    if f.sign x then k else k <<< 4

/-! ## Conversions -/

/-- convertFormat to FP32 (R704): a NaN keeps its sign and the top of its fraction, and is quiet. -/
def cvtSD (c : FpCtl) (x : Word) : FpRes :=
  let n := Fmt.d.sign x
  if Fmt.d.isNaN x then
    ⟨Fmt.s.quiet (Fmt.s.pack n (255 * 2 ^ 23 + Fmt.d.fraction x / 2 ^ 29)),
      if Fmt.d.isSNaN x then excV else excNone⟩
  else if Fmt.d.isInf x then .exact (Fmt.s.inf n)
  else Fmt.s.roundInt c (Fmt.d.val x).v (Fmt.d.val x).e n

/-- convertFormat to FP64 (R705). -/
def cvtDS (c : FpCtl) (x : Word) : FpRes :=
  let n := Fmt.s.sign x
  if Fmt.s.isNaN x then
    ⟨Fmt.d.quiet (Fmt.d.pack n (2047 * 2 ^ 52 + Fmt.s.fraction x * 2 ^ 29)),
      if Fmt.s.isSNaN x then excV else excNone⟩
  else if Fmt.s.isInf x then .exact (Fmt.d.inf n)
  else Fmt.d.roundInt c (Fmt.s.val x).v (Fmt.s.val x).e n

/-- convertFromInt (R706-R709): 0 gives +0. -/
def Fmt.fromInt (f : Fmt) (c : FpCtl) (n : Int) : FpRes := f.roundInt c n 0 false

/-- `round_to_integer(val(x), rm)` of a finite datum, with whether it differs from the value (R714). -/
def Fmt.toInt (f : Fmt) (rm : Rounding) (x : Word) : Int × Bool :=
  let r := Exact.roundAt ⟨f.sign x, f.sig x, f.expo x, false⟩ rm 0
  (if f.sign x then -(r.1 : Int) else r.1, r.2)

/-- The result of an invalid conversion to `n` bits (D64): with `sat` 0 for a NaN, else the extreme of the sign of `x`;
without it the function of the instance (`FTINT_INVALID_RESULT`; log 28). -/
def Fmt.invalidInt (f : Fmt) (sat : Bool) (n : Nat) (x : Word) : FpRes :=
  ⟨if !sat then Config.ftintInvalid (f == .d) n x
   else if f.isNaN x then 0#64
   else if f.sign x then BitVec.ofInt 64 (-(2 ^ (n - 1) : Nat))
   else BitVec.ofNat 64 (2 ^ (n - 1) - 1), excV⟩

/-- Conversion to a signed `n`-bit integer (R714). -/
def Fmt.convert (f : Fmt) (rm : Rounding) (report sat : Bool) (n : Nat) (x : Word) : FpRes :=
  if f.isNaN x || f.isInf x then f.invalidInt sat n x
  else
    let r := f.toInt rm x
    if r.1 < -(2 ^ (n - 1) : Nat) ∨ ((2 ^ (n - 1) : Nat) : Int) ≤ r.1 then f.invalidInt sat n x
    else ⟨BitVec.ofInt 64 r.1, excI (r.2 && report)⟩

/-- roundToIntegral (R731, R732): the sign of `x` is kept. -/
def Fmt.rint (f : Fmt) (c : FpCtl) (report : Bool) (x : Word) : FpRes :=
  f.orNaN [x] <|
  if f.isInf x || f.isZero x then .exact x
  else
    let r := f.toInt c.rm x
    ⟨(f.roundInt c r.1 0 (f.sign x)).bits, excI (r.2 && report)⟩

end Sys2Proof.Machine
end

