-- ==== Sys2Proof/Machine/FpArith.lean ====
section
/-!
DEFINITION. Floating-point arithmetic (spec/46_fp_arith.md R644-R699).
-/

namespace Sys2Proof.Machine

/-! ## Operand forms (R645) -/

/-- Does a format need double precision (R644)? -/
def Fmt.isD : Fmt → Bool
  | .s => false
  | .d => true

/-- A source in its format: `FR[r][31:0]` or `FR[r]` (R643). -/
def State.getFmt (s : State) (f : Fmt) (r : Reg) : Word :=
  match f with
  | .s => (s.getFrS r).setWidth 64
  | .d => s.getFr r

/-- A destination in its format: `FR[r][31:0]` with a free upper half, or `FR[r]` (R36). -/
def State.setFmt (s : State) (f : Fmt) (r : Reg) (x : Word) : State :=
  match f with
  | .s => s.setFrS r (low32 x)
  | .d => s.setFr r x

/-- Finish an arithmetic instruction whose result goes to `fd` (R657). -/
def State.fpDone (s : State) (f : Fmt) (fd : Reg) (r : FpRes) : Out := s.fpFinish r.exc fun t => t.setFmt f fd r.bits

/-- A non-arithmetic result: a bit pattern, FCSR0 untouched (R648). -/
def State.fpPut (s : State) (f : Fmt) (fd : Reg) (x : Word) : Out := .next (s.setFmt f fd x).advance

/-- A one-operand arithmetic form within one format. -/
def State.fp1 (s : State) (f : Fmt) (op : FpCtl → Word → FpRes) (fd fj : Reg) : Out :=
  s.fpGate f.isD <| s.fpDone f fd (op s.fpCtl (s.getFmt f fj))

/-- A two-operand arithmetic form. -/
def State.fp2 (s : State) (f : Fmt) (op : FpCtl → Word → Word → FpRes) (fd fj fk : Reg) : Out :=
  s.fpGate f.isD <| s.fpDone f fd (op s.fpCtl (s.getFmt f fj) (s.getFmt f fk))

/-- FMADD (neither sign inverted), FMSUB (`negZ`), FNMADD (`negOut`), FNMSUB (both) (R649). -/
def State.fpFma (s : State) (f : Fmt) (negZ negOut : Bool) (fd fj fk fa : Reg) : Out :=
  s.fpGate f.isD <|
    let r := f.fma s.fpCtl negZ (s.getFmt f fj) (s.getFmt f fk) (s.getFmt f fa)
    s.fpDone f fd (if negOut then f.negateResult s.cfg.fnmNegatesNan r else r)

/-! ## The instructions -/

/-- FADD.S (R658). -/
def execFaddS (fd fj fk : Reg) (s : State) : Out := s.fp2 .s (Fmt.add .s) fd fj fk

/-- FADD.D (R659). -/
def execFaddD (fd fj fk : Reg) (s : State) : Out := s.fp2 .d (Fmt.add .d) fd fj fk

/-- FSUB.S (R660). -/
def execFsubS (fd fj fk : Reg) (s : State) : Out := s.fp2 .s (Fmt.sub .s) fd fj fk

/-- FSUB.D (R661). -/
def execFsubD (fd fj fk : Reg) (s : State) : Out := s.fp2 .d (Fmt.sub .d) fd fj fk

/-- FMUL.S (R662). -/
def execFmulS (fd fj fk : Reg) (s : State) : Out := s.fp2 .s (Fmt.mul .s) fd fj fk

/-- FMUL.D (R663). -/
def execFmulD (fd fj fk : Reg) (s : State) : Out := s.fp2 .d (Fmt.mul .d) fd fj fk

/-- FDIV.S (R664). -/
def execFdivS (fd fj fk : Reg) (s : State) : Out := s.fp2 .s (Fmt.div .s) fd fj fk

/-- FDIV.D (R665). -/
def execFdivD (fd fj fk : Reg) (s : State) : Out := s.fp2 .d (Fmt.div .d) fd fj fk

/-- FMADD.S (R666). -/
def execFmaddS (fd fj fk fa : Reg) (s : State) : Out := s.fpFma .s false false fd fj fk fa

/-- FMADD.D (R667). -/
def execFmaddD (fd fj fk fa : Reg) (s : State) : Out := s.fpFma .d false false fd fj fk fa

/-- FMSUB.S (R668). -/
def execFmsubS (fd fj fk fa : Reg) (s : State) : Out := s.fpFma .s true false fd fj fk fa

/-- FMSUB.D (R669). -/
def execFmsubD (fd fj fk fa : Reg) (s : State) : Out := s.fpFma .d true false fd fj fk fa

/-- FNMADD.S (R670). -/
def execFnmaddS (fd fj fk fa : Reg) (s : State) : Out := s.fpFma .s false true fd fj fk fa

/-- FNMADD.D (R671). -/
def execFnmaddD (fd fj fk fa : Reg) (s : State) : Out := s.fpFma .d false true fd fj fk fa

/-- FNMSUB.S (R672). -/
def execFnmsubS (fd fj fk fa : Reg) (s : State) : Out := s.fpFma .s true true fd fj fk fa

/-- FNMSUB.D (R673). -/
def execFnmsubD (fd fj fk fa : Reg) (s : State) : Out := s.fpFma .d true true fd fj fk fa

/-- FMAX.S (R674). -/
def execFmaxS (fd fj fk : Reg) (s : State) : Out := s.fp2 .s (fun _ => Fmt.select .s (Fmt.maxNum .s)) fd fj fk

/-- FMAX.D (R675). -/
def execFmaxD (fd fj fk : Reg) (s : State) : Out := s.fp2 .d (fun _ => Fmt.select .d (Fmt.maxNum .d)) fd fj fk

/-- FMIN.S (R676). -/
def execFminS (fd fj fk : Reg) (s : State) : Out := s.fp2 .s (fun _ => Fmt.select .s (Fmt.minNum .s)) fd fj fk

/-- FMIN.D (R677). -/
def execFminD (fd fj fk : Reg) (s : State) : Out := s.fp2 .d (fun _ => Fmt.select .d (Fmt.minNum .d)) fd fj fk

/-- FMAXA.S (R678). -/
def execFmaxaS (fd fj fk : Reg) (s : State) : Out := s.fp2 .s (fun _ => Fmt.select .s (Fmt.maxMag .s)) fd fj fk

/-- FMAXA.D (R679). -/
def execFmaxaD (fd fj fk : Reg) (s : State) : Out := s.fp2 .d (fun _ => Fmt.select .d (Fmt.maxMag .d)) fd fj fk

/-- FMINA.S (R680). -/
def execFminaS (fd fj fk : Reg) (s : State) : Out := s.fp2 .s (fun _ => Fmt.select .s (Fmt.minMag .s)) fd fj fk

/-- FMINA.D (R681). -/
def execFminaD (fd fj fk : Reg) (s : State) : Out := s.fp2 .d (fun _ => Fmt.select .d (Fmt.minMag .d)) fd fj fk

/-- FABS.S (R682). -/
def execFabsS (fd fj : Reg) (s : State) : Out :=
  s.fpGate false <| s.fpPut .s fd (s.getFmt .s fj &&& ~~~Fmt.signBit .s true)

/-- FNEG.S (R684). -/
def execFnegS (fd fj : Reg) (s : State) : Out := s.fpGate false <| s.fpPut .s fd (Fmt.negate .s (s.getFmt .s fj))

/-- FSQRT.S (R686). -/
def execFsqrtS (fd fj : Reg) (s : State) : Out := s.fp1 .s (Fmt.sqrt .s) fd fj

/-- FRECIP.S (R688). -/
def execFrecipS (fd fj : Reg) (s : State) : Out := s.fp1 .s (Fmt.recip .s) fd fj

/-- FRSQRT.S (R690). -/
def execFrsqrtS (fd fj : Reg) (s : State) : Out := s.fp1 .s (fun c => Fmt.rsqrt .s c s.cfg.frsqrtDoubleRounding) fd fj

/-- FSCALEB.S (R692). -/
def execFscalebS (fd fj fk : Reg) (s : State) : Out := s.fp1 .s (fun c x => Fmt.scaleB .s c x (s.getFrS fk).toInt) fd fj

/-- FLOGB.S (R694). -/
def execFlogbS (fd fj : Reg) (s : State) : Out := s.fp1 .s (Fmt.logB .s) fd fj

/-- FCOPYSIGN.S (R696). -/
def execFcopysignS (fd fj fk : Reg) (s : State) : Out :=
  s.fpGate false <|
    s.fpPut .s fd (mix (s.getFmt .s fj) (s.getFmt .s fk) (Fmt.signBit .s true))

/-- FCLASS.S (R698). -/
def execFclassS (fd fj : Reg) (s : State) : Out := s.fpGate false <| s.fpPut .s fd (Fmt.classify .s (s.getFmt .s fj))

/-- FABS.D (R683). -/
def execFabsD (fd fj : Reg) (s : State) : Out :=
  s.fpGate true <| s.fpPut .d fd (s.getFmt .d fj &&& ~~~Fmt.signBit .d true)

/-- FNEG.D (R685). -/
def execFnegD (fd fj : Reg) (s : State) : Out := s.fpGate true <| s.fpPut .d fd (Fmt.negate .d (s.getFmt .d fj))

/-- FSQRT.D (R687). -/
def execFsqrtD (fd fj : Reg) (s : State) : Out := s.fp1 .d (Fmt.sqrt .d) fd fj

/-- FRECIP.D (R689). -/
def execFrecipD (fd fj : Reg) (s : State) : Out := s.fp1 .d (Fmt.recip .d) fd fj

/-- FRSQRT.D (R691). -/
def execFrsqrtD (fd fj : Reg) (s : State) : Out := s.fp1 .d (fun c => Fmt.rsqrt .d c s.cfg.frsqrtDoubleRounding) fd fj

/-- FSCALEB.D (R693). -/
def execFscalebD (fd fj fk : Reg) (s : State) : Out := s.fp1 .d (fun c x => Fmt.scaleB .d c x (s.getFr fk).toInt) fd fj

/-- FLOGB.D (R695). -/
def execFlogbD (fd fj : Reg) (s : State) : Out := s.fp1 .d (Fmt.logB .d) fd fj

/-- FCOPYSIGN.D (R697). -/
def execFcopysignD (fd fj fk : Reg) (s : State) : Out :=
  s.fpGate true <|
    s.fpPut .d fd (mix (s.getFmt .d fj) (s.getFmt .d fk) (Fmt.signBit .d true))

/-- FCLASS.D (R699). -/
def execFclassD (fd fj : Reg) (s : State) : Out := s.fpGate true <| s.fpPut .d fd (Fmt.classify .d (s.getFmt .d fj))

end Sys2Proof.Machine
end

