-- ==== Sys2Proof/Machine/FpConvert.lean ====
section
/-!
DEFINITION. Floating-point comparison and conversion (spec/47_fp_cmp_conv_move.md R700-R732).
-/

namespace Sys2Proof.Machine

/-- FCMP (R700-R703): an undefined condition is an undefined instruction (D63; log 51). -/
def State.fpCompare (s : State) (f : Fmt) (cd : BitVec 3) (fj fk : Reg) (cond : BitVec 5) : Out :=
  s.need (condDefined cond) <| s.fpGate f.isD <|
    let a := s.getFmt f fj
    let b := s.getFmt f fk
    s.fpFinish (f.condExc cond a b) fun t => t.setCf cd (f.condTrue cond a b)

/-- A conversion from format `f` to an integer of 32 (`.s`-wide) or 64 bits, by rounding mode `rm` (R714). -/
def State.fpToInt (s : State) (f dst : Fmt) (rm : Rounding) (fd fj : Reg) : Out :=
  s.fpGate (f.isD || dst.isD) <|
    s.fpDone dst fd (f.convert rm s.reportInexact s.cfg.ftintInvalidSaturates (dst.signPos + 1) (s.getFmt f fj))

/-- A conversion from an integer to format `f` (R706). -/
def State.fpFromInt (s : State) (f : Fmt) (long : Bool) (n : Int) (fd : Reg) : Out :=
  s.fpGate (f.isD || long) <| s.fpDone f fd (f.fromInt s.fpCtl n)

/-! ## The instructions -/

/-- FCMP.COND.S (R702). -/
def execFcmpCondS (cd : BitVec 3) (fj fk : Reg) (cond : BitVec 5) (s : State) : Out := s.fpCompare .s cd fj fk cond

/-- FCMP.COND.D (R703). -/
def execFcmpCondD (cd : BitVec 3) (fj fk : Reg) (cond : BitVec 5) (s : State) : Out := s.fpCompare .d cd fj fk cond

/-- FCVT.S.D (R704). -/
def execFcvtSD (fd fj : Reg) (s : State) : Out := s.fpGate true <| s.fpDone .s fd (cvtSD s.fpCtl (s.getFmt .d fj))

/-- FCVT.D.S (R705). -/
def execFcvtDS (fd fj : Reg) (s : State) : Out := s.fpGate true <| s.fpDone .d fd (cvtDS s.fpCtl (s.getFmt .s fj))

/-- FFINT.S.W (R706). -/
def execFfintSW (fd fj : Reg) (s : State) : Out := s.fpFromInt .s false (s.getFrS fj).toInt fd

/-- FFINT.S.L (R707). -/
def execFfintSL (fd fj : Reg) (s : State) : Out := s.fpFromInt .s true (s.getFr fj).toInt fd

/-- FFINT.D.W (R708). -/
def execFfintDW (fd fj : Reg) (s : State) : Out := s.fpFromInt .d false (s.getFrS fj).toInt fd

/-- FFINT.D.L (R709). -/
def execFfintDL (fd fj : Reg) (s : State) : Out := s.fpFromInt .d true (s.getFr fj).toInt fd

/-- FTINT.W.S (R710). -/
def execFtintWS (fd fj : Reg) (s : State) : Out := s.fpToInt .s .s s.fpCtl.rm fd fj

/-- FTINT.W.D (R711). -/
def execFtintWD (fd fj : Reg) (s : State) : Out := s.fpToInt .d .s s.fpCtl.rm fd fj

/-- FTINT.L.S (R712). -/
def execFtintLS (fd fj : Reg) (s : State) : Out := s.fpToInt .s .d s.fpCtl.rm fd fj

/-- FTINT.L.D (R713). -/
def execFtintLD (fd fj : Reg) (s : State) : Out := s.fpToInt .d .d s.fpCtl.rm fd fj

/-- FTINTRM.W.S (R715). -/
def execFtintrmWS (fd fj : Reg) (s : State) : Out := s.fpToInt .s .s .down fd fj

/-- FTINTRM.W.D (R716). -/
def execFtintrmWD (fd fj : Reg) (s : State) : Out := s.fpToInt .d .s .down fd fj

/-- FTINTRM.L.S (R717). -/
def execFtintrmLS (fd fj : Reg) (s : State) : Out := s.fpToInt .s .d .down fd fj

/-- FTINTRM.L.D (R718). -/
def execFtintrmLD (fd fj : Reg) (s : State) : Out := s.fpToInt .d .d .down fd fj

/-- FTINTRP.W.S (R719). -/
def execFtintrpWS (fd fj : Reg) (s : State) : Out := s.fpToInt .s .s .up fd fj

/-- FTINTRP.W.D (R720). -/
def execFtintrpWD (fd fj : Reg) (s : State) : Out := s.fpToInt .d .s .up fd fj

/-- FTINTRP.L.S (R721). -/
def execFtintrpLS (fd fj : Reg) (s : State) : Out := s.fpToInt .s .d .up fd fj

/-- FTINTRP.L.D (R722). -/
def execFtintrpLD (fd fj : Reg) (s : State) : Out := s.fpToInt .d .d .up fd fj

/-- FTINTRZ.W.S (R723). -/
def execFtintrzWS (fd fj : Reg) (s : State) : Out := s.fpToInt .s .s .zero fd fj

/-- FTINTRZ.W.D (R724). -/
def execFtintrzWD (fd fj : Reg) (s : State) : Out := s.fpToInt .d .s .zero fd fj

/-- FTINTRZ.L.S (R725). -/
def execFtintrzLS (fd fj : Reg) (s : State) : Out := s.fpToInt .s .d .zero fd fj

/-- FTINTRZ.L.D (R726). -/
def execFtintrzLD (fd fj : Reg) (s : State) : Out := s.fpToInt .d .d .zero fd fj

/-- FTINTRNE.W.S (R727). -/
def execFtintrneWS (fd fj : Reg) (s : State) : Out := s.fpToInt .s .s .even fd fj

/-- FTINTRNE.W.D (R728). -/
def execFtintrneWD (fd fj : Reg) (s : State) : Out := s.fpToInt .d .s .even fd fj

/-- FTINTRNE.L.S (R729). -/
def execFtintrneLS (fd fj : Reg) (s : State) : Out := s.fpToInt .s .d .even fd fj

/-- FTINTRNE.L.D (R730). -/
def execFtintrneLD (fd fj : Reg) (s : State) : Out := s.fpToInt .d .d .even fd fj

/-- FRINT.S (R731). -/
def execFrintS (fd fj : Reg) (s : State) : Out := s.fp1 .s (fun c => Fmt.rint .s c s.reportInexact) fd fj

/-- FRINT.D (R732). -/
def execFrintD (fd fj : Reg) (s : State) : Out := s.fp1 .d (fun c => Fmt.rint .d c s.reportInexact) fd fj

end Sys2Proof.Machine
end

