-- ==== Sys2Proof/Machine/FpMem.lean ====
section
/-!
DEFINITION. Floating-point branches, loads and stores (spec/48_fp_branch_mem.md R760-R778).
-/

namespace Sys2Proof.Machine

/-- Load into an FR: a word with a free upper half, or a doubleword (R768). -/
def State.loadFp (s : State) (f : Fmt) (a : Access) (fd : Reg) : Out :=
  s.withAccess a fun t as _ => .next (t.setFmt f fd (t.readBytes as)).advance

/-! ## The instructions -/

/-- BCEQZ (R760). -/
def execBceqz (cj : BitVec 3) (offs : BitVec 21) (s : State) : Out :=
  s.fpGate false <| s.branch (!s.getCf cj) (boffs21 offs)

/-- BCNEZ (R761). -/
def execBcnez (cj : BitVec 3) (offs : BitVec 21) (s : State) : Out :=
  s.fpGate false <| s.branch (s.getCf cj) (boffs21 offs)

/-- FLD.S (R762). -/
def execFldS (fd rj : Reg) (i12 : BitVec 12) (s : State) : Out :=
  s.fpGate false <| s.loadFp .s (s.ordinary .load (s.getGr rj + simm12 i12) 4) fd

/-- FST.S (R764). -/
def execFstS (fd rj : Reg) (i12 : BitVec 12) (s : State) : Out :=
  s.fpGate false <| s.store (s.ordinary .store (s.getGr rj + simm12 i12) 4) (s.getFr fd)

/-- FLDX.S (R766). -/
def execFldxS (fd rj rk : Reg) (s : State) : Out :=
  s.la64Only <| s.fpGate false <| s.loadFp .s (s.ordinary .load (s.getGr rj + s.getGr rk) 4) fd

/-- FSTX.S (R769). -/
def execFstxS (fd rj rk : Reg) (s : State) : Out :=
  s.la64Only <| s.fpGate false <| s.store (s.ordinary .store (s.getGr rj + s.getGr rk) 4) (s.getFr fd)

/-- FLDGT.S (R771). -/
def execFldgtS (fd rj rk : Reg) (s : State) : Out :=
  s.la64Only <| s.fpGate false <| s.loadFp .s (s.bounded .load (s.getGr rj) 4 (s.boundGt rj rk)) fd

/-- FSTGT.S (R775). -/
def execFstgtS (fd rj rk : Reg) (s : State) : Out :=
  s.la64Only <| s.fpGate false <| s.store (s.bounded .store (s.getGr rj) 4 (s.boundGt rj rk)) (s.getFr fd)

/-- FLDLE.S (R773). -/
def execFldleS (fd rj rk : Reg) (s : State) : Out :=
  s.la64Only <| s.fpGate false <| s.loadFp .s (s.bounded .load (s.getGr rj) 4 (s.boundLe rj rk)) fd

/-- FSTLE.S (R777). -/
def execFstleS (fd rj rk : Reg) (s : State) : Out :=
  s.la64Only <| s.fpGate false <| s.store (s.bounded .store (s.getGr rj) 4 (s.boundLe rj rk)) (s.getFr fd)

/-- FLD.D (R763). -/
def execFldD (fd rj : Reg) (i12 : BitVec 12) (s : State) : Out :=
  s.fpGate true <| s.loadFp .d (s.ordinary .load (s.getGr rj + simm12 i12) 8) fd

/-- FST.D (R765). -/
def execFstD (fd rj : Reg) (i12 : BitVec 12) (s : State) : Out :=
  s.fpGate true <| s.store (s.ordinary .store (s.getGr rj + simm12 i12) 8) (s.getFr fd)

/-- FLDX.D (R767). -/
def execFldxD (fd rj rk : Reg) (s : State) : Out :=
  s.la64Only <| s.fpGate true <| s.loadFp .d (s.ordinary .load (s.getGr rj + s.getGr rk) 8) fd

/-- FSTX.D (R770). -/
def execFstxD (fd rj rk : Reg) (s : State) : Out :=
  s.la64Only <| s.fpGate true <| s.store (s.ordinary .store (s.getGr rj + s.getGr rk) 8) (s.getFr fd)

/-- FLDGT.D (R772). -/
def execFldgtD (fd rj rk : Reg) (s : State) : Out :=
  s.la64Only <| s.fpGate true <| s.loadFp .d (s.bounded .load (s.getGr rj) 8 (s.boundGt rj rk)) fd

/-- FSTGT.D (R776). -/
def execFstgtD (fd rj rk : Reg) (s : State) : Out :=
  s.la64Only <| s.fpGate true <| s.store (s.bounded .store (s.getGr rj) 8 (s.boundGt rj rk)) (s.getFr fd)

/-- FLDLE.D (R774). -/
def execFldleD (fd rj rk : Reg) (s : State) : Out :=
  s.la64Only <| s.fpGate true <| s.loadFp .d (s.bounded .load (s.getGr rj) 8 (s.boundLe rj rk)) fd

/-- FSTLE.D (R778). -/
def execFstleD (fd rj rk : Reg) (s : State) : Out :=
  s.la64Only <| s.fpGate true <| s.store (s.bounded .store (s.getGr rj) 8 (s.boundLe rj rk)) (s.getFr fd)

end Sys2Proof.Machine
end

