-- ==== Sys2Proof/Machine/FpMove.lean ====
section
/-!
DEFINITION. Floating-point moves (spec/47_fp_cmp_conv_move.md R733-R750).
-/

namespace Sys2Proof.Machine

/-- FMOV.S (R733). -/
def execFmovS (fd fj : Reg) (s : State) : Out := s.fpGate false <| s.putFrS fd (s.getFrS fj)

/-- FMOV.D (R734). -/
def execFmovD (fd fj : Reg) (s : State) : Out := s.fpGate true <| s.putFr fd (s.getFr fj)

/-- FSEL (R735). -/
def execFsel (fd fj fk : Reg) (ca : BitVec 3) (s : State) : Out :=
  s.fpGate false <| s.putFr fd (if s.getCf ca then s.getFr fk else s.getFr fj)

/-- MOVGR2FR.W (R736). -/
def execMovgr2frW (fd rj : Reg) (s : State) : Out := s.fpGate false <| s.putFrS fd (s.getGrW rj)

/-- MOVGR2FR.D (R737): INE in LA32 (D65). -/
def execMovgr2frD (fd rj : Reg) (s : State) : Out := s.la64Only <| s.fpGate true <| s.putFr fd (s.getGr rj)

/-- MOVGR2FRH.W (R738). -/
def execMovgr2frhW (fd rj : Reg) (s : State) : Out := s.fpGate true <| s.putFr fd (s.getGrW rj ++ s.getFrS fd)

/-- MOVFR2GR.S (R739). -/
def execMovfr2grS (rd fj : Reg) (s : State) : Out := s.fpGate false <| s.putGrW rd (s.getFrS fj)

/-- MOVFR2GR.D (R740): INE in LA32 (D65). -/
def execMovfr2grD (rd fj : Reg) (s : State) : Out := s.la64Only <| s.fpGate true <| s.putGr rd (s.getFr fj)

/-- MOVFRH2GR.S (R741). -/
def execMovfrh2grS (rd fj : Reg) (s : State) : Out := s.fpGate true <| s.putGrW rd ((s.getFr fj).extractLsb' 32 32)

/-- MOVGR2FCSR (R745): never traps. On an instance whose `FCSR_ABSENT` is any value, a write of an FCSR that does not
exist leaves free values in the fields of FCSR0 (U25; log 47). -/
def execMovgr2fcsr (fcsr : BitVec 5) (rj : Reg) (s : State) : Out :=
  s.fpGate false <|
  if s.cfg.fcsrAbsentNoop || fcsrExists fcsr then .next (s.writeFcsr fcsr (s.getGrW rj)).advance
  else .next (s.draw.2.writeFcsr 0#5 (low32 s.draw.1)).advance

/-- MOVFCSR2GR (R746); with `FCSR_ABSENT` any value, an FCSR that does not exist reads as one (U25; log 47). -/
def execMovfcsr2gr (rd : Reg) (fcsr : BitVec 5) (s : State) : Out :=
  s.fpGate false <| if s.cfg.fcsrAbsentNoop || fcsrExists fcsr then s.putGrW rd (s.readFcsr fcsr) else s.putGrFree rd

/-- MOVFR2CF (R747). -/
def execMovfr2cf (cd : BitVec 3) (fj : Reg) (s : State) : Out :=
  s.fpGate false <| .next (s.setCf cd ((s.getFr fj).getLsbD 0)).advance

/-- What MOVCF2FR and MOVCF2GR write, and the state that has drawn it: the flag in bit 0, above it zeros or, with
`CF2R_UPPER` any value, a free value (D67; log 47). -/
def State.flagWord (s : State) (cj : BitVec 3) : Word × State :=
  if s.cfg.cf2rUpperZero then (Word.ofBool (s.getCf cj), s) else (putBit s.draw.1 0 (s.getCf cj), s.draw.2)

/-- MOVCF2FR (R748). -/
def execMovcf2fr (fd : Reg) (cj : BitVec 3) (s : State) : Out :=
  s.fpGate false <| (s.flagWord cj).2.putFr fd (s.flagWord cj).1

/-- MOVGR2CF (R749). -/
def execMovgr2cf (cd : BitVec 3) (rj : Reg) (s : State) : Out :=
  s.fpGate false <| .next (s.setCf cd ((s.getGr rj).getLsbD 0)).advance

/-- MOVCF2GR (R750). -/
def execMovcf2gr (rd : Reg) (cj : BitVec 3) (s : State) : Out :=
  s.fpGate false <| (s.flagWord cj).2.putGr rd (s.flagWord cj).1

end Sys2Proof.Machine
end

