-- ==== Sys2Proof/Machine/IntArith.lean ====
section
/-!
DEFINITION. Integer arithmetic (spec/40_int_arith.md R400-R448). No instruction here writes a flag or raises an
exception but INE where the instance lacks it.
-/

namespace Sys2Proof.Machine

/-- ADD.W (R401). -/
def execAddW (rd rj rk : Reg) (s : State) : Out := s.putGrW rd (s.getGrW rj + s.getGrW rk)

/-- SUB.W (R403). -/
def execSubW (rd rj rk : Reg) (s : State) : Out := s.putGrW rd (s.getGrW rj - s.getGrW rk)

/-- ADD.D (R402). -/
def execAddD (rd rj rk : Reg) (s : State) : Out := s.la64Only <| s.putGr rd (s.getGr rj + s.getGr rk)

/-- SUB.D (R404). -/
def execSubD (rd rj rk : Reg) (s : State) : Out := s.la64Only <| s.putGr rd (s.getGr rj - s.getGr rk)

/-- ADDI.W (R405). -/
def execAddiW (rd rj : Reg) (i12 : BitVec 12) (s : State) : Out := s.putGrW rd (s.getGrW rj + low32 (simm12 i12))

/-- ADDI.D (R406). -/
def execAddiD (rd rj : Reg) (i12 : BitVec 12) (s : State) : Out := s.la64Only <| s.putGr rd (s.getGr rj + simm12 i12)

/-- ADDU16I.D (R407). -/
def execAddu16iD (rd rj : Reg) (i16 : BitVec 16) (s : State) : Out :=
  s.la64Only <| s.putGr rd (s.getGr rj + (i16 ++ 0#16).signExtend 64)

/-- ALSL.W (R408). -/
def execAlslW (rd rj rk : Reg) (sa2 : BitVec 2) (s : State) : Out :=
  s.putGrW rd ((s.getGrW rj <<< (sa2.toNat + 1)) + s.getGrW rk)

/-- ALSL.WU (R409). -/
def execAlslWu (rd rj rk : Reg) (sa2 : BitVec 2) (s : State) : Out :=
  s.la64Only <| s.putGr rd (((s.getGrW rj <<< (sa2.toNat + 1)) + s.getGrW rk).setWidth 64)

/-- ALSL.D (R410). -/
def execAlslD (rd rj rk : Reg) (sa2 : BitVec 2) (s : State) : Out :=
  s.la64Only <| s.putGr rd ((s.getGr rj <<< (sa2.toNat + 1)) + s.getGr rk)

/-- LU12I.W (R411). -/
def execLu12iW (rd : Reg) (si20 : BitVec 20) (s : State) : Out := s.putGr rd ((si20 ++ 0#12).signExtend 64)

/-- LU32I.D (R412). -/
def execLu32iD (rd : Reg) (si20 : BitVec 20) (s : State) : Out :=
  s.la64Only <| s.putGr rd (si20.signExtend 32 ++ s.getGrW rd)

/-- LU52I.D (R413). -/
def execLu52iD (rd rj : Reg) (i12 : BitVec 12) (s : State) : Out :=
  s.la64Only <| s.putGr rd (i12 ++ (s.getGr rj).extractLsb' 0 52)

/-- SLT (R414). -/
def execSlt (rd rj rk : Reg) (s : State) : Out := s.putGr rd (Word.ofBool ((s.getGr rj).slt (s.getGr rk)))

/-- SLTU (R415). -/
def execSltu (rd rj rk : Reg) (s : State) : Out := s.putGr rd (Word.ofBool ((s.getGr rj).ult (s.getGr rk)))

/-- SLTI (R416). -/
def execSlti (rd rj : Reg) (i12 : BitVec 12) (s : State) : Out :=
  s.putGr rd (Word.ofBool ((s.getGr rj).slt (simm12 i12)))

/-- SLTUI (R417): the immediate is sign-extended, the comparison unsigned. -/
def execSltui (rd rj : Reg) (i12 : BitVec 12) (s : State) : Out :=
  s.putGr rd (Word.ofBool ((s.getGr rj).ult (simm12 i12)))

/-- PCADDI (R418). -/
def execPcaddi (rd : Reg) (si20 : BitVec 20) (s : State) : Out := s.putGr rd (s.link (s.pc + simm20 si20 2))

/-- PCADDU12I (R419). -/
def execPcaddu12i (rd : Reg) (si20 : BitVec 20) (s : State) : Out := s.putGr rd (s.link (s.pc + simm20 si20 12))

/-- PCADDU18I (R420). -/
def execPcaddu18i (rd : Reg) (si20 : BitVec 20) (s : State) : Out :=
  s.la64Only <| s.putGr rd (s.link (s.pc + simm20 si20 18))

/-- PCALAU12I (R421). -/
def execPcalau12i (rd : Reg) (si20 : BitVec 20) (s : State) : Out :=
  s.putGr rd (s.link ((s.pc + simm20 si20 12) &&& ~~~0xFFF#64))

/-- AND (R422). -/
def execAnd (rd rj rk : Reg) (s : State) : Out := s.putGr rd (s.getGr rj &&& s.getGr rk)

/-- OR (R423). -/
def execOr (rd rj rk : Reg) (s : State) : Out := s.putGr rd (s.getGr rj ||| s.getGr rk)

/-- NOR (R424). -/
def execNor (rd rj rk : Reg) (s : State) : Out := s.putGr rd (~~~(s.getGr rj ||| s.getGr rk))

/-- XOR (R425). -/
def execXor (rd rj rk : Reg) (s : State) : Out := s.putGr rd (s.getGr rj ^^^ s.getGr rk)

/-- ANDN (R426). -/
def execAndn (rd rj rk : Reg) (s : State) : Out := s.putGr rd (s.getGr rj &&& ~~~(s.getGr rk))

/-- ORN (R427). -/
def execOrn (rd rj rk : Reg) (s : State) : Out := s.putGr rd (s.getGr rj ||| ~~~(s.getGr rk))

/-- ANDI (R428): `andi r0, r0, 0` is NOP (R431). -/
def execAndi (rd rj : Reg) (i12 : BitVec 12) (s : State) : Out := s.putGr rd (s.getGr rj &&& uimm12 i12)

/-- ORI (R429). -/
def execOri (rd rj : Reg) (i12 : BitVec 12) (s : State) : Out := s.putGr rd (s.getGr rj ||| uimm12 i12)

/-- XORI (R430). -/
def execXori (rd rj : Reg) (i12 : BitVec 12) (s : State) : Out := s.putGr rd (s.getGr rj ^^^ uimm12 i12)

/-- MUL.W (R432). -/
def execMulW (rd rj rk : Reg) (s : State) : Out := s.putGrW rd (s.getGrW rj * s.getGrW rk)

/-- MULH.W (R434). -/
def execMulhW (rd rj rk : Reg) (s : State) : Out := s.putGrW rd ((mulSW (s.getGrW rj) (s.getGrW rk)).extractLsb' 32 32)

/-- MULH.WU (R435). -/
def execMulhWu (rd rj rk : Reg) (s : State) : Out := s.putGrW rd ((mulUW (s.getGrW rj) (s.getGrW rk)).extractLsb' 32 32)

/-- MUL.D (R433). -/
def execMulD (rd rj rk : Reg) (s : State) : Out := s.la64Only <| s.putGr rd (s.getGr rj * s.getGr rk)

/-- MULH.D (R436). -/
def execMulhD (rd rj rk : Reg) (s : State) : Out :=
  s.la64Only <| s.putGr rd ((mulSD (s.getGr rj) (s.getGr rk)).extractLsb' 64 64)

/-- MULH.DU (R437). -/
def execMulhDu (rd rj rk : Reg) (s : State) : Out :=
  s.la64Only <| s.putGr rd ((mulUD (s.getGr rj) (s.getGr rk)).extractLsb' 64 64)

/-- MULW.D.W (R438). -/
def execMulwDW (rd rj rk : Reg) (s : State) : Out := s.la64Only <| s.putGr rd (mulSW (s.getGrW rj) (s.getGrW rk))

/-- MULW.D.WU (R439). -/
def execMulwDWu (rd rj rk : Reg) (s : State) : Out := s.la64Only <| s.putGr rd (mulUW (s.getGrW rj) (s.getGrW rk))

/-- DIV.W (R441). -/
def execDivW (rd rj rk : Reg) (s : State) : Out := s.divForm 32 .divW BitVec.sdiv rd rj rk

/-- MOD.W (R442). -/
def execModW (rd rj rk : Reg) (s : State) : Out := s.divForm 32 .modW BitVec.srem rd rj rk

/-- DIV.WU (R443). -/
def execDivWu (rd rj rk : Reg) (s : State) : Out := s.divForm 32 .divWu BitVec.udiv rd rj rk

/-- MOD.WU (R444). -/
def execModWu (rd rj rk : Reg) (s : State) : Out := s.divForm 32 .modWu BitVec.umod rd rj rk

/-- DIV.D (R445). -/
def execDivD (rd rj rk : Reg) (s : State) : Out := s.la64Only <| s.divForm 64 .divD BitVec.sdiv rd rj rk

/-- MOD.D (R446). -/
def execModD (rd rj rk : Reg) (s : State) : Out := s.la64Only <| s.divForm 64 .modD BitVec.srem rd rj rk

/-- DIV.DU (R447). -/
def execDivDu (rd rj rk : Reg) (s : State) : Out := s.la64Only <| s.divForm 64 .divDu BitVec.udiv rd rj rk

/-- MOD.DU (R448). -/
def execModDu (rd rj rk : Reg) (s : State) : Out := s.la64Only <| s.divForm 64 .modDu BitVec.umod rd rj rk

end Sys2Proof.Machine
end

