-- ==== Sys2Proof/Machine/LoadStore.lean ====
section
/-!
DEFINITION. Loads and stores (spec/43_load_store.md R520-R566).
-/

namespace Sys2Proof.Machine

/-- LD.B (R521). -/
def execLdB (rd rj : Reg) (i12 : BitVec 12) (s : State) : Out :=
  s.loadS (s.ordinary .load (s.getGr rj + simm12 i12) 1) rd

/-- LD.H (R522). -/
def execLdH (rd rj : Reg) (i12 : BitVec 12) (s : State) : Out :=
  s.loadS (s.ordinary .load (s.getGr rj + simm12 i12) 2) rd

/-- LD.W (R523). -/
def execLdW (rd rj : Reg) (i12 : BitVec 12) (s : State) : Out :=
  s.loadS (s.ordinary .load (s.getGr rj + simm12 i12) 4) rd

/-- LD.D (R524). -/
def execLdD (rd rj : Reg) (i12 : BitVec 12) (s : State) : Out :=
  s.la64Only <| s.loadS (s.ordinary .load (s.getGr rj + simm12 i12) 8) rd

/-- LD.BU (R525). -/
def execLdBu (rd rj : Reg) (i12 : BitVec 12) (s : State) : Out :=
  s.loadU (s.ordinary .load (s.getGr rj + simm12 i12) 1) rd

/-- LD.HU (R526). -/
def execLdHu (rd rj : Reg) (i12 : BitVec 12) (s : State) : Out :=
  s.loadU (s.ordinary .load (s.getGr rj + simm12 i12) 2) rd

/-- LD.WU (R527). -/
def execLdWu (rd rj : Reg) (i12 : BitVec 12) (s : State) : Out :=
  s.la64Only <| s.loadU (s.ordinary .load (s.getGr rj + simm12 i12) 4) rd

/-- ST.B (R528). -/
def execStB (rd rj : Reg) (i12 : BitVec 12) (s : State) : Out :=
  s.store (s.ordinary .store (s.getGr rj + simm12 i12) 1) (s.getGr rd)

/-- ST.H (R529). -/
def execStH (rd rj : Reg) (i12 : BitVec 12) (s : State) : Out :=
  s.store (s.ordinary .store (s.getGr rj + simm12 i12) 2) (s.getGr rd)

/-- ST.W (R530). -/
def execStW (rd rj : Reg) (i12 : BitVec 12) (s : State) : Out :=
  s.store (s.ordinary .store (s.getGr rj + simm12 i12) 4) (s.getGr rd)

/-- ST.D (R531). -/
def execStD (rd rj : Reg) (i12 : BitVec 12) (s : State) : Out :=
  s.la64Only <| s.store (s.ordinary .store (s.getGr rj + simm12 i12) 8) (s.getGr rd)

/-- LDX.B (R532). -/
def execLdxB (rd rj rk : Reg) (s : State) : Out :=
  s.la64Only <| s.loadS (s.ordinary .load (s.getGr rj + s.getGr rk) 1) rd

/-- LDX.H (R533). -/
def execLdxH (rd rj rk : Reg) (s : State) : Out :=
  s.la64Only <| s.loadS (s.ordinary .load (s.getGr rj + s.getGr rk) 2) rd

/-- LDX.W (R534). -/
def execLdxW (rd rj rk : Reg) (s : State) : Out :=
  s.la64Only <| s.loadS (s.ordinary .load (s.getGr rj + s.getGr rk) 4) rd

/-- LDX.D (R535). -/
def execLdxD (rd rj rk : Reg) (s : State) : Out :=
  s.la64Only <| s.loadS (s.ordinary .load (s.getGr rj + s.getGr rk) 8) rd

/-- LDX.BU (R536). -/
def execLdxBu (rd rj rk : Reg) (s : State) : Out :=
  s.la64Only <| s.loadU (s.ordinary .load (s.getGr rj + s.getGr rk) 1) rd

/-- LDX.HU (R537). -/
def execLdxHu (rd rj rk : Reg) (s : State) : Out :=
  s.la64Only <| s.loadU (s.ordinary .load (s.getGr rj + s.getGr rk) 2) rd

/-- LDX.WU (R538). -/
def execLdxWu (rd rj rk : Reg) (s : State) : Out :=
  s.la64Only <| s.loadU (s.ordinary .load (s.getGr rj + s.getGr rk) 4) rd

/-- STX.B (R539). -/
def execStxB (rd rj rk : Reg) (s : State) : Out :=
  s.la64Only <| s.store (s.ordinary .store (s.getGr rj + s.getGr rk) 1) (s.getGr rd)

/-- STX.H (R540). -/
def execStxH (rd rj rk : Reg) (s : State) : Out :=
  s.la64Only <| s.store (s.ordinary .store (s.getGr rj + s.getGr rk) 2) (s.getGr rd)

/-- STX.W (R541). -/
def execStxW (rd rj rk : Reg) (s : State) : Out :=
  s.la64Only <| s.store (s.ordinary .store (s.getGr rj + s.getGr rk) 4) (s.getGr rd)

/-- STX.D (R542). -/
def execStxD (rd rj rk : Reg) (s : State) : Out :=
  s.la64Only <| s.store (s.ordinary .store (s.getGr rj + s.getGr rk) 8) (s.getGr rd)

/-- LDPTR.W (R543). -/
def execLdptrW (rd rj : Reg) (i14 : BitVec 14) (s : State) : Out :=
  s.la64Only <| s.loadS (s.ordinary .load (s.getGr rj + simm14 i14) 4) rd

/-- STPTR.W (R545). -/
def execStptrW (rd rj : Reg) (i14 : BitVec 14) (s : State) : Out :=
  s.la64Only <| s.store (s.ordinary .store (s.getGr rj + simm14 i14) 4) (s.getGr rd)

/-- LDPTR.D (R544). -/
def execLdptrD (rd rj : Reg) (i14 : BitVec 14) (s : State) : Out :=
  s.la64Only <| s.loadS (s.ordinary .load (s.getGr rj + simm14 i14) 8) rd

/-- STPTR.D (R546). -/
def execStptrD (rd rj : Reg) (i14 : BitVec 14) (s : State) : Out :=
  s.la64Only <| s.store (s.ordinary .store (s.getGr rj + simm14 i14) 8) (s.getGr rd)

/-- LDGT.B (R551). -/
def execLdgtB (rd rj rk : Reg) (s : State) : Out :=
  s.la64Only <| s.loadS (s.bounded .load (s.getGr rj) 1 (s.boundGt rj rk)) rd

/-- STGT.B (R559). -/
def execStgtB (rd rj rk : Reg) (s : State) : Out :=
  s.la64Only <| s.store (s.bounded .store (s.getGr rj) 1 (s.boundGt rj rk)) (s.getGr rd)

/-- LDGT.H (R552). -/
def execLdgtH (rd rj rk : Reg) (s : State) : Out :=
  s.la64Only <| s.loadS (s.bounded .load (s.getGr rj) 2 (s.boundGt rj rk)) rd

/-- STGT.H (R560). -/
def execStgtH (rd rj rk : Reg) (s : State) : Out :=
  s.la64Only <| s.store (s.bounded .store (s.getGr rj) 2 (s.boundGt rj rk)) (s.getGr rd)

/-- LDGT.W (R553). -/
def execLdgtW (rd rj rk : Reg) (s : State) : Out :=
  s.la64Only <| s.loadS (s.bounded .load (s.getGr rj) 4 (s.boundGt rj rk)) rd

/-- STGT.W (R561). -/
def execStgtW (rd rj rk : Reg) (s : State) : Out :=
  s.la64Only <| s.store (s.bounded .store (s.getGr rj) 4 (s.boundGt rj rk)) (s.getGr rd)

/-- LDGT.D (R554). -/
def execLdgtD (rd rj rk : Reg) (s : State) : Out :=
  s.la64Only <| s.loadS (s.bounded .load (s.getGr rj) 8 (s.boundGt rj rk)) rd

/-- STGT.D (R562). -/
def execStgtD (rd rj rk : Reg) (s : State) : Out :=
  s.la64Only <| s.store (s.bounded .store (s.getGr rj) 8 (s.boundGt rj rk)) (s.getGr rd)

/-- LDLE.B (R555). -/
def execLdleB (rd rj rk : Reg) (s : State) : Out :=
  s.la64Only <| s.loadS (s.bounded .load (s.getGr rj) 1 (s.boundLe rj rk)) rd

/-- STLE.B (R563). -/
def execStleB (rd rj rk : Reg) (s : State) : Out :=
  s.la64Only <| s.store (s.bounded .store (s.getGr rj) 1 (s.boundLe rj rk)) (s.getGr rd)

/-- LDLE.H (R556). -/
def execLdleH (rd rj rk : Reg) (s : State) : Out :=
  s.la64Only <| s.loadS (s.bounded .load (s.getGr rj) 2 (s.boundLe rj rk)) rd

/-- STLE.H (R564). -/
def execStleH (rd rj rk : Reg) (s : State) : Out :=
  s.la64Only <| s.store (s.bounded .store (s.getGr rj) 2 (s.boundLe rj rk)) (s.getGr rd)

/-- LDLE.W (R557). -/
def execLdleW (rd rj rk : Reg) (s : State) : Out :=
  s.la64Only <| s.loadS (s.bounded .load (s.getGr rj) 4 (s.boundLe rj rk)) rd

/-- STLE.W (R565). -/
def execStleW (rd rj rk : Reg) (s : State) : Out :=
  s.la64Only <| s.store (s.bounded .store (s.getGr rj) 4 (s.boundLe rj rk)) (s.getGr rd)

/-- LDLE.D (R558). -/
def execLdleD (rd rj rk : Reg) (s : State) : Out :=
  s.la64Only <| s.loadS (s.bounded .load (s.getGr rj) 8 (s.boundLe rj rk)) rd

/-- STLE.D (R566). -/
def execStleD (rd rj rk : Reg) (s : State) : Out :=
  s.la64Only <| s.store (s.bounded .store (s.getGr rj) 8 (s.boundLe rj rk)) (s.getGr rd)

/-- PRELD (R547): no architectural effect, no exception. -/
def execPreld (_hint : BitVec 5) (_rj : Reg) (_i12 : BitVec 12) (s : State) : Out := s.skip

/-- PRELDX (R548): no architectural effect, no exception. -/
def execPreldx (_hint : BitVec 5) (_rj _rk : Reg) (s : State) : Out := s.la64Only s.skip

end Sys2Proof.Machine
end

