-- ==== Sys2Proof/Machine/Misc.lean ====
section
/-!
DEFINITION. CRC, SYSCALL, BREAK, ASRT, RDTIME, CPUCFG (spec/45_crc_misc.md R600-R632).
-/

namespace Sys2Proof.Machine

/-! ## CRC (R600): the reflected bit-serial update (G5; log 26) -/

/-- One message bit. -/
def crcBit (poly crc : BitVec 32) (b : Bool) : BitVec 32 :=
  if crc.getLsbD 0 ^^ b then (crc >>> 1) ^^^ poly else crc >>> 1

/-- `CRC32(crc, data, n, poly)`: the `n` bits of `data` from bit `i` upward. -/
def crcBits (poly : BitVec 32) (data : Word) : Nat → Nat → BitVec 32 → BitVec 32
  | 0, _, crc => crc
  | n + 1, i, crc => crcBits poly data n (i + 1) (crcBit poly crc (data.getLsbD i))

/-- The IEEE 802.3 polynomial. -/
def polyIeee : BitVec 32 := 0xEDB88320#32
/-- The Castagnoli polynomial. -/
def polyCastagnoli : BitVec 32 := 0x82F63B78#32

/-- A CRC instruction on an `n`-bit message in rj, the running checksum in rk. -/
def State.crc (s : State) (poly : BitVec 32) (n : Nat) (rd rj rk : Reg) : Out :=
  s.putGrW rd (crcBits poly (s.getGr rj) n 0 (s.getGrW rk))

/-! ## RDTIME (R611) -/

/-- `StableCounter + CNTC` (R163). -/
def State.timeNow (s : State) : Word :=
  s.timer.stableCounter + (if s.cfg.la64 then s.timer.cntc else sext32 (low32 s.timer.cntc))

/-- MISC.DRDTLn disables RDTIME at the current privilege level (R96). -/
def State.rdtimeDisabled (s : State) : Bool := s.plv != 0#2 && s.csr.misc.getLsbD (4 + s.plv.toNat)

/-- RDTIME: `t` into rd, then the counter ID into rj (D54). -/
def State.rdtime (s : State) (t : Word) (rd rj : Reg) : Out :=
  s.need s.cfg.hasLlftp <|
  if s.rdtimeDisabled then s.raise .ipe
  else .next ((s.setGr rd t).setGr rj (s.timer.tid.setWidth 64)).advance

/-! ## CPUCFG (R620-R632) -/

/-- One configuration bit in place. -/
def cfgBit (b : Bool) (i : Nat) : BitVec 32 := (BitVec.ofBool b).setWidth 32 <<< i

/-- A configuration field in place. -/
def cfgField {w : Nat} (v : BitVec w) (i : Nat) : BitVec 32 := v.setWidth 32 <<< i

/-- Configuration word 1 (R622); IOCSR_BRD and MSG_INT are 0: no product string, level interrupts. -/
def cpucfg1 (c : Config) : BitVec 32 :=
  (if c.la64 then 2#32 else 1#32) ||| cfgBit c.hasPgmmu 2 ||| cfgBit c.hasIocsr 3
    ||| cfgField (BitVec.ofNat 8 (c.palen - 1)) 4 ||| cfgField (BitVec.ofNat 8 (c.valen - 1)) 12
    ||| cfgBit c.ual 20 ||| cfgBit c.hasRi 21 ||| cfgBit c.hasEp 22 ||| cfgBit c.hasRplv 23 ||| cfgBit c.hasHp 24

/-- Configuration word 2 (R623); the extension bits are 0. -/
def cpucfg2 (c : Config) : BitVec 32 :=
  cfgBit c.hasFp 0 ||| cfgBit c.hasFpSp 1 ||| cfgBit c.hasFpDp 2 ||| cfgField c.fpVer 3
    ||| cfgBit c.hasLlftp 14 ||| cfgField c.llftpVer 15 ||| cfgBit c.hasLspw 21 ||| cfgBit c.hasLam 22

/-- Configuration word 3 (R624). -/
def cpucfg3 (c : Config) : BitVec 32 :=
  cfgField c.cpucfg3Low 0 ||| cfgField c.spwLvl 8 ||| cfgBit c.spwHpHf 11 ||| cfgBit c.hasRva 12
    ||| cfgField c.rvamaxMinus1 13

/-- Configuration word 6 (R627); PMNUM has the low 4 bits of the count minus 1 (log 56). -/
def cpucfg6 (c : Config) : BitVec 32 :=
  cfgBit c.hasPm 0 ||| cfgField c.pmVer 1 ||| cfgField (BitVec.ofNat 4 c.pmNum) 4 ||| cfgField c.pmBits 8 ||| cfgBit c.upm 14

/-- `CPUCFG_WORD(n)` (R620-R632): 0 for an undefined word; an undefined field of a defined word reads 0 (D55; log 66),
also in the cache words, of which word 0x10 has no bits 31:15 and the others no bit 31. -/
def cpucfgWord (c : Config) (n : Nat) : BitVec 32 :=
  match n with
  | 0 => c.prid
  | 1 => cpucfg1 c
  | 2 => cpucfg2 c
  | 3 => cpucfg3 c
  | 4 => c.ccFreq
  | 5 => c.ccDiv ++ c.ccMul
  | 6 => cpucfg6 c
  | 0x10 => c.cacheWords[0] &&& 0x00007FFF#32
  | 0x11 => c.cacheWords[1] &&& 0x7FFFFFFF#32
  | 0x12 => c.cacheWords[2] &&& 0x7FFFFFFF#32
  | 0x13 => c.cacheWords[3] &&& 0x7FFFFFFF#32
  | 0x14 => c.cacheWords[4] &&& 0x7FFFFFFF#32
  | _ => 0#32

/-! ## The instructions -/

/-- CRC.W.B.W (R601). -/
def execCrcWBW (rd rj rk : Reg) (s : State) : Out := s.la64Only <| s.crc polyIeee 8 rd rj rk

/-- CRC.W.H.W (R602). -/
def execCrcWHW (rd rj rk : Reg) (s : State) : Out := s.la64Only <| s.crc polyIeee 16 rd rj rk

/-- CRC.W.W.W (R603). -/
def execCrcWWW (rd rj rk : Reg) (s : State) : Out := s.la64Only <| s.crc polyIeee 32 rd rj rk

/-- CRC.W.D.W (R604). -/
def execCrcWDW (rd rj rk : Reg) (s : State) : Out := s.la64Only <| s.crc polyIeee 64 rd rj rk

/-- CRCC.W.B.W (R605). -/
def execCrccWBW (rd rj rk : Reg) (s : State) : Out := s.la64Only <| s.crc polyCastagnoli 8 rd rj rk

/-- CRCC.W.H.W (R606). -/
def execCrccWHW (rd rj rk : Reg) (s : State) : Out := s.la64Only <| s.crc polyCastagnoli 16 rd rj rk

/-- CRCC.W.W.W (R607). -/
def execCrccWWW (rd rj rk : Reg) (s : State) : Out := s.la64Only <| s.crc polyCastagnoli 32 rd rj rk

/-- CRCC.W.D.W (R608). -/
def execCrccWDW (rd rj rk : Reg) (s : State) : Out := s.la64Only <| s.crc polyCastagnoli 64 rd rj rk

/-- SYSCALL (R609): raise SYS; the code is not interpreted. -/
def execSyscall (_code : BitVec 15) (s : State) : Out := s.raise .sys

/-- BREAK (R610): raise BRK; the code is not interpreted. -/
def execBrk (_code : BitVec 15) (s : State) : Out := s.raise .brk

/-- ASRTLE.D (R615). -/
def execAsrtleD (rj rk : Reg) (s : State) : Out :=
  s.la64Only <| if (s.getGr rk).slt (s.getGr rj) then s.raise (.bce (s.getGr rj)) else s.skip

/-- ASRTGT.D (R616). -/
def execAsrtgtD (rj rk : Reg) (s : State) : Out :=
  s.la64Only <| if (s.getGr rk).slt (s.getGr rj) then s.skip else s.raise (.bce (s.getGr rj))

/-- RDTIMEL.W (R612). -/
def execRdtimelW (rd rj : Reg) (s : State) : Out := s.rdtime (sext32 (s.timeNow.extractLsb' 0 32)) rd rj

/-- RDTIMEH.W (R613). -/
def execRdtimehW (rd rj : Reg) (s : State) : Out := s.rdtime (sext32 (s.timeNow.extractLsb' 32 32)) rd rj

/-- RDTIME.D (R614). -/
def execRdtimeD (rd rj : Reg) (s : State) : Out := s.la64Only <| s.rdtime s.timeNow rd rj

/-- CPUCFG (R620). -/
def execCpucfg (rd rj : Reg) (s : State) : Out := s.putGrW rd (cpucfgWord s.cfg (s.cfg.wrap (s.getGr rj)).toNat)

end Sys2Proof.Machine
end

