-- ==== Sys2Proof/Machine/Tlb.lean ====
section
/-!
DEFINITION. TLB maintenance and page walking (spec/49_privileged.md R794-R802, R807-R809;
spec/21_address_translation.md R312-R317; spec/12_csr_mmu_timer_ras.md R130-R147).
-/

namespace Sys2Proof.Machine

/-! ## Entries and the CSRs that hold them -/

/-- The entry at an index. -/
def State.tlbAt (s : State) (i : Nat) : TlbEntry := sparseGet .empty s.tlb i

/-- An entry written at an index. -/
def State.setTlb (s : State) (i : Nat) (e : TlbEntry) : State := { s with tlb := sparseSet .empty s.tlb i e }

/-- Every entry that satisfies `p` becomes invalid: E <- 0. -/
def State.tlbInvalidate (s : State) (p : Nat → TlbEntry → Bool) : State :=
  { s with tlb := sparseMap .empty (fun i e => if p i e then { e with e := false } else e) s.tlb }

/-- Where the PPN field of TLBELO begins: 12 in LA64, the parameter of D30 in LA32 (R132). -/
def ppnLsb (c : Config) : Nat := if c.la64 then 12 else c.la32PpnLsb

/-- The PPN field of TLBELO, in place (R132). -/
def eloPpnMask (c : Config) : Word := if c.la64 then ppnMask c else 0xFFFFFFFF#64 &&& ~~~lowMask c.la32PpnLsb

/-- One half of an entry from a TLBELO-like register (R132, R798); PPN is PALEN-12 bits wide (R290). -/
def pageOfElo (c : Config) (x : Word) : TlbPage where
  v := x.getLsbD 0
  d := x.getLsbD 1
  plv := x.extractLsb' 2 2
  mat := x.extractLsb' 4 2
  ppn := ((x &&& eloPpnMask c) >>> ppnLsb c) &&& lowMask (c.palen - 12)
  nr := c.la64 && x.getLsbD 61
  nx := c.la64 && x.getLsbD 62
  rplv := c.la64 && x.getLsbD 63

/-- The TLBELO image of one half and the entry's G bit (R797). -/
def eloOfPage (c : Config) (g : Bool) (p : TlbPage) : Word :=
  ((BitVec.ofBool p.rplv ++ BitVec.ofBool p.nx ++ BitVec.ofBool p.nr ++ 0#61)
    &&& (if c.la64 then BitVec.allOnes 64 else 0#64))
    ||| ((p.ppn <<< ppnLsb c) &&& eloPpnMask c)
    ||| (BitVec.ofBool g ++ p.mat ++ p.plv ++ BitVec.ofBool p.d ++ BitVec.ofBool p.v).setWidth 64

/-- VPPN as a TLBEHI-like register holds it, as a number of page pairs. -/
def vppnOfEhi (c : Config) (x : Word) : Word := BitVec.ofNat 64 (x.toNat % 2 ^ c.valen / 2 ^ 13)

/-- CSR.TLBRERA.IsTLBR: the refill context (R794). -/
def State.isTlbr (s : State) : Bool := s.mmu.tlbrera.getLsbD 0

/-- The register that names the address of a TLB search or write: TLBREHI or TLBEHI. -/
def State.tlbKey (s : State) : Word := if s.isTlbr then s.mmu.tlbrehi else s.mmu.tlbehi

/-- The virtual address of `tlbKey`: VPPN with zeros below. -/
def State.tlbKeyVa (s : State) : Word := s.tlbKey &&& ~~~0x1FFF#64

/-- CSR.TLBIDX.Index. -/
def State.tlbIndex (s : State) : Nat := (low32 (lowMask s.cfg.tlbidxN) &&& s.mmu.tlbidx).toNat

/-- The page size exponent of the entry the CSRs describe (R798). -/
def State.newPs (s : State) : BitVec 6 :=
  if s.isTlbr then s.mmu.tlbrehi.extractLsb' 0 6 else s.mmu.tlbidx.extractLsb' 24 6

/-- `tlb_entry_from_csrs()` (R798). -/
def State.tlbNew (s : State) : TlbEntry :=
  let e0 := if s.isTlbr then s.mmu.tlbrelo0 else s.mmu.tlbelo0
  let e1 := if s.isTlbr then s.mmu.tlbrelo1 else s.mmu.tlbelo1
  { e := s.isTlbr || !s.mmu.tlbidx.getLsbD 31
    asid := s.asid
    g := e0.getLsbD 6 && e1.getLsbD 6
    ps := s.newPs
    vppn := vppnOfEhi s.cfg s.tlbKey
    page0 := pageOfElo s.cfg e0
    page1 := pageOfElo s.cfg e1 }

/-- A valid entry is written to the STLB while STLBPS.PS is a size the TLB does not support (U11). An invalid one
(NE = 1 outside the refill context) is written all the same, at the set and place that STLBPS.PS gives: no lookup uses
the size of an invalid entry (DESIGN CHOICE, log 18). -/
def State.stlbSizeBad (s : State) : Bool := s.tlbNew.e && !psSupported s.cfg s.stlbPs

/-! ## TLBSRCH, TLBRD, TLBWR, TLBFILL, TLBCLR, TLBFLUSH, INVTLB -/

/-- TLBIDX with NE written. -/
def State.setNe (s : State) (ne : Bool) : State :=
  { s with mmu := { s.mmu with tlbidx := putBit s.mmu.tlbidx 31 ne } }

/-- TLBIDX with Index written. -/
def State.setTlbIndex (s : State) (i : Nat) : State :=
  { s with mmu := { s.mmu with
    tlbidx := mix s.mmu.tlbidx (BitVec.ofNat 32 i) (low32 (lowMask s.cfg.tlbidxN)) } }

/-- TLBSRCH (R796). -/
def State.tlbSearch (s : State) : Out :=
  (s.tlbLookup s.tlbKeyVa).run s fun hit =>
    match hit with
    | some p => ((s.setTlbIndex p.1).setNe false).skip
    | none => (s.setNe true).skip

/-- The CSRs TLBRD writes from a valid entry at index `i` (R797). The page size of an STLB entry is STLBPS.PS as it is,
listed in PRCFG2 or not (R140; DESIGN CHOICE, log 72). -/
def State.readValid (s : State) (i : Nat) (e : TlbEntry) : State :=
  { s with mmu := { s.mmu with
    tlbehi := s.cfg.vppnField (e.vppn <<< 13)
    tlbelo0 := eloOfPage s.cfg e.g e.page0
    tlbelo1 := eloOfPage s.cfg e.g e.page1
    tlbidx := putBit (putBits s.mmu.tlbidx 24 6 (BitVec.ofNat 6 (s.entryPs i e))) 31 false
    asid := putBits s.mmu.asid 0 10 e.asid } }

/-- The CSRs TLBRD writes from an invalid entry (R797, D71). -/
def State.readInvalid (s : State) : State :=
  { s with mmu := { s.mmu with
    tlbehi := 0#64
    tlbelo0 := 0#64
    tlbelo1 := 0#64
    tlbidx := putBit (putBits s.mmu.tlbidx 24 6 0#6) 31 true } }

/-- TLBRD (R797); an index beyond the TLB is undefined (U26; log 19). -/
def State.tlbRead (s : State) : Out :=
  if tlbEntries s.cfg ≤ s.tlbIndex then .fault .tlbIndexRange
  else
    let e := s.tlbAt s.tlbIndex
    (if e.e then s.readValid s.tlbIndex e else s.readInvalid).skip

/-- A write to STLB index `i` conflicts with the page size or the set (R798, U27). -/
def State.stlbConflict (s : State) (i : Nat) : Bool :=
  s.newPs.toNat != s.stlbPs || i % 2 ^ s.cfg.stlbSets != stlbIdx s.cfg s.stlbPs s.tlbKeyVa

/-- TLBWR (R798). -/
def State.tlbWrite (s : State) : Out :=
  let i := s.tlbIndex
  if tlbEntries s.cfg ≤ i then .fault .tlbIndexRange
  else if i < stlbEntries s.cfg then
    if s.stlbConflict i then .fault .stlbConflict
    else if s.stlbSizeBad then .refused .pageSizeUnsupported
    else (s.setTlb i s.tlbNew).skip
  else (s.setTlb i s.tlbNew).skip

/-- The index TLBFILL writes when the free choice is `c` (R799): a way of the set, or an entry of the MTLB. -/
def State.fillIndex (s : State) (c : Word) (stlb : Bool) : Nat :=
  if stlb then
    c.toNat % (s.cfg.stlbWaysMinus1 + 1) * 2 ^ s.cfg.stlbSets + stlbIdx s.cfg s.stlbPs s.tlbKeyVa
  else stlbEntries s.cfg + c.toNat % (s.cfg.mtlbEntriesMinus1 + 1)

/-- The entry TLBFILL writes goes to the STLB (R799). -/
def State.fillsStlb (s : State) : Bool := s.cfg.tlbType == 2 && s.newPs.toNat == s.stlbPs

/-- TLBFILL (R799): the victim is a free choice (D72; log 12). -/
def State.tlbFill (s : State) : Out :=
  if s.fillsStlb && s.stlbSizeBad then .refused .pageSizeUnsupported
  else (s.draw.2.setTlb (s.fillIndex s.draw.1 s.fillsStlb) s.tlbNew).skip

/-- The entries TLBCLR and TLBFLUSH look at (R800, R801): the MTLB, or the set of the STLB that Index names. -/
def State.clearScope (s : State) (i : Nat) : Bool :=
  if stlbEntries s.cfg ≤ s.tlbIndex then decide (stlbEntries s.cfg ≤ i)
  else decide (i < stlbEntries s.cfg) && i % 2 ^ s.cfg.stlbSets == s.tlbIndex % 2 ^ s.cfg.stlbSets

/-- TLBCLR (R800). -/
def State.tlbClear (s : State) : State := s.tlbInvalidate fun i e => s.clearScope i && !e.g && e.asid == s.asid

/-- TLBFLUSH (R801). -/
def State.tlbFlush (s : State) : State := s.tlbInvalidate fun i _ => s.clearScope i

/-- The condition of an INVTLB operation 0 to 6 for one entry (R802, Table 13). Operations 5 and 6 compare an STLB entry
by STLBPS.PS as it is, and go on where that is a size PRCFG2 does not list: U11 names lookups, TLBWR, TLBFILL and LDPTE
only (R140; DESIGN CHOICE, log 72). -/
def State.invCond (s : State) (op : Nat) (asid : BitVec 10) (va : Word) (i : Nat) (e : TlbEntry) : Bool :=
  let vm := vppnMatch s.cfg (s.entryPs i e) e va
  match op with
  | 0 | 1 => true
  | 2 => e.g
  | 3 => !e.g
  | 4 => !e.g && e.asid == asid
  | 5 => !e.g && e.asid == asid && vm
  | 6 => (e.g || e.asid == asid) && vm
  | _ => false

/-- INVTLB (R802). -/
def State.invTlb (s : State) (op : BitVec 5) (rj rk : Reg) : Out :=
  s.need (decide (op.toNat ≤ 6)) <|
    (s.tlbInvalidate (s.invCond op.toNat ((s.getGr rj).extractLsb' 0 10) (s.getGr rk))).skip

/-! ## Page walking -/

/-- The bad virtual address of the current context (R807). -/
def State.walkVa (s : State) : Word := if s.isTlbr then s.mmu.tlbrbadv else s.csr.badv

/-- (base, width) of directory level 1 to 4 (R138, R139); none for a level the instance does not have (U29). -/
def State.dirField (s : State) (level : BitVec 8) : Option (Nat × Nat) :=
  let l := s.mmu.pwcl
  let h := s.mmu.pwch
  match level.toNat with
  | 1 => some ((l.extractLsb' 10 5).toNat, (l.extractLsb' 15 5).toNat)
  | 2 => some ((l.extractLsb' 20 5).toNat, (l.extractLsb' 25 5).toNat)
  | 3 => if s.cfg.la64 then some ((h.extractLsb' 0 6).toNat, (h.extractLsb' 6 6).toNat) else none
  | 4 => if s.cfg.la64 then some ((h.extractLsb' 12 6).toNat, (h.extractLsb' 18 6).toNat) else none
  | _ => none

/-- `x[base+width-1 : base]`, 0 when the width is 0 (R313, R316). The bits of a field that runs past the top bit of `x`
are 0 there: the spec names none (DESIGN CHOICE, log 74). -/
def walkIndex (x : Word) (base width : Nat) : Nat := x.toNat / 2 ^ base % 2 ^ width

/-- `ENTRY_BYTES` (R313, D39, D40). -/
def State.entryBytes (s : State) : Nat :=
  if s.cfg.la64 then 8 * ((s.mmu.pwcl.extractLsb' 30 2).toNat + 1) else 4

/-- The address of entry `idx` of the table whose physical base is in `base`, modulo 2^PALEN (R313, R316, R12). -/
def State.walkAddr (s : State) (base : Word) (idx : Nat) : Nat :=
  ((s.cfg.wrap base).toNat + idx * s.entryBytes) % 2 ^ s.cfg.palen

/-- How many bytes of an entry are read: GRLEN/8 (R313). -/
def walkSize (c : Config) : Nat := if c.la64 then 8 else 4

/-- The bytes of an entry, each address modulo 2^PALEN. -/
def walkBytes (c : Config) (pa : Nat) : List Nat := (physBytes pa (walkSize c)).map (· % 2 ^ c.palen)

/-- Read an entry (R313, R316): untranslated, with memory access type CRMD.DATM (R312). What is said of its
alignment is at `alignGate` (R807; log 54). -/
def State.walkRead (s : State) (base : Word) (idx : Nat) (k : Word → Out) : Out :=
  let pa := s.walkAddr base idx
  let as := walkBytes s.cfg pa
  s.alignGate (BitVec.ofNat 64 pa) (walkSize s.cfg) <|
    (physCheck s.cfg .load (s.csr.crmd.extractLsb' 7 2) as).run s fun _ => k (s.readBytes as)

/-- LDDIR (R808): a huge-page entry passes through; otherwise the entry of directory `level`. Bit 6 marks a huge-page
entry whatever `hasHp` says (DESIGN CHOICE, log 59), and levels 1 to 4 are walked whatever CPUCFG.3.SPW_LVL reports
(R624, `Config.spwLvl`; DESIGN CHOICE, log 71). At a level the tables do not have (U29) it is refused only where it
would read a table: a huge-page entry passes through there too (DESIGN CHOICE, log 20). -/
def State.lddir (s : State) (rd rj : Reg) (level : BitVec 8) : Out :=
  let b := s.getGr rj
  if b.getLsbD 6 then s.putGr rd b
  else match s.dirField level with
    | none => .refused .lddirLevel
    | some f => s.walkRead b (walkIndex s.walkVa f.1 f.2) fun x => s.putGr rd x

/-- TLBRELO0 or TLBRELO1 by parity, and TLBREHI.PS (R316, R317). -/
def State.setRefill (s : State) (odd : Bool) (elo : Word) (ps : BitVec 6) : State :=
  let m := { s.mmu with tlbrehi := putBits s.mmu.tlbrehi 0 6 ps }
  { s with mmu := if odd then { m with tlbrelo1 := elo } else { m with tlbrelo0 := elo } }

/-- The TLBELO image of half `odd` of a huge page of 2^hps bytes, halves of 2^ps bytes (R317). Where `ps` is below 12, or
beyond the top of the PPN field (PALEN or above in LA64), "bit ps" of R317 is no bit of PPN: nothing is set there, and
the two halves get the same PPN (DESIGN CHOICE, log 75). -/
def hugeElo (c : Config) (e : Word) (hps ps : Nat) (odd : Bool) : Word :=
  let d := 12 - ppnLsb c
  let half := (1#64 <<< (ps - d)) &&& eloPpnMask c
  ((e &&& ~~~0x1FC0#64 &&& ~~~eloPpnMask c) ||| (BitVec.ofBool (e.getLsbD 12)).setWidth 64 <<< 6
    ||| (e &&& eloPpnMask c &&& ~~~lowMask (hps - d) &&& ~~~half)
    ||| (if odd then half else 0#64)) &&& eloMask c

/-- LDPTE of a huge-page entry (R317): `ps` is hps - 1. No page size is stated for hps = 0, where `ps` is a free value
(DESIGN CHOICE, log 60). The page is split in half whatever CPUCFG.3.SPW_HP_HF reports (R624, `Config.spwHpHf`): the spec
does not say what LDPTE does where that bit is 0 (DESIGN CHOICE, log 71). -/
def State.ldpteHuge (s : State) (e : Word) (hps : Nat) (odd : Bool) : State :=
  if hps = 0 then
    let ps := s.draw.1.extractLsb' 0 6
    s.draw.2.setRefill odd (hugeElo s.cfg e 0 ps.toNat odd) ps
  else s.setRefill odd (hugeElo s.cfg e hps (hps - 1) odd) (BitVec.ofNat 6 (hps - 1))

/-- LDPTE (R809). Bit 6 marks a huge-page entry whatever `hasHp` says (DESIGN CHOICE, log 59), and its two halves are
filled whatever CPUCFG.3.SPW_HP_HF reports (DESIGN CHOICE, log 71). -/
def State.ldpte (s : State) (rj : Reg) (seq : BitVec 8) : Out :=
  let b := s.getGr rj
  let base := (s.mmu.pwcl.extractLsb' 0 5).toNat
  let width := (s.mmu.pwcl.extractLsb' 5 5).toNat
  let odd := seq.getLsbD 0
  if b.getLsbD 6 then (s.ldpteHuge b (base + width) odd).skip
  else
    s.walkRead b (walkIndex s.walkVa base width / 2 * 2 + odd.toNat) fun x =>
      (s.setRefill odd (x &&& eloMask s.cfg) (BitVec.ofNat 6 base)).skip

end Sys2Proof.Machine
end

