-- ==== Sys2Proof/Machine/Privileged.lean ====
section
/-!
DEFINITION. Privileged instructions (spec/49_privileged.md R780-R809).
-/

namespace Sys2Proof.Machine

/-! ## CSR access -/

/-- CSRRD below PLV0: MISC.RPCNTLn lets PLVn read an implemented performance counter (R781, R194). -/
def State.counterReadable (s : State) (num : BitVec 14) : Bool :=
  s.plv != 0#2 && s.csr.misc.getLsbD (8 + s.plv.toNat)
    && (match csrOfNum s.cfg num with
      | some (.pmcnt _) => true
      | _ => false)

/-- CSRWR and CSRXCHG: the old value to rd, the bits of GR[rd] where `m` is 1 to the CSR (R782, R783). -/
def State.csrSwap (s : State) (rd : Reg) (num : BitVec 14) (m : Word) : Out :=
  match s.csrWriteNum num (s.getGr rd) m with
  | .ok t => t.putGr rd (s.csrReadNum num)
  | .error r => .refused r

/-! ## IOCSR access (R784); no alignment rule, but for the instance of `alignGate` (log 54) -/

/-- The gates of an IOCSR access to `n` bytes at `a`: INE without the unit, IPE, then alignment. -/
def State.iocsrGate (s : State) (a : Word) (n : Nat) (k : Out) : Out :=
  s.need s.cfg.hasIocsr <| s.privileged <| s.alignGate (s.cfg.wrap a) n k

/-- IOCSRRD of `n` bytes. -/
def State.iocsrLoad (s : State) (n : Nat) (rd rj : Reg) : Out :=
  s.iocsrGate (s.getGr rj) n <| s.putGr rd (sextFrom (8 * n) (s.iocsrRead (s.getGr rj) n))

/-- IOCSRWR of `n` bytes. -/
def State.iocsrStore (s : State) (n : Nat) (rd rj : Reg) : Out :=
  s.iocsrGate (s.getGr rj) n <| (s.iocsrWrite (s.getGr rj) n (s.getGr rd)).skip

/-! ## CACOP, DBCL, IDLE -/

/-- The query of a hit operation: the address part of a load, with no alignment or watchpoint test (R793, D70). -/
def State.cacheQuery (s : State) (va : Word) : Out :=
  if s.addressError .load va then s.raise (.adem va) else (s.translate .load va).run s fun _ => s.skip

/-- CACOP: the machine holds no cache, so the other operations change nothing (R793, D70; log 37). -/
def State.cacop (s : State) (op : BitVec 5) (va : Word) : Out :=
  if op.extractLsb' 3 2 = 2#2 then s.cacheQuery (s.vaddr va) else s.skip

/-- Enter debug mode by DBCL (R805, R220, R857): DM, DCL and DERA outside debug mode, DBG.Ecode inside it. The entry
address is a free value (log 21). -/
def State.debugCallEntry (s : State) (code : BitVec 15) : State :=
  { s with
    dbg :=
      if s.dbg.dbg.getLsbD 0 then s.noteDebug 0xC#6
      else { s.dbg with dbg := putBit (putBit s.dbg.dbg 0 true) 9 true, dera := s.pc }
    debugCall := some code
    pc := s.cfg.wrap Config.debugEntry }

/-- The gate of the TLB instructions: INE without a TLB, then IPE (R794). -/
def State.tlbGate (s : State) (k : Out) : Out := s.need s.cfg.hasTlb <| s.privileged k

/-! ## The instructions -/

/-- CSRRD (R781). -/
def execCsrrd (rd : Reg) (csr : BitVec 14) (s : State) : Out :=
  if s.plv = 0#2 ∨ s.counterReadable csr then s.putGr rd (s.csrReadNum csr) else s.raise .ipe

/-- CSRWR (R782). -/
def execCsrwr (rd : Reg) (csr : BitVec 14) (s : State) : Out := s.privileged <| s.csrSwap rd csr (BitVec.allOnes 64)

/-- CSRXCHG (R783). -/
def execCsrxchg (rd rj : Reg) (csr : BitVec 14) (s : State) : Out := s.privileged <| s.csrSwap rd csr (s.getGr rj)

/-- IOCSRRD.B (R785). -/
def execIocsrrdB (rd rj : Reg) (s : State) : Out := s.iocsrLoad 1 rd rj

/-- IOCSRWR.B (R789). -/
def execIocsrwrB (rd rj : Reg) (s : State) : Out := s.iocsrStore 1 rd rj

/-- IOCSRRD.H (R786). -/
def execIocsrrdH (rd rj : Reg) (s : State) : Out := s.iocsrLoad 2 rd rj

/-- IOCSRWR.H (R790). -/
def execIocsrwrH (rd rj : Reg) (s : State) : Out := s.iocsrStore 2 rd rj

/-- IOCSRRD.W (R787). -/
def execIocsrrdW (rd rj : Reg) (s : State) : Out := s.iocsrLoad 4 rd rj

/-- IOCSRWR.W (R791). -/
def execIocsrwrW (rd rj : Reg) (s : State) : Out := s.iocsrStore 4 rd rj

/-- IOCSRRD.D (R788). -/
def execIocsrrdD (rd rj : Reg) (s : State) : Out := s.la64Only <| s.iocsrLoad 8 rd rj

/-- IOCSRWR.D (R792). -/
def execIocsrwrD (rd rj : Reg) (s : State) : Out := s.la64Only <| s.iocsrStore 8 rd rj

/-- CACOP (R793). -/
def execCacop (code : BitVec 5) (rj : Reg) (si12 : BitVec 12) (s : State) : Out :=
  s.privileged <| s.cacop code (s.getGr rj + simm12 si12)

/-- TLBSRCH (R796). -/
def execTlbsrch (s : State) : Out := s.tlbGate s.tlbSearch

/-- TLBRD (R797). -/
def execTlbrd (s : State) : Out := s.tlbGate s.tlbRead

/-- TLBWR (R798). -/
def execTlbwr (s : State) : Out := s.tlbGate s.tlbWrite

/-- TLBFILL (R799). -/
def execTlbfill (s : State) : Out := s.tlbGate s.tlbFill

/-- TLBCLR (R800). -/
def execTlbclr (s : State) : Out := s.tlbGate s.tlbClear.skip

/-- TLBFLUSH (R801). -/
def execTlbflush (s : State) : Out := s.tlbGate s.tlbFlush.skip

/-- INVTLB (R802). -/
def execInvtlb (op : BitVec 5) (rj rk : Reg) (s : State) : Out := s.tlbGate <| s.invTlb op rj rk

/-- LDDIR (R808). -/
def execLddir (rd rj : Reg) (i8 : BitVec 8) (s : State) : Out :=
  s.need s.cfg.hasLspw <| s.privileged <| s.lddir rd rj i8

/-- LDPTE (R809). -/
def execLdpte (rj : Reg) (seq : BitVec 8) (s : State) : Out := s.need s.cfg.hasLspw <| s.privileged <| s.ldpte rj seq

/-- ERTN (R803). -/
def execErtn (s : State) : Out := s.privileged <| .next s.ertn

/-- DBCL (R805). -/
def execDbcl (code : BitVec 15) (s : State) : Out :=
  if s.cfg.dbclPrivileged ∧ s.plv ≠ 0#2 then s.raise .ipe else .next (s.debugCallEntry code)

/-- IDLE (R806): wait, unless what ends the wait already holds; the pc is already that of the next instruction. -/
def execIdle (_code : BitVec 15) (s : State) : Out := s.privileged <| .next { s.advance with idle := !s.wakes }

end Sys2Proof.Machine
end

