-- ==== Sys2Proof/Machine/ShiftBit.lean ====
section
/-!
DEFINITION. Shifts and bit manipulation (spec/41_int_shift_bit.md R450-R494).
-/

namespace Sys2Proof.Machine

/-- SLL.W (R451). -/
def execSllW (rd rj rk : Reg) (s : State) : Out := s.putGrW rd (s.getGrW rj <<< s.getSa5 rk)

/-- SLLI.W (R455). -/
def execSlliW (rd rj : Reg) (ui5 : BitVec 5) (s : State) : Out := s.putGrW rd (s.getGrW rj <<< ui5.toNat)

/-- SLL.D (R459). -/
def execSllD (rd rj rk : Reg) (s : State) : Out := s.la64Only <| s.putGr rd (s.getGr rj <<< s.getSa6 rk)

/-- SLLI.D (R463). -/
def execSlliD (rd rj : Reg) (ui6 : BitVec 6) (s : State) : Out := s.la64Only <| s.putGr rd (s.getGr rj <<< ui6.toNat)

/-- SRL.W (R452). -/
def execSrlW (rd rj rk : Reg) (s : State) : Out := s.putGrW rd (s.getGrW rj >>> s.getSa5 rk)

/-- SRLI.W (R456). -/
def execSrliW (rd rj : Reg) (ui5 : BitVec 5) (s : State) : Out := s.putGrW rd (s.getGrW rj >>> ui5.toNat)

/-- SRL.D (R460). -/
def execSrlD (rd rj rk : Reg) (s : State) : Out := s.la64Only <| s.putGr rd (s.getGr rj >>> s.getSa6 rk)

/-- SRLI.D (R464). -/
def execSrliD (rd rj : Reg) (ui6 : BitVec 6) (s : State) : Out := s.la64Only <| s.putGr rd (s.getGr rj >>> ui6.toNat)

/-- SRA.W (R453). -/
def execSraW (rd rj rk : Reg) (s : State) : Out := s.putGrW rd ((s.getGrW rj).sshiftRight (s.getSa5 rk))

/-- SRAI.W (R457). -/
def execSraiW (rd rj : Reg) (ui5 : BitVec 5) (s : State) : Out := s.putGrW rd ((s.getGrW rj).sshiftRight ui5.toNat)

/-- SRA.D (R461). -/
def execSraD (rd rj rk : Reg) (s : State) : Out := s.la64Only <| s.putGr rd ((s.getGr rj).sshiftRight (s.getSa6 rk))

/-- SRAI.D (R465). -/
def execSraiD (rd rj : Reg) (ui6 : BitVec 6) (s : State) : Out :=
  s.la64Only <| s.putGr rd ((s.getGr rj).sshiftRight ui6.toNat)

/-- ROTR.W (R454). -/
def execRotrW (rd rj rk : Reg) (s : State) : Out := s.putGrW rd ((s.getGrW rj).rotateRight (s.getSa5 rk))

/-- ROTRI.W (R458). -/
def execRotriW (rd rj : Reg) (ui5 : BitVec 5) (s : State) : Out := s.putGrW rd ((s.getGrW rj).rotateRight ui5.toNat)

/-- ROTR.D (R462). -/
def execRotrD (rd rj rk : Reg) (s : State) : Out := s.la64Only <| s.putGr rd ((s.getGr rj).rotateRight (s.getSa6 rk))

/-- ROTRI.D (R466). -/
def execRotriD (rd rj : Reg) (ui6 : BitVec 6) (s : State) : Out :=
  s.la64Only <| s.putGr rd ((s.getGr rj).rotateRight ui6.toNat)

/-- EXT.W.B (R467). -/
def execExtWB (rd rj : Reg) (s : State) : Out := s.putGr rd (((s.getGr rj).setWidth 8).signExtend 64)

/-- EXT.W.H (R468). -/
def execExtWH (rd rj : Reg) (s : State) : Out := s.putGr rd (((s.getGr rj).setWidth 16).signExtend 64)

/-- CLO.W (R469). -/
def execCloW (rd rj : Reg) (s : State) : Out := s.putGr rd (countLeading true (s.getGrW rj))

/-- CLZ.W (R470). -/
def execClzW (rd rj : Reg) (s : State) : Out := s.putGr rd (countLeading false (s.getGrW rj))

/-- CTO.W (R471). -/
def execCtoW (rd rj : Reg) (s : State) : Out := s.putGr rd (countTrailing true (s.getGrW rj))

/-- CTZ.W (R472). -/
def execCtzW (rd rj : Reg) (s : State) : Out := s.putGr rd (countTrailing false (s.getGrW rj))

/-- CLO.D (R473). -/
def execCloD (rd rj : Reg) (s : State) : Out := s.la64Only <| s.putGr rd (countLeading true (s.getGr rj))

/-- CLZ.D (R474). -/
def execClzD (rd rj : Reg) (s : State) : Out := s.la64Only <| s.putGr rd (countLeading false (s.getGr rj))

/-- CTO.D (R475). -/
def execCtoD (rd rj : Reg) (s : State) : Out := s.la64Only <| s.putGr rd (countTrailing true (s.getGr rj))

/-- CTZ.D (R476). -/
def execCtzD (rd rj : Reg) (s : State) : Out := s.la64Only <| s.putGr rd (countTrailing false (s.getGr rj))

/-- BYTEPICK.W (R477). -/
def execBytepickW (rd rj rk : Reg) (sa2 : BitVec 2) (s : State) : Out :=
  s.putGrW rd ((s.getGrW rk ++ s.getGrW rj).extractLsb' (32 - 8 * sa2.toNat) 32)

/-- BYTEPICK.D (R478). -/
def execBytepickD (rd rj rk : Reg) (sa3 : BitVec 3) (s : State) : Out :=
  s.la64Only <| s.putGr rd ((s.getGr rk ++ s.getGr rj).extractLsb' (64 - 8 * sa3.toNat) 64)

/-- REVB.2H (R479). -/
def execRevb2h (rd rj : Reg) (s : State) : Out :=
  s.putGrW rd (revb16 ((s.getGr rj).extractLsb' 16 16) ++ revb16 ((s.getGr rj).extractLsb' 0 16))

/-- REVB.4H (R480). -/
def execRevb4h (rd rj : Reg) (s : State) : Out :=
  s.la64Only <| s.putGr rd (revb16 ((s.getGr rj).extractLsb' 48 16) ++ revb16 ((s.getGr rj).extractLsb' 32 16) ++
    revb16 ((s.getGr rj).extractLsb' 16 16) ++ revb16 ((s.getGr rj).extractLsb' 0 16))

/-- REVB.2W (R481). -/
def execRevb2w (rd rj : Reg) (s : State) : Out :=
  s.la64Only <| s.putGr rd (revb32 ((s.getGr rj).extractLsb' 32 32) ++ revb32 ((s.getGr rj).extractLsb' 0 32))

/-- REVB.D (R482). -/
def execRevbD (rd rj : Reg) (s : State) : Out := s.la64Only <| s.putGr rd (revb64 (s.getGr rj))

/-- REVH.2W (R483). -/
def execRevh2w (rd rj : Reg) (s : State) : Out :=
  s.la64Only <| s.putGr rd (revh32 ((s.getGr rj).extractLsb' 32 32) ++ revh32 ((s.getGr rj).extractLsb' 0 32))

/-- REVH.D (R484). -/
def execRevhD (rd rj : Reg) (s : State) : Out :=
  s.la64Only <| s.putGr rd (revh32 ((s.getGr rj).extractLsb' 0 32) ++ revh32 ((s.getGr rj).extractLsb' 32 32))

/-- BITREV.4B (R485). -/
def execBitrev4b (rd rj : Reg) (s : State) : Out := s.putGrW rd (mapBytes32 bitrev (s.getGrW rj))

/-- BITREV.8B (R486). -/
def execBitrev8b (rd rj : Reg) (s : State) : Out :=
  s.la64Only <| s.putGr rd
    (mapBytes32 bitrev ((s.getGr rj).extractLsb' 32 32) ++ mapBytes32 bitrev ((s.getGr rj).extractLsb' 0 32))

/-- BITREV.W (R487). -/
def execBitrevW (rd rj : Reg) (s : State) : Out := s.putGrW rd (bitrev (s.getGrW rj))

/-- BITREV.D (R488). -/
def execBitrevD (rd rj : Reg) (s : State) : Out := s.la64Only <| s.putGr rd (bitrev (s.getGr rj))

/-- BSTRINS.W (R489): a free value where msbw < lsbw (U22; log 15). -/
def execBstrinsW (rd rj : Reg) (lsbw msbw : BitVec 5) (s : State) : Out :=
  if msbw < lsbw then s.putGrFree rd
  else s.putGrW rd (bstrins (s.getGrW rd) (s.getGrW rj) msbw.toNat lsbw.toNat)

/-- BSTRINS.D (R490): a free value where msbd < lsbd (U22; log 15). -/
def execBstrinsD (rd rj : Reg) (lsbd msbd : BitVec 6) (s : State) : Out :=
  s.la64Only <| if msbd < lsbd then s.putGrFree rd
  else s.putGr rd (bstrins (s.getGr rd) (s.getGr rj) msbd.toNat lsbd.toNat)

/-- BSTRPICK.W (R491): a free value where msbw < lsbw (U22; log 15). -/
def execBstrpickW (rd rj : Reg) (lsbw msbw : BitVec 5) (s : State) : Out :=
  if msbw < lsbw then s.putGrFree rd
  else s.putGrW rd (bstrpick (s.getGrW rj) msbw.toNat lsbw.toNat)

/-- BSTRPICK.D (R492): a free value where msbd < lsbd (U22; log 15). -/
def execBstrpickD (rd rj : Reg) (lsbd msbd : BitVec 6) (s : State) : Out :=
  s.la64Only <| if msbd < lsbd then s.putGrFree rd
  else s.putGr rd (bstrpick (s.getGr rj) msbd.toNat lsbd.toNat)

/-- MASKEQZ (R493). -/
def execMaskeqz (rd rj rk : Reg) (s : State) : Out := s.putGr rd (if s.getGr rk = 0#64 then 0#64 else s.getGr rj)

/-- MASKNEZ (R494). -/
def execMasknez (rd rj rk : Reg) (s : State) : Out := s.putGr rd (if s.getGr rk ≠ 0#64 then 0#64 else s.getGr rj)

end Sys2Proof.Machine
end

