-- ==== Sys2Proof/Machine/Step.lean ====
section
/-!
DEFINITION. One step of the core, the loop of spec/60_exceptions.md R849: inputs, wait state, interrupt, fetch,
decode, execute. `noncomputable`: see Sys2Proof/Decode.lean.
-/

namespace Sys2Proof.Machine

/-- Decode and execute the fetched word (R849 items 5 to 8): no row of the table is INE. -/
noncomputable def runWord (s : State) (w : BitVec 32) : Host.Outcome State Fault Refusal :=
  let s := { s with curInsn := w }
  match decode w with
  | some i => exec i s
  | none => s.raise .ine

/-- A step from a state whose inputs have been applied and that does not wait (R849 items 3 to 8). -/
noncomputable def stepAwake (s : State) : Host.Outcome State Fault Refusal :=
  if s.irqTaken then .next s.enterIrq
  else match s.fetch with
    | .done o => o
    | .word s w => runWord s w

/-- One step (R849). -/
noncomputable def step (s : State) : Host.Outcome State Fault Refusal :=
  let s := s.applyInput
  if s.idle && !s.wakes then .next s else stepAwake { s with idle := false }

/-- `s` with the instruction of bits `w` stored where `step` fetches its next instruction. -/
def State.withFetchWord (s : State) (nbits w : Nat) : State := s.placeWord nbits w

end Sys2Proof.Machine
end

