-- ==== Sys2Proof/Safety.lean ====
section
/-!
DEFINITION. The terms statements about the machine are made in: what counts as a safe run, what an instruction leaves
as it was (frames), what it delivers, what an exception entry leaves, the invariants of the state, and the value of a
floating-point datum as a rational number. Every exception of the architecture is a step to a next state
(spec/60_exceptions.md R849: "There is no outcome in which the core stops"), so a run is safe when no step of it stops
with a fault or a refusal of the model.
-/

namespace Sys2Proof.Machine

/-! ## Runs -/

/-- The outcome is a next state. -/
def Completes (o : Host.Outcome State Fault Refusal) : Prop := ∃ t, o = .next t

/-- The first `k` steps from `s` all answer a next state. -/
def SafeFor : Nat → State → Prop
  | 0, _ => True
  | k + 1, s => ∃ t, step s = .next t ∧ SafeFor k t

/-- One step leads from `s` to `t`. -/
def Steps (s t : State) : Prop := step s = .next t

/-! ## What stays as it was -/

/-- Every general register. -/
def SameGr (s t : State) : Prop := ∀ r, t.getGr r = s.getGr r

/-- Every general register but `rd`. -/
def SameGrBut (rd : Reg) (s t : State) : Prop := ∀ r, r ≠ rd → t.getGr r = s.getGr r

/-- Every floating-point register. -/
def SameFr (s t : State) : Prop := ∀ r, t.getFr r = s.getFr r

/-- Every floating-point register but `fd`. -/
def SameFrBut (fd : Reg) (s t : State) : Prop := ∀ r, r ≠ fd → t.getFr r = s.getFr r

/-- Every condition flag. -/
def SameCf (s t : State) : Prop := ∀ c, t.getCf c = s.getCf c

/-- Every condition flag but `cd`. -/
def SameCfBut (cd : BitVec 3) (s t : State) : Prop := ∀ c, c ≠ cd → t.getCf c = s.getCf c

/-- Every byte of memory. -/
def SameMem (s t : State) : Prop := ∀ a, t.memByte a = s.memByte a

/-- Every byte of memory outside the addresses `as`. -/
def SameMemBut (as : List Nat) (s t : State) : Prop := ∀ a, a ∉ as → t.memByte a = s.memByte a

/-- Every CSR and what stands behind them: timer, TLB, IOCSR space, LLbit, LLaddr, wait state. -/
structure SameSys (s t : State) : Prop where
  csr : t.csr = s.csr
  mmu : t.mmu = s.mmu
  timer : t.timer = s.timer
  ras : t.ras = s.ras
  pm : t.pm = s.pm
  watch : t.watch = s.watch
  dbg : t.dbg = s.dbg
  tlb : t.tlb = s.tlb
  iocsr : t.iocsr = s.iocsr
  llbit : t.llbit = s.llbit
  lladdr : t.lladdr = s.lladdr
  idle : t.idle = s.idle

/-- The configuration, the interrupt inputs, the pending machine error and the model's own fields, the count of free
values excepted. -/
structure SameOutside (s t : State) : Prop where
  cfg : t.cfg = s.cfg
  extIrq : t.extIrq = s.extIrq
  merrPending : t.merrPending = s.merrPending
  inputs : t.inputs = s.inputs
  debugCall : t.debugCall = s.debugCall
  curInsn : t.curInsn = s.curInsn

/-- What the inputs of a step leave as it was, whatever they are (spec/60_exceptions.md R849 item 1; log 16): all of the
core but the clock and timer, the interrupt lines, the pending machine error and LLbit, and of the model's own fields all
but the list of inputs. -/
structure SameUnderInputs (s t : State) : Prop where
  cfg : t.cfg = s.cfg
  pc : t.pc = s.pc
  gr : SameGr s t
  fr : SameFr s t
  cf : SameCf s t
  fcsr : t.fcsr0 = s.fcsr0
  csr : t.csr = s.csr
  mmu : t.mmu = s.mmu
  ras : t.ras = s.ras
  pm : t.pm = s.pm
  watch : t.watch = s.watch
  dbg : t.dbg = s.dbg
  tlb : t.tlb = s.tlb
  lladdr : t.lladdr = s.lladdr
  idle : t.idle = s.idle
  freeCount : t.freeCount = s.freeCount
  debugCall : t.debugCall = s.debugCall
  curInsn : t.curInsn = s.curInsn

/-- How many ticks of the clock the coming step brings: what its input says, or the parameter where no input is listed
(R44, R849 item 1, D20; log 16). -/
def State.comingTicks (s : State) : Nat :=
  match s.inputs with
  | [] => s.cfg.stableStep
  | i :: _ => i.ticks

/-- Clock and timer after `n` ticks; they stand still on an instance without them (R44, R875, LLFTP). -/
def State.clockAfter (s : State) (n : Nat) : TimerState := if s.cfg.hasLlftp then s.timer.ticks n else s.timer

/-- Nothing but the pc may have changed. -/
structure OnlyPc (s t : State) : Prop where
  gr : SameGr s t
  fr : SameFr s t
  cf : SameCf s t
  fcsr : t.fcsr0 = s.fcsr0
  mem : SameMem s t
  sys : SameSys s t
  out : SameOutside s t

/-- Nothing but the general register `rd` and the pc may have changed. -/
structure OnlyGr (rd : Reg) (s t : State) : Prop where
  gr : SameGrBut rd s t
  fr : SameFr s t
  cf : SameCf s t
  fcsr : t.fcsr0 = s.fcsr0
  mem : SameMem s t
  sys : SameSys s t
  out : SameOutside s t

/-- Nothing but the floating-point register `fd` and the pc may have changed. -/
structure OnlyFr (fd : Reg) (s t : State) : Prop where
  gr : SameGr s t
  fr : SameFrBut fd s t
  cf : SameCf s t
  fcsr : t.fcsr0 = s.fcsr0
  mem : SameMem s t
  sys : SameSys s t
  out : SameOutside s t

/-- Nothing but the floating-point register `fd`, FCSR0 and the pc may have changed. -/
structure OnlyFrFcsr (fd : Reg) (s t : State) : Prop where
  gr : SameGr s t
  fr : SameFrBut fd s t
  cf : SameCf s t
  mem : SameMem s t
  sys : SameSys s t
  out : SameOutside s t

/-- Nothing but the condition flag `cd`, FCSR0 and the pc may have changed. -/
structure OnlyCfFcsr (cd : BitVec 3) (s t : State) : Prop where
  gr : SameGr s t
  fr : SameFr s t
  cf : SameCfBut cd s t
  mem : SameMem s t
  sys : SameSys s t
  out : SameOutside s t

/-- Nothing but the bytes at the addresses `as` and the pc may have changed. -/
structure OnlyMem (as : List Nat) (s t : State) : Prop where
  gr : SameGr s t
  fr : SameFr s t
  cf : SameCf s t
  fcsr : t.fcsr0 = s.fcsr0
  mem : SameMemBut as s t
  sys : SameSys s t
  out : SameOutside s t

/-- Nothing but general registers and the pc may have changed. -/
structure SameButGr (s t : State) : Prop where
  fr : SameFr s t
  cf : SameCf s t
  fcsr : t.fcsr0 = s.fcsr0
  mem : SameMem s t
  sys : SameSys s t
  out : SameOutside s t

/-- Nothing but the general register `rd`, the bytes at the addresses `as` and the pc may have changed. -/
structure OnlyGrMem (rd : Reg) (as : List Nat) (s t : State) : Prop where
  gr : SameGrBut rd s t
  fr : SameFr s t
  cf : SameCf s t
  fcsr : t.fcsr0 = s.fcsr0
  mem : SameMemBut as s t
  sys : SameSys s t
  out : SameOutside s t

/-- The registers, the flags and memory are as they were; the CSRs may have changed. -/
structure SameProgram (s t : State) : Prop where
  gr : SameGr s t
  fr : SameFr s t
  cf : SameCf s t
  fcsr : t.fcsr0 = s.fcsr0
  mem : SameMem s t

/-! ## What an instruction delivers -/

/-- The pc is that of the next instruction in sequence (spec/10_state.md R32). -/
def AtNext (s t : State) : Prop := t.pc = s.cfg.wrap (s.pc + 4)

/-- `GR[rd]` holds `v`; r0 stays 0 (spec/10_state.md R30). -/
def GrIs (s t : State) (rd : Reg) (v : Word) : Prop := t.getGr rd = if rd = 0#5 then 0#64 else s.cfg.normGr v

/-- The low 32 bits of an integer, sign-extended: what a W form delivers (spec/40_int_arith.md R400 item c). -/
def wordOf (n : Int) : Word := BitVec.ofInt 64 (n.bmod (2 ^ 32))

/-- The low 64 bits of an integer. -/
def dwordOf (n : Int) : Word := BitVec.ofInt 64 n

/-- `signed(GR[r][31:0])`. -/
def State.sw (s : State) (r : Reg) : Int := ((s.getGr r).toNat : Int).bmod (2 ^ 32)

/-- `unsigned(GR[r][31:0])`. -/
def State.uw (s : State) (r : Reg) : Nat := (s.getGr r).toNat % 2 ^ 32

/-- `signed(GR[r])`. -/
def State.sd (s : State) (r : Reg) : Int := (s.getGr r).toInt

/-- `unsigned(GR[r])`. -/
def State.ud (s : State) (r : Reg) : Nat := (s.getGr r).toNat

/-- No condition on the state. -/
def Always (_s : State) : Prop := True

/-- The instance is LA64. -/
def InLa64 (s : State) : Prop := s.cfg.la64 = true

/-- In every state with `P`, `i` completes, writes the value `v` to `GR[rd]` and changes nothing else. -/
def WritesGr (i : Instr) (P : State → Prop) (rd : Reg) (v : State → Word) : Prop :=
  ∀ s, P s → ∃ t, exec i s = .next t ∧ GrIs s t rd (v s) ∧ AtNext s t ∧ OnlyGr rd s t

/-- In every state with `P`, `i` completes, writes to `GR[rd]` a value in relation `R` to the state, and changes
nothing else. -/
def WritesGrSome (i : Instr) (P : State → Prop) (rd : Reg) (R : State → Word → Prop) : Prop :=
  ∀ s, P s → ∃ t v, exec i s = .next t ∧ R s v ∧ GrIs s t rd v ∧ AtNext s t ∧ OnlyGr rd s t

/-- In every state with `P`, `i` completes and changes nothing but the pc, which becomes `target`. -/
def GoesTo (i : Instr) (P : State → Prop) (target : State → Word) : Prop :=
  ∀ s, P s → ∃ t, exec i s = .next t ∧ t.pc = s.cfg.wrap (target s) ∧ OnlyPc s t

/-! ## Exceptions -/

/-- What an exception of code `e` leaves of the debug registers (spec/60_exceptions.md R857): in debug mode DBG.Ecode
becomes `e`, and nothing else changes. -/
structure DebugNoted (s t : State) (e : BitVec 6) : Prop where
  dera : t.dbg.dera = s.dbg.dera
  dsave : t.dbg.dsave = s.dbg.dsave
  outside : s.dbg.dbg.getLsbD 0 = false → t.dbg.dbg = s.dbg.dbg
  inside : s.dbg.dbg.getLsbD 0 = true → t.dbg.dbg.extractLsb' 16 6 = e ∧
    ∀ i, i < 16 ∨ 22 ≤ i → t.dbg.dbg.getLsbD i = s.dbg.dbg.getLsbD i

/-- ERA as an entry records it (spec/60_exceptions.md R851, R856): the pc, its high half 0 in 32-bit address mode. -/
def State.recordedPc (s : State) : Word := if s.va32 ∨ s.cfg.la64 = false then zextLow32 s.pc else s.pc

/-- What general exception entry leaves (spec/60_exceptions.md R851, R846), for the code `(e, sub)` and the exception
number `n`; the entry address for VS other than 0 is decision D76 (log 63), the debug registers D33 (log 44). BADV,
BADI, TLBEHI, MWPS, FWPS and FCSR0 are not spoken of here. -/
structure GeneralEntry (s t : State) (n : Nat) (e : BitVec 6) (sub : BitVec 9) : Prop where
  pplv : t.csr.prmd.extractLsb' 0 2 = s.csr.crmd.extractLsb' 0 2
  pie : t.csr.prmd.getLsbD 2 = s.csr.crmd.getLsbD 2
  pwe : t.csr.prmd.getLsbD 3 = s.csr.crmd.getLsbD 9
  prmdRest : t.csr.prmd.extractLsb' 4 28 = 0#28
  plv : t.plv = 0#2
  ie : t.csr.crmd.getLsbD 2 = false
  we : t.csr.crmd.getLsbD 9 = false
  crmdMid : t.csr.crmd.extractLsb' 3 6 = s.csr.crmd.extractLsb' 3 6
  crmdHigh : t.csr.crmd.extractLsb' 10 22 = s.csr.crmd.extractLsb' 10 22
  era : t.csr.era = s.recordedPc
  ecode : t.csr.estat.extractLsb' 16 6 = e
  esub : t.csr.estat.extractLsb' 22 9 = sub
  estatLow : t.csr.estat.extractLsb' 0 16 = s.csr.estat.extractLsb' 0 16
  pc : t.pc = s.cfg.wrap (s.csr.eentry |||
    (if s.csr.ecfg.extractLsb' 16 3 = 0#3 then 0#64
     else BitVec.ofNat 64 (2 ^ ((s.csr.ecfg.extractLsb' 16 3).toNat + 2) * n)))
  gr : SameGr s t
  fr : SameFr s t
  cf : SameCf s t
  mem : SameMem s t
  other : t.csr.euen = s.csr.euen ∧ t.csr.misc = s.csr.misc ∧ t.csr.ecfg = s.csr.ecfg ∧
    t.csr.eentry = s.csr.eentry ∧ t.csr.rvacfg = s.csr.rvacfg ∧ t.csr.save = s.csr.save ∧
    t.csr.llbctl = s.csr.llbctl ∧ t.csr.dmw = s.csr.dmw
  mmu : { t.mmu with tlbehi := s.mmu.tlbehi } = s.mmu
  units : t.timer = s.timer ∧ t.ras = s.ras ∧ t.pm = s.pm ∧ t.tlb = s.tlb ∧ t.iocsr = s.iocsr
  reservation : t.llbit = s.llbit ∧ t.lladdr = s.lladdr
  idle : t.idle = s.idle
  dbg : DebugNoted s t e
  out : SameOutside s t

/-- In every state with `P`, `i` takes the general exception of code `(e, sub)`: BADI records the instruction word,
BADV becomes `badv`, FCSR0, TLBEHI and the watchpoints stay. -/
def Traps (i : Instr) (P : State → Prop) (e : BitVec 6) (sub : BitVec 9) (badv : State → Word) : Prop :=
  ∀ s, P s → ∃ t, exec i s = .next t ∧ GeneralEntry s t e.toNat e sub ∧ t.csr.badi = s.curInsn ∧
    t.csr.badv = badv s ∧ t.fcsr0 = s.fcsr0 ∧ t.mmu = s.mmu ∧ t.watch = s.watch

/-- BADV stays. -/
def keepBadv (s : State) : Word := s.csr.badv

/-- The instruction-not-defined exception (spec/60_exceptions.md R841). -/
def TrapsIne (i : Instr) (P : State → Prop) : Prop := Traps i P 0xD#6 0#9 keepBadv

/-- The instruction-privilege exception. -/
def TrapsIpe (i : Instr) (P : State → Prop) : Prop := Traps i P 0xE#6 0#9 keepBadv

/-- The floating-point-disabled exception. -/
def TrapsFpd (i : Instr) (P : State → Prop) : Prop := Traps i P 0xF#6 0#9 keepBadv

/-- TLB refill entry (spec/60_exceptions.md R845, R853) for the faulting address `va`: it writes CRMD, TLBRPRMD, TLBRERA,
TLBRBADV, TLBREHI and no other CSR but BADI, of which this does not speak. TLBRERA in 32-bit address mode is log 46,
the debug registers log 44, the entry on an instance without a TLB log 73. -/
structure RefillEntry (s t : State) (va : Word) : Prop where
  pplv : t.mmu.tlbrprmd.extractLsb' 0 3 = s.csr.crmd.extractLsb' 0 3
  pwe : t.mmu.tlbrprmd.getLsbD 4 = s.csr.crmd.getLsbD 9
  crmdLow : t.csr.crmd.extractLsb' 0 5 = 0b01000#5
  crmdMid : t.csr.crmd.extractLsb' 5 4 = s.csr.crmd.extractLsb' 5 4
  we : t.csr.crmd.getLsbD 9 = false
  crmdHigh : t.csr.crmd.extractLsb' 10 22 = s.csr.crmd.extractLsb' 10 22
  era : t.mmu.tlbrera.extractLsb' 2 62 = s.recordedPc.extractLsb' 2 62
  isTlbr : t.mmu.tlbrera.getLsbD 0 = true
  badv : t.mmu.tlbrbadv = s.vaddr va
  vppn : s.cfg.valen ≤ 64 → ∀ i, 13 ≤ i → i < (if s.cfg.la64 then s.cfg.valen else 32) →
    t.mmu.tlbrehi.getLsbD i = va.getLsbD i
  ps : t.mmu.tlbrehi.extractLsb' 0 6 = s.mmu.tlbrehi.extractLsb' 0 6
  pc : t.pc = s.cfg.wrap s.mmu.tlbrentry
  csr : t.csr = { s.csr with crmd := t.csr.crmd, badi := t.csr.badi }
  mmu : t.mmu = { s.mmu with
    tlbrprmd := t.mmu.tlbrprmd, tlbrera := t.mmu.tlbrera, tlbrbadv := t.mmu.tlbrbadv, tlbrehi := t.mmu.tlbrehi }
  gr : SameGr s t
  fr : SameFr s t
  cf : SameCf s t
  fcsr : t.fcsr0 = s.fcsr0
  mem : SameMem s t
  units : t.timer = s.timer ∧ t.ras = s.ras ∧ t.pm = s.pm ∧ t.tlb = s.tlb ∧ t.iocsr = s.iocsr
  reservation : t.llbit = s.llbit ∧ t.lladdr = s.lladdr
  idle : t.idle = s.idle
  dbg : DebugNoted s t 0x7#6
  out : SameOutside s t

/-- Machine error entry (spec/60_exceptions.md R860) for the reported error `ev` (log 50; the debug registers
log 44). -/
structure MerrEntry (s t : State) (ev : MerrEvent) : Prop where
  plvIe : t.ras.merrctl.extractLsb' 2 3 = s.csr.crmd.extractLsb' 0 3
  pwe : t.ras.merrctl.getLsbD 6 = s.csr.crmd.getLsbD 9
  mode : t.ras.merrctl.extractLsb' 7 6 = s.csr.crmd.extractLsb' 3 6
  isMerr : t.ras.merrctl.getLsbD 0 = true
  repairable : t.ras.merrctl.getLsbD 1 = ev.repairable
  cause : t.ras.merrctl.extractLsb' 16 8 = ev.cause
  crmd : t.csr.crmd = 0x8#32
  era : t.ras.merrera = s.pc
  info : t.ras.merrinfo1 = s.cfg.wrap ev.info1 ∧ t.ras.merrinfo2 = s.cfg.wrap ev.info2
  pc : t.pc = s.cfg.wrap s.ras.merrentry
  consumed : t.merrPending = none
  csr : t.csr = { s.csr with crmd := t.csr.crmd }
  ras : t.ras = { s.ras with
    merrctl := t.ras.merrctl, merrinfo1 := t.ras.merrinfo1, merrinfo2 := t.ras.merrinfo2, merrera := t.ras.merrera }
  mmu : t.mmu = s.mmu
  gr : SameGr s t
  fr : SameFr s t
  cf : SameCf s t
  fcsr : t.fcsr0 = s.fcsr0
  mem : SameMem s t
  units : t.timer = s.timer ∧ t.pm = s.pm ∧ t.tlb = s.tlb ∧ t.iocsr = s.iocsr
  reservation : t.llbit = s.llbit ∧ t.lladdr = s.lladdr
  idle : t.idle = s.idle
  outside : t.cfg = s.cfg ∧ t.extIrq = s.extIrq ∧ t.inputs = s.inputs ∧ t.debugCall = s.debugCall
  dbg : DebugNoted s t 0xE#6

/-! ## Results by instruction set -/

/-- `WritesGr` in every state: an instruction of LA32 and LA64. -/
def WritesGrAll (i : Instr) (rd : Reg) (v : State → Word) : Prop := WritesGr i Always rd v

/-- `WritesGr` in LA64; in LA32 the instruction does not exist (spec/30_encoding.md R343). -/
def WritesGr64 (i : Instr) (rd : Reg) (v : State → Word) : Prop :=
  WritesGr i InLa64 rd v ∧ TrapsIne i (fun s => s.cfg.la64 = false)

/-- `WritesGrSome` in every state. -/
def WritesGrSomeAll (i : Instr) (rd : Reg) (R : State → Word → Prop) : Prop := WritesGrSome i Always rd R

/-- `WritesGrSome` in LA64; in LA32 the instruction does not exist. -/
def WritesGrSome64 (i : Instr) (rd : Reg) (R : State → Word → Prop) : Prop :=
  WritesGrSome i InLa64 rd R ∧ TrapsIne i (fun s => s.cfg.la64 = false)

/-- A link value or PC-relative result: cut to 32 bits and sign-extended in 32-bit address mode
(spec/10_state.md R33). -/
def pcRelative (s : State) (n : Int) : Word := if s.va32 then wordOf n else dwordOf n

/-- The `w`-bit number `x` rotated right by `n` (spec/41_int_shift_bit.md R450). -/
def rotated (w x n : Nat) : Nat := x / 2 ^ n ||| (x * 2 ^ (w - n)) % 2 ^ w

/-- `v` is the length of the run of bits equal to `b` that starts at the top (`lead`) or the bottom of the low `w`
bits of `x`. -/
def IsRun (w : Nat) (b lead : Bool) (x v : Word) : Prop :=
  ∃ k ≤ w, v = BitVec.ofNat 64 k ∧ (∀ j < k, x.getLsbD (if lead then w - 1 - j else j) = b) ∧
    (k < w → x.getLsbD (if lead then w - 1 - k else k) = !b)

/-- Bit `i` of `v` is `f i` below `w`; above, bit `w - 1` is repeated. -/
def BitsFrom (w : Nat) (v : Word) (f : Nat → Bool) : Prop :=
  (∀ i < w, v.getLsbD i = f i) ∧ (∀ i, w ≤ i → i < 64 → v.getLsbD i = v.getLsbD (w - 1))

/-- The reflected CRC update of spec/45_crc_misc.md R600 over the `n` low bits of `msg`, bit 0 first (log 26). -/
def crcOf (poly : BitVec 32) (n : Nat) (msg : Word) (crc : BitVec 32) : BitVec 32 :=
  (List.range n).foldl (fun c i => if c.getLsbD 0 != msg.getLsbD i then (c >>> 1) ^^^ poly else c >>> 1) crc

/-- The configuration words (spec/45_crc_misc.md R620-R632), undefined fields 0 (D55; log 66). Word
numbers above 6 are hexadecimal (log 25). -/
structure CpucfgIs (c : Config) (n : Nat) (w : BitVec 32) : Prop where
  word0 : n = 0 → w = c.prid
  word1 : n = 1 → w.extractLsb' 0 2 = (if c.la64 then 2#2 else 1#2) ∧ w.getLsbD 2 = c.hasPgmmu ∧
    w.getLsbD 3 = c.hasIocsr ∧ w.extractLsb' 4 8 = BitVec.ofNat 8 (c.palen - 1) ∧
    w.extractLsb' 12 8 = BitVec.ofNat 8 (c.valen - 1) ∧ w.getLsbD 20 = c.ual ∧ w.getLsbD 21 = c.hasRi ∧
    w.getLsbD 22 = c.hasEp ∧ w.getLsbD 23 = c.hasRplv ∧ w.getLsbD 24 = c.hasHp ∧ w.extractLsb' 25 7 = 0#7
  word2 : n = 2 → w.getLsbD 0 = c.hasFp ∧ w.getLsbD 1 = c.hasFpSp ∧ w.getLsbD 2 = c.hasFpDp ∧
    w.extractLsb' 3 3 = c.fpVer ∧ w.extractLsb' 6 8 = 0#8 ∧ w.getLsbD 14 = c.hasLlftp ∧
    w.extractLsb' 15 3 = c.llftpVer ∧ w.extractLsb' 18 3 = 0#3 ∧ w.getLsbD 21 = c.hasLspw ∧
    w.getLsbD 22 = c.hasLam ∧ w.extractLsb' 23 9 = 0#9
  word3 : n = 3 → w.extractLsb' 0 8 = c.cpucfg3Low ∧ w.extractLsb' 8 3 = c.spwLvl ∧ w.getLsbD 11 = c.spwHpHf ∧
    w.getLsbD 12 = c.hasRva ∧ w.extractLsb' 13 4 = c.rvamaxMinus1 ∧ w.extractLsb' 17 15 = 0#15
  word4 : n = 4 → w = c.ccFreq
  word5 : n = 5 → w.extractLsb' 0 16 = c.ccMul ∧ w.extractLsb' 16 16 = c.ccDiv
  word6 : n = 6 → w.getLsbD 0 = c.hasPm ∧ w.extractLsb' 1 3 = c.pmVer ∧ w.extractLsb' 4 4 = BitVec.ofNat 4 c.pmNum ∧
    w.extractLsb' 8 6 = c.pmBits ∧ w.getLsbD 14 = c.upm ∧ w.extractLsb' 15 17 = 0#17
  cache : ∀ k (h : k < 5), n = 0x10 + k → ∀ j < 32,
    w.getLsbD j = (decide (j < if k = 0 then 15 else 31) && c.cacheWords[k].getLsbD j)
  other : 6 < n → n < 0x10 ∨ 0x14 < n → w = 0#32

/-! ## Memory accesses -/

/-- The state after the watchpoint test of an access: MWPS may have changed, nothing else. -/
def State.afterWatch (s : State) (a : Access) : State := (s.watchMem a).1

/-- The access passes every check of spec/20_memory.md R250 and touches the physical bytes `as`, whose memory access
type is `mat`. -/
def Reaches (s : State) (a : Access) (as : List Nat) (mat : BitVec 2) : Prop :=
  (s.watchMem a).2 = false ∧ s.accessBytes a = .ok (as, mat)

/-- As `Reaches`, but for what stands behind the physical bytes, which an access that is not made does not need. -/
def ReachesAddrs (s : State) (a : Access) (as : List Nat) (mat : BitVec 2) : Prop :=
  (s.watchMem a).2 = false ∧ s.accessAddrs a = .ok (as, mat)

/-- Memory is in its canonical form. -/
def State.MemOk (s : State) : Prop := sparseWf 0#8 s.mem = true

/-- A little-endian list of bytes as a number (spec/20_memory.md R230). -/
def littleEndian (bs : List Byte) : Nat := bs.foldr (fun b n => b.toNat + 256 * n) 0

/-- The number the bytes at `as` hold. -/
def State.bytesAt (s : State) (as : List Nat) : Nat := littleEndian (as.map s.memByte)

/-- An `n`-byte number, sign-extended. -/
def signedBytes (n : Nat) (k : Nat) : Word := BitVec.ofInt 64 ((k : Int).bmod (2 ^ (8 * n)))

/-- The bytes at `as` are the low bytes of `v`, the lowest first; one with nothing behind it has dropped the store
(U14; log 18). -/
def StoredAt (as : List Nat) (v : Word) (t : State) : Prop :=
  ∀ k (h : k < as.length), t.memByte as[k] =
    if backed t.cfg as[k] then v.extractLsb' (8 * k) 8 else Config.unbackedByte as[k]

/-- Where `acc` reaches memory, `i` completes, delivers `val` of the number loaded to `GR[rd]`, and changes nothing
else but MWPS (`afterWatch`). -/
def LoadsGr (i : Instr) (P : State → Prop) (acc : State → Access) (rd : Reg) (val : Nat → Word) : Prop :=
  ∀ s as mat, P s → Reaches s (acc s) as mat → ∃ t, exec i s = .next t ∧ as.length = (acc s).size ∧
    GrIs s t rd (val (s.bytesAt as)) ∧ AtNext s t ∧ OnlyGr rd (s.afterWatch (acc s)) t

/-- Where `acc` reaches memory, `i` completes, stores the low bytes of `v`, and changes nothing else but MWPS. -/
def StoresMem (i : Instr) (P : State → Prop) (acc : State → Access) (v : State → Word) : Prop :=
  ∀ s as mat, P s → s.MemOk → Reaches s (acc s) as mat → ∃ t, exec i s = .next t ∧ as.length = (acc s).size ∧
    (as.Nodup → StoredAt as (v s) t) ∧ AtNext s t ∧ OnlyMem as (s.afterWatch (acc s)) t

/-- As `Traps`, for an access whose watchpoint test has been made: MWPS is as it left it. -/
def MemTraps (i : Instr) (acc : State → Access) (P : State → Prop) (e : BitVec 6) (sub : BitVec 9)
    (badv : State → Word) : Prop :=
  ∀ s, P s → ∃ t, exec i s = .next t ∧ GeneralEntry s t e.toNat e sub ∧ t.csr.badi = s.curInsn ∧
    t.csr.badv = badv s ∧ t.fcsr0 = s.fcsr0 ∧ t.mmu = s.mmu ∧ t.watch = (s.afterWatch (acc s)).watch

/-- Where the access of `i` is no multiple of its size, alignment is required (`always`, R242) or checked at the current
privilege level (R243), and no watchpoint exception is raised, `i` takes ALE with BADV the address. -/
def TakesAle (i : Instr) (P : State → Prop) (acc : State → Access) (always : Bool) : Prop :=
  MemTraps i acc (fun s => P s ∧ (s.watchMem (acc s)).2 = false ∧ (acc s).va.toNat % (acc s).size ≠ 0 ∧
    (always = true ∨ s.cfg.ual = false ∨ s.csr.misc.getLsbD (12 + s.plv.toNat) = true)) 0x9#6 0#9 (fun s => (acc s).va)

/-- Where the watchpoint test of the access of `i` raises, `i` takes WPEM (0x13, 1), BADV kept: no access is made
(spec/13_csr_pm_watch_debug.md R207, R217; spec/60_exceptions.md R843). -/
def TakesWpem (i : Instr) (P : State → Prop) (acc : State → Access) : Prop :=
  MemTraps i acc (fun s => P s ∧ (s.watchMem (acc s)).2 = true) 0x13#6 1#9 keepBadv

/-- Where the watchpoint test lets the access of `i` go on and its address raises an exception, `i` takes it: the refill
entry for TLBR; the general entry with its code and BADV its address for PIL, PIS, PME, PNR, PPI, ADEM, ALE and BCE, of
which the page exceptions (R852) also write TLBEHI.VPPN and no other CSR of the TLB. MWPS is as the test left it. -/
def TakesAddressExceptions (i : Instr) (P : State → Prop) (acc : State → Access) : Prop :=
  ∀ s, P s → (s.watchMem (acc s)).2 = false →
    (∀ va, s.accessAddrs (acc s) = .trap (.tlbr va) → ∃ t, exec i s = .next t ∧ RefillEntry s t va ∧
      t.csr.badi = s.curInsn ∧ t.watch = (s.afterWatch (acc s)).watch) ∧
    ∀ va x, x ∈ [Exc.pil va, .pis va, .pme va, .pnr va, .ppi va, .adem va, .ale va, .bce va] →
      s.accessAddrs (acc s) = .trap x → ∃ t, exec i s = .next t ∧
        GeneralEntry s t x.code.1.toNat x.code.1 x.code.2 ∧ t.csr.badi = s.curInsn ∧ t.csr.badv = s.vaddr va ∧
        t.fcsr0 = s.fcsr0 ∧ t.watch = (s.afterWatch (acc s)).watch ∧
        (x ∈ [Exc.adem va, .ale va, .bce va] → t.mmu = s.mmu) ∧
        (x ∈ [Exc.pil va, .pis va, .pme va, .pnr va, .ppi va] → t.mmu = { s.mmu with tlbehi := t.mmu.tlbehi } ∧
          (s.cfg.valen ≤ 64 → ∀ j, 13 ≤ j → j < s.cfg.valen →
            t.mmu.tlbehi.getLsbD j = (s.vaddr va).getLsbD j))

/-- Watchpoint `w` takes part and its address is hit by `addr` (spec/13_csr_pm_watch_debug.md R207, R216): CRMD.WE,
DMOnly, PLVn, the ASID where LCL asks for it, and every address bit that the mask does not exclude. -/
def State.WatchHits (s : State) (w : Watchpoint) (addr : Word) : Prop :=
  s.csr.crmd.getLsbD 9 = true ∧ (w.cfg3.getLsbD 0 = true → s.dbg.dbg.getLsbD 0 = true) ∧
  w.cfg3.getLsbD (1 + s.plv.toNat) = true ∧
  (w.cfg3.getLsbD 7 = true → s.mmu.asid.extractLsb' 0 10 = w.cfg4.extractLsb' 0 10) ∧
  ∀ i < 64, w.mask.getLsbD i = false → addr.getLsbD i = w.vaddr.getLsbD i

/-- Byte `b` of an 8-byte group is one that load/store watchpoint `w` watches: it stands in the aligned unit of
8, 4, 2 or 1 bytes (by Size) that holds `w.vaddr` (R209). -/
def Watchpoint.WatchesByte (w : Watchpoint) (b : Nat) : Prop :=
  w.vaddr.toNat % 8 / (8 / 2 ^ (w.cfg3.extractLsb' 10 2).toNat) = b / (8 / 2 ^ (w.cfg3.extractLsb' 10 2).toNat)

/-- The larger of two `n`-byte numbers as signed values. -/
def signedMax (n a b : Nat) : Nat := if (a : Int).bmod (2 ^ (8 * n)) < (b : Int).bmod (2 ^ (8 * n)) then b else a

/-- The smaller of two `n`-byte numbers as signed values. -/
def signedMin (n a b : Nat) : Nat := if (b : Int).bmod (2 ^ (8 * n)) < (a : Int).bmod (2 ^ (8 * n)) then b else a

/-- What an `n`-byte AM* instruction with rd different from rj does where its access passes: the old number to rd,
`f` of it and the low bytes of `GR[rk]` to memory; with rd = rk only what may change is said. -/
def Amo (i : Instr) (n : Nat) (rd rj rk : Reg) (f : Nat → Nat → Nat) : Prop :=
  ∀ s as mat, s.cfg.la64 = true → s.cfg.hasLam = true → rd ≠ rj → s.MemOk →
    Reaches s (s.aligned .rmw (s.getGr rj) n) as mat →
    ∃ t, exec i s = .next t ∧ AtNext s t ∧ OnlyGrMem rd as (s.afterWatch (s.aligned .rmw (s.getGr rj) n)) t ∧
      (rd ≠ rk → GrIs s t rd (signedBytes n (s.bytesAt as)) ∧
        (as.Nodup → StoredAt as (BitVec.ofNat 64 (f (s.bytesAt as) (s.ud rk % 2 ^ (8 * n)))) t))

/-! ## CSR numbers -/

/-- The CSR numbers that spec/11_csr_basic.md R80 defines. -/
def DefinedCsr (n : Nat) : Prop :=
  n ≤ 0x8 ∨ n = 0xC ∨ (0x10 ≤ n ∧ n ≤ 0x13) ∨ (0x18 ≤ n ∧ n ≤ 0x23) ∨ (0x30 ≤ n ∧ n ≤ 0x3F) ∨
    (0x40 ≤ n ∧ n ≤ 0x44) ∨ n = 0x60 ∨ n = 0x80 ∨ n = 0x81 ∨ (0x88 ≤ n ∧ n ≤ 0x95) ∨ n = 0x98 ∨
    (0x180 ≤ n ∧ n ≤ 0x183) ∨ (0x200 ≤ n ∧ n ≤ 0x23F) ∨ n = 0x300 ∨ n = 0x301 ∨
    (0x310 ≤ n ∧ n < 0x350 ∧ n % 8 < 4) ∨ n = 0x380 ∨ n = 0x381 ∨ (0x390 ≤ n ∧ n < 0x3D0 ∧ n % 8 < 4) ∨
    (0x500 ≤ n ∧ n ≤ 0x502)

/-- A register of 32 bits as a read delivers it: sign-extended (R82). -/
def signedRead (x : BitVec 32) : Word := BitVec.ofInt 64 x.toInt

/-- Read as `x` on an instance that has the register, as 0 on another (R83; decision D11, log 66). -/
def readIf (present : Prop) [Decidable present] (x : Word) : Word := if present then x else 0#64

/-- What a read `rd n` of each CSR number `n` delivers (R80, spec/49_privileged.md R781): the field of the state that the
register of that number is, the views of other state computed at the read; which registers an instance has is R83. -/
structure ReadsCsrs (s : State) (rd : Nat → Word) : Prop where
  crmd : rd 0x0 = signedRead s.csr.crmd
  prmd : rd 0x1 = signedRead s.csr.prmd
  euen : rd 0x2 = signedRead s.csr.euen
  /-- ALCLn are constant 1 without UAL (R94). -/
  misc : ∀ j < 64, (rd 0x3).getLsbD j =
    (s.csr.misc.getLsbD (min j 31) || (decide (12 ≤ j ∧ j < 16) && !s.cfg.ual))
  ecfg : rd 0x4 = signedRead s.csr.ecfg
  /-- IS is the live view of the interrupt sources (R101). -/
  estat : ∀ j < 64, (rd 0x5).getLsbD j = if j < 13 then s.isBits.getLsbD j else s.csr.estat.getLsbD (min j 31)
  era : rd 0x6 = s.csr.era
  badv : rd 0x7 = s.csr.badv
  badi : rd 0x8 = signedRead s.csr.badi
  eentry : rd 0xC = s.csr.eentry
  tlbidx : rd 0x10 = readIf (s.cfg.tlbType ≠ 0) (signedRead s.mmu.tlbidx)
  tlbehi : rd 0x11 = readIf (s.cfg.tlbType ≠ 0) s.mmu.tlbehi
  tlbelo0 : rd 0x12 = readIf (s.cfg.tlbType ≠ 0) s.mmu.tlbelo0
  tlbelo1 : rd 0x13 = readIf (s.cfg.tlbType ≠ 0) s.mmu.tlbelo1
  /-- ASIDBITS is a constant (spec/12_csr_mmu_timer_ras.md R134). -/
  asid : ∀ j < 64, (rd 0x18).getLsbD j = (decide (s.cfg.tlbType ≠ 0) &&
    if 16 ≤ j ∧ j < 24 then s.cfg.asidBits.getLsbD (j - 16) else s.mmu.asid.getLsbD (min j 31))
  pgdl : rd 0x19 = readIf (s.cfg.tlbType ≠ 0) s.mmu.pgdl
  pgdh : rd 0x1A = readIf (s.cfg.tlbType ≠ 0) s.mmu.pgdh
  /-- PGDL or PGDH by the highest bit of the bad address of the current context (R137). -/
  pgd : ∀ bad, bad = (if s.mmu.tlbrera.getLsbD 0 then s.mmu.tlbrbadv else s.csr.badv) →
    rd 0x1B = readIf (s.cfg.tlbType ≠ 0) (if bad.getLsbD (s.cfg.valen - 1) then s.mmu.pgdh else s.mmu.pgdl)
  pwcl : rd 0x1C = readIf (s.cfg.tlbType ≠ 0) (signedRead s.mmu.pwcl)
  pwch : rd 0x1D = readIf (s.cfg.la64 = true ∧ s.cfg.tlbType ≠ 0) (signedRead s.mmu.pwch)
  stlbps : rd 0x1E = readIf (s.cfg.tlbType ≠ 0) (signedRead s.mmu.stlbps)
  rvacfg : rd 0x1F = readIf (s.cfg.la64 = true) (signedRead s.csr.rvacfg)
  cpuid : rd 0x20 = BitVec.ofNat 64 s.cfg.coreId.toNat
  /-- SAVENum, TimerBits - 1, VMax (R108; 16 SAVE registers show as 0: log 55). -/
  prcfg1 : rd 0x21 = BitVec.ofNat 64
    (s.cfg.saveNum % 16 + 2 ^ 4 * ((s.cfg.timerBits - 1) % 256) + 2 ^ 12 * s.cfg.vMax.toNat)
  prcfg2 : rd 0x22 = s.cfg.psavl
  /-- TLBType, MTLBEntries, STLBWays, STLBSets (R110). -/
  prcfg3 : rd 0x23 = BitVec.ofNat 64 (s.cfg.tlbType % 16 +
    (if s.cfg.tlbType = 0 then 0 else 2 ^ 4 * (s.cfg.mtlbEntriesMinus1 % 256)) +
    (if s.cfg.tlbType = 2 then 2 ^ 12 * (s.cfg.stlbWaysMinus1 % 256) + 2 ^ 20 * (s.cfg.stlbSets % 64) else 0))
  save : ∀ (n : Nat) (h : n < 16), rd (0x30 + n) = readIf (n < s.cfg.saveNum) s.csr.save[n]
  tid : rd 0x40 = readIf (s.cfg.hasLlftp = true) (signedRead s.timer.tid)
  tcfg : rd 0x41 = readIf (s.cfg.hasLlftp = true) s.timer.tcfg
  tval : rd 0x42 = readIf (s.cfg.hasLlftp = true) s.timer.timeVal
  cntc : rd 0x43 = readIf (s.cfg.hasLlftp = true) s.timer.cntc
  /-- CLR reads 0 (R164). -/
  ticlr : rd 0x44 = 0#64
  /-- ROLLB is LLbit, WCLLB reads 0 (R112). -/
  llbctl : ∀ j < 64, (rd 0x60).getLsbD j =
    if j = 0 then s.llbit else decide (j ≠ 1) && s.csr.llbctl.getLsbD (min j 31)
  tlbrentry : rd 0x88 = readIf (s.cfg.tlbType ≠ 0) s.mmu.tlbrentry
  tlbrbadv : rd 0x89 = readIf (s.cfg.tlbType ≠ 0) s.mmu.tlbrbadv
  tlbrera : rd 0x8A = readIf (s.cfg.tlbType ≠ 0) s.mmu.tlbrera
  tlbrsave : rd 0x8B = readIf (s.cfg.tlbType ≠ 0) s.mmu.tlbrsave
  tlbrelo0 : rd 0x8C = readIf (s.cfg.tlbType ≠ 0) s.mmu.tlbrelo0
  tlbrelo1 : rd 0x8D = readIf (s.cfg.tlbType ≠ 0) s.mmu.tlbrelo1
  tlbrehi : rd 0x8E = readIf (s.cfg.tlbType ≠ 0) s.mmu.tlbrehi
  tlbrprmd : rd 0x8F = readIf (s.cfg.tlbType ≠ 0) (signedRead s.mmu.tlbrprmd)
  merrctl : rd 0x90 = signedRead s.ras.merrctl
  merrinfo1 : rd 0x91 = s.ras.merrinfo1
  merrinfo2 : rd 0x92 = s.ras.merrinfo2
  merrentry : rd 0x93 = s.ras.merrentry
  merrera : rd 0x94 = s.ras.merrera
  merrsave : rd 0x95 = s.ras.merrsave
  dmw : ∀ (n : Nat) (h : n < 4), rd (0x180 + n) = readIf (n < s.cfg.numDmw) s.csr.dmw[n]
  pmcfg : ∀ (n : Nat) (h : n < 32), rd (0x200 + 2 * n) = readIf (n < s.cfg.pmCount) (signedRead s.pm.pmcfg[n])
  pmcnt : ∀ (n : Nat) (h : n < 32), rd (0x201 + 2 * n) = readIf (n < s.cfg.pmCount) s.pm.pmcnt[n]
  /-- Num (spec/13_csr_pm_watch_debug.md R201, R210). -/
  mwpc : rd 0x300 = BitVec.ofNat 64 (s.cfg.mwpNum % 64)
  mwps : rd 0x301 = signedRead s.watch.mwps
  mwp : ∀ (n : Nat) (h : n < 8), ∀ w, w = s.watch.mwp[n] →
    rd (0x310 + 8 * n) = readIf (n < s.cfg.mwpNum) w.vaddr ∧ rd (0x311 + 8 * n) = readIf (n < s.cfg.mwpNum) w.mask ∧
    rd (0x312 + 8 * n) = readIf (n < s.cfg.mwpNum) (signedRead w.cfg3) ∧
    rd (0x313 + 8 * n) = readIf (n < s.cfg.mwpNum) (signedRead w.cfg4)
  fwpc : rd 0x380 = BitVec.ofNat 64 (s.cfg.fwpNum % 64)
  fwps : rd 0x381 = signedRead s.watch.fwps
  fwp : ∀ (n : Nat) (h : n < 8), ∀ w, w = s.watch.fwp[n] →
    rd (0x390 + 8 * n) = readIf (n < s.cfg.fwpNum) w.vaddr ∧ rd (0x391 + 8 * n) = readIf (n < s.cfg.fwpNum) w.mask ∧
    rd (0x392 + 8 * n) = readIf (n < s.cfg.fwpNum) (signedRead w.cfg3) ∧
    rd (0x393 + 8 * n) = readIf (n < s.cfg.fwpNum) (signedRead w.cfg4)
  /-- DRev is the constant of the instance (R220; log 70). -/
  dbg : ∀ j < 64, (rd 0x500).getLsbD j =
    if 1 ≤ j ∧ j < 8 then s.cfg.dRev.getLsbD (j - 1) else s.dbg.dbg.getLsbD (min j 31)
  dera : rd 0x501 = s.dbg.dera
  dsave : rd 0x502 = s.dbg.dsave
  /-- The registers of the implementation's own format are not implemented (R113, R114; log 39). -/
  implementation : rd 0x80 = 0#64 ∧ rd 0x81 = 0#64 ∧ rd 0x98 = 0#64

/-- Bit `j` of TLBELO and TLBRELO belongs to PPN: [PALEN-1:12] in LA64, from the parameter of decision D30 in LA32
(spec/12_csr_mmu_timer_ras.md R132, R145). -/
def ppnField (c : Config) (j : Nat) : Bool :=
  if c.la64 then decide (12 ≤ j) && decide (j < c.palen) else decide (c.la32PpnLsb ≤ j) && decide (j < 32)

/-- Bit `j` of TLBELO and TLBRELO exists: V, D, PLV, MAT, G, PPN, and NR, NX, RPLV where the instance has them. -/
def eloField (c : Config) (j : Nat) : Bool :=
  decide (j < 7) || ppnField c j ||
    (c.la64 && (j == 61 && c.hasRi || j == 62 && c.hasEp || j == 63 && c.hasRplv))

/-- Bit `j` is one of the GRLEN bits of a register. -/
def grField (c : Config) (j : Nat) : Bool := decide (j < if c.la64 then 64 else 32)

/-- The bits that a write of one configuration register of a watchpoint changes (R203-R206, R212-R215): none while
DMOnly locks it outside debug mode, DMOnly itself in debug mode only; `m` are the other fields of the third register. -/
def Watchpoint.field (s : State) (w : Watchpoint) (m : BitVec 32) (k j : Nat) : Bool :=
  !(w.cfg3.getLsbD 0 && !s.dbg.dbg.getLsbD 0) &&
    (if k < 2 then grField s.cfg j
     else if k = 2 then m.getLsbD j || (j == 0 && s.dbg.dbg.getLsbD 0)
     else decide (j < 10))

/-- CSRs whose writable bits simply take what is written: the number, whether the register has 32 bits, and the bits that
exist and are writable (R85 and the register rules of spec/11_csr_basic.md, 12_csr_mmu_timer_ras.md,
13_csr_pm_watch_debug.md; WE without watchpoints: log 33; EUEN: log 34; NR, NX, RPLV: log 35). -/
def plainCsrs (s : State) : List (Nat × Bool × (Nat → Bool)) :=
  let c := s.cfg
  let gr := grField c
  let page := fun j => gr j && decide (12 ≤ j)
  let ppn := fun j => decide (12 ≤ j) && decide (j < if c.la64 then c.palen else 32)
  let watch := fun j => decide (j = 9) && decide (0 < c.mwpNum + c.fwpNum)
  [(0x0, true, fun j => decide (j < 9) || watch j), (0x1, true, fun j => decide (j < 3) || watch (j + 6)),
   (0x2, true, fun j => decide (j = 0) && c.hasFp),
   (0x3, true, fun j => (0x00070EE0#32).getLsbD j || (c.la64 && (0xE#32).getLsbD j) || (c.ual && (0xF000#32).getLsbD j)),
   (0x4, true, (0x00071FFF#32).getLsbD), (0x5, true, fun j => decide (j < 2)), (0x6, false, gr), (0x7, false, gr),
   (0xC, false, page), (0x10, true, fun j => (0xBF000000#32).getLsbD j || decide (j < c.tlbidxN)),
   (0x12, false, eloField c), (0x13, false, eloField c), (0x18, true, fun j => decide (j < 10)),
   (0x19, false, page), (0x1A, false, page), (0x1C, true, fun _ => true), (0x1D, true, fun j => decide (j < 24)),
   (0x1E, true, fun j => decide (j < 6)), (0x1F, true, fun j => decide (j < 4)),
   (0x40, true, fun _ => true), (0x41, false, fun j => gr j && decide (j < c.timerBits)), (0x43, false, gr),
   (0x88, false, ppn), (0x89, false, gr),
   (0x8A, false, fun j => gr j && decide (j ≠ 1)), (0x8B, false, gr), (0x8C, false, eloField c), (0x8D, false, eloField c),
   (0x8F, true, fun j => decide (j < 3) || watch (j + 5)),
   (0x90, true, fun j => (0x1F9E#32).getLsbD j || watch (j + 3)), (0x93, false, ppn), (0x94, false, gr),
   (0x95, false, gr), (0x501, false, gr), (0x502, false, gr)] ++
  (List.range 16).map (fun k => (0x30 + k, false, gr)) ++
  (List.range 4).map (fun k =>
    (0x180 + k, false, (if c.la64 then 0xF00000000000003F#64 else 0xEE00003F#64).getLsbD)) ++
  (List.range 32).map (fun k => (0x200 + 2 * k, true, (0x001F03FF#32).getLsbD)) ++
  (List.range 32).map (fun k => (0x201 + 2 * k, false, gr)) ++
  (List.range 32).map (fun k => (0x310 + 8 * (k / 4) + k % 4, decide (2 ≤ k % 4),
    Watchpoint.field s (s.watch.mwp.getD (k / 4) .reset) 0xF9E#32 (k % 4))) ++
  (List.range 32).map (fun k => (0x390 + 8 * (k / 4) + k % 4, decide (2 ≤ k % 4),
    Watchpoint.field s (s.watch.fwp.getD (k / 4) .reset) 0x9E#32 (k % 4)))

/-- Bit `j` after an exchange: the new bit where it is writable (`w`) and its mask bit is 1. -/
def exchanged (w : Bool) (old new mask : Word) (j : Nat) : Bool :=
  if w && mask.getLsbD j then new.getLsbD j else old.getLsbD j

/-! ## TLB entries -/

/-- `x` is the TLBELO image of page `p` of an entry whose G is `glob` (spec/12_csr_mmu_timer_ras.md R132, R133;
spec/49_privileged.md R797): every field in its place, every other bit 0. -/
structure EloIs (c : Config) (glob : Bool) (p : TlbPage) (x : Word) : Prop where
  v : x.getLsbD 0 = p.v
  d : x.getLsbD 1 = p.d
  plv : x.extractLsb' 2 2 = p.plv
  mat : x.extractLsb' 4 2 = p.mat
  g : x.getLsbD 6 = glob
  ppn : ∀ j, ppnField c j = true → x.getLsbD j = p.ppn.getLsbD (j - if c.la64 then 12 else c.la32PpnLsb)
  attributes : c.la64 = true → x.getLsbD 61 = p.nr ∧ x.getLsbD 62 = p.nx ∧ x.getLsbD 63 = p.rplv
  rest : ∀ j, 7 ≤ j → ppnField c j = false → (c.la64 = true → j < 61) → x.getLsbD j = false

/-- `p` is the page that the TLBELO-like register `x` describes (R132, R798); its PPN has PALEN-12 bits
(spec/21_address_translation.md R290). -/
structure PageIs (c : Config) (x : Word) (p : TlbPage) : Prop where
  v : p.v = x.getLsbD 0
  d : p.d = x.getLsbD 1
  plv : p.plv = x.extractLsb' 2 2
  mat : p.mat = x.extractLsb' 4 2
  ppn : ∀ j, p.ppn.getLsbD j = (decide (j < c.palen - 12) && ppnField c (j + if c.la64 then 12 else c.la32PpnLsb) &&
    x.getLsbD (j + if c.la64 then 12 else c.la32PpnLsb))
  nr : p.nr = (c.la64 && x.getLsbD 61)
  nx : p.nx = (c.la64 && x.getLsbD 62)
  rplv : p.rplv = (c.la64 && x.getLsbD 63)

/-- The entry that TLBWR and TLBFILL write, by the context (R798): `key` is TLBEHI or TLBREHI, `e0` and `e1` the
TLBELO-like registers, `ps` the page size and `valid` the E bit. -/
structure EntryIs (c : Config) (valid : Bool) (ps : BitVec 6) (asid : BitVec 10) (key e0 e1 : Word) (e : TlbEntry) :
    Prop where
  isValid : e.e = valid
  ps : e.ps = ps
  asid : e.asid = asid
  g : e.g = (e0.getLsbD 6 && e1.getLsbD 6)
  vppn : ∀ j, e.vppn.getLsbD j = (decide (j + 13 < c.valen) && key.getLsbD (j + 13))
  page0 : PageIs c e0 e.page0
  page1 : PageIs c e1 e.page1

/-- The entry the CSRs of the current context describe (R794, R798). -/
def State.DescribesEntry (s : State) (e : TlbEntry) : Prop :=
  if s.mmu.tlbrera.getLsbD 0 = true then
    EntryIs s.cfg true (s.mmu.tlbrehi.extractLsb' 0 6) (s.mmu.asid.extractLsb' 0 10) s.mmu.tlbrehi s.mmu.tlbrelo0
      s.mmu.tlbrelo1 e
  else
    EntryIs s.cfg (!s.mmu.tlbidx.getLsbD 31) (s.mmu.tlbidx.extractLsb' 24 6) (s.mmu.asid.extractLsb' 0 10) s.mmu.tlbehi
      s.mmu.tlbelo0 s.mmu.tlbelo1 e

/-- The set of the STLB that `va` belongs to (spec/21_address_translation.md R292; the bit it begins at is the parameter
of decision D34). -/
def State.stlbSet (s : State) (va : Word) : Nat :=
  va.toNat / 2 ^ ((s.mmu.stlbps.extractLsb' 0 6).toNat + (if s.cfg.stlbIndexAbovePs then 1 else 0)) % 2 ^ s.cfg.stlbSets

/-- The entry at index `i` translates `va` (R292, R295): E, G or the ASID, VPPN above the page size, and for an entry of
the STLB, whose page size is STLBPS.PS, the set of `va`. -/
def State.EntryMatches (s : State) (va : Word) (i : Nat) : Prop :=
  (s.tlbAt i).e = true ∧ ((s.tlbAt i).g = true ∨ (s.tlbAt i).asid = s.mmu.asid.extractLsb' 0 10) ∧
  (∀ ps, ps = (if i < stlbEntries s.cfg then (s.mmu.stlbps.extractLsb' 0 6).toNat else (s.tlbAt i).ps.toNat) →
    (s.tlbAt i).vppn.toNat * 2 ^ 13 % 2 ^ s.cfg.valen / 2 ^ (ps + 1) = va.toNat % 2 ^ s.cfg.valen / 2 ^ (ps + 1)) ∧
  (i < stlbEntries s.cfg → i % 2 ^ s.cfg.stlbSets = s.stlbSet va)

/-- STLBPS.PS is a size the TLB supports, or no entry of the STLB is valid (spec/93_implementation_defined.md U11). -/
def State.StlbUsable (s : State) : Prop :=
  s.cfg.psavl.getLsbD (s.mmu.stlbps.extractLsb' 0 6).toNat = true ∨
    ∀ i < stlbEntries s.cfg, (s.tlbAt i).e = false

/-- The TLB is in canonical form. -/
def State.TlbOk (s : State) : Prop := sparseWf TlbEntry.empty s.tlb = true

/-- Implemented window `n` may serve an access of kind `k` and hits `va` (R285): its bit of the current privilege level
is set and its VSEG is the segment of `va`. -/
def State.WindowHits (s : State) (k : AccessKind) (va : Word) (n : Nat) : Prop :=
  n < s.cfg.numDmw ∧ (k = .fetch → n < 2) ∧ ∃ h : n < 4, s.csr.dmw[n].getLsbD s.plv.toNat = true ∧
    (if s.cfg.la64 then va.extractLsb' 60 4 = s.csr.dmw[n].extractLsb' 60 4
     else va.extractLsb' 29 3 = s.csr.dmw[n].extractLsb' 29 3)

/-! ## Floating point -/

/-- The instance has the floating-point unit (double precision too where `dp`), and it is enabled
(spec/46_fp_arith.md R644). -/
def FpReady (dp : Bool) (s : State) : Prop :=
  s.cfg.hasFp = true ∧ (dp = true → s.cfg.hasFpDp = true) ∧ s.csr.euen.getLsbD 0 = true

/-- FCSR0 after an arithmetic instruction that signals `e` and does not trap (spec/46_fp_arith.md R657): Cause is `e`,
Flags gain `e`, the rest stays. -/
structure FcsrAfter (s t : State) (e : FpExc) : Prop where
  cause : t.fcsr0.extractLsb' 24 5 = e
  flags : t.fcsr0.extractLsb' 16 5 = s.fcsr0.extractLsb' 16 5 ||| e
  low : t.fcsr0.extractLsb' 0 16 = s.fcsr0.extractLsb' 0 16
  mid : t.fcsr0.extractLsb' 21 3 = s.fcsr0.extractLsb' 21 3
  high : t.fcsr0.extractLsb' 29 3 = s.fcsr0.extractLsb' 29 3

/-- `FR[fd]` holds the low bits of `x` in format `f`; the upper half of a single result is open (R36). -/
def FrIs (t : State) (f : Fmt) (fd : Reg) (x : Word) : Prop :=
  match f with
  | .s => t.getFrS fd = low32 x
  | .d => t.getFr fd = x

/-- Where no enabled exception is signalled, `i` completes, delivers the result `r` to `FR[fd]` in format `f`, updates
FCSR0, and changes nothing else. -/
def DeliversFp (i : Instr) (P : State → Prop) (f : Fmt) (fd : Reg) (r : State → FpRes) : Prop :=
  ∀ s, P s → (r s).exc &&& s.fpEnables = 0#5 → ∃ t, exec i s = .next t ∧ FrIs t f fd (r s).bits ∧
    FcsrAfter s t (r s).exc ∧ AtNext s t ∧ OnlyFrFcsr fd s t

/-- Where an enabled exception is signalled, `i` takes FPE: Cause records what is signalled, and neither the
destination nor the rest of FCSR0 changes (spec/46_fp_arith.md R657, spec/60_exceptions.md R842). -/
def TrapsFpe (i : Instr) (P : State → Prop) (e : State → FpExc) : Prop :=
  ∀ s, P s → e s &&& s.fpEnables ≠ 0#5 → ∃ t, exec i s = .next t ∧ GeneralEntry s t 0x12 0x12#6 0#9 ∧
    t.csr.badi = s.curInsn ∧ t.csr.badv = s.csr.badv ∧ t.mmu = s.mmu ∧ t.watch = s.watch ∧
    t.fcsr0.extractLsb' 24 5 = e s ∧ t.fcsr0.extractLsb' 0 24 = s.fcsr0.extractLsb' 0 24 ∧
    t.fcsr0.extractLsb' 29 3 = s.fcsr0.extractLsb' 29 3

/-- In every state with `P`, `i` completes, writes the bits `x` to `FR[fd]` in format `f`, and changes nothing else. -/
def WritesFr (i : Instr) (P : State → Prop) (f : Fmt) (fd : Reg) (x : State → Word) : Prop :=
  ∀ s, P s → ∃ t, exec i s = .next t ∧ FrIs t f fd (x s) ∧ AtNext s t ∧ OnlyFr fd s t

/-- A datum that is neither infinite nor a NaN. -/
def Fmt.Finite (f : Fmt) (x : Word) : Prop := f.exp x ≠ f.expMax

/-- The value of a finite datum (spec/46_fp_arith.md R640, R641). -/
def Fmt.value (f : Fmt) (x : Word) : ℚ :=
  (if f.sign x then -1 else 1) * (f.sig x : ℚ) * (2 : ℚ) ^ (f.expo x)

/-- `round_to_integer(q, rm)` (spec/47_fp_cmp_conv_move.md R714). -/
def integerOf (rm : Rounding) (q : ℚ) : Int :=
  match rm with
  | .down => ⌊q⌋
  | .up => ⌈q⌉
  | .zero => if q < 0 then ⌈q⌉ else ⌊q⌋
  | .even =>
    if q - ⌊q⌋ < 1 / 2 then ⌊q⌋
    else if 1 / 2 < q - ⌊q⌋ then ⌊q⌋ + 1
    else if ⌊q⌋ % 2 = 0 then ⌊q⌋ else ⌊q⌋ + 1

/-- In every state with `P`, `i` completes, writes to `FR[fd]` in format `f` bits in relation `R` to the state, and
changes nothing else. -/
def WritesFrSome (i : Instr) (P : State → Prop) (f : Fmt) (fd : Reg) (R : State → Word → Prop) : Prop :=
  ∀ s, P s → ∃ t x, exec i s = .next t ∧ R s x ∧ FrIs t f fd x ∧ AtNext s t ∧ OnlyFr fd s t

/-- `x` is the rounding of the exact value `q` in direction `rm`, among the finite values of the format
(spec/46_fp_arith.md R647); to nearest, a tie goes to the even fraction. -/
def Fmt.Rounds (f : Fmt) (rm : Rounding) (q : ℚ) (x : Word) : Prop :=
  f.Finite x ∧
  match rm with
  | .down => f.value x ≤ q ∧ ∀ y, f.Finite y → f.value y ≤ q → f.value y ≤ f.value x
  | .up => q ≤ f.value x ∧ ∀ y, f.Finite y → q ≤ f.value y → f.value x ≤ f.value y
  | .zero => |f.value x| ≤ |q| ∧ 0 ≤ f.value x * q ∧
      ∀ y, f.Finite y → |f.value y| ≤ |q| → 0 ≤ f.value y * q → |f.value y| ≤ |f.value x|
  | .even => ∀ y, f.Finite y → |f.value x - q| ≤ |f.value y - q| ∧
      (|f.value x - q| = |f.value y - q| → f.value y ≠ f.value x → x.getLsbD 0 = false)

/-- The rounding of `q` with unbounded exponent is above every finite magnitude (R653): `M` is the largest finite one,
`U` the next power of two. -/
def Fmt.Overflows (f : Fmt) (rm : Rounding) (q : ℚ) : Prop :=
  ∀ M U : ℚ, M = (2 - (2 : ℚ) ^ (-(f.frac : Int))) * 2 ^ f.bias → U = 2 ^ (f.bias + 1) →
  match rm with
  | .even => (M + U) / 2 ≤ |q|
  | .zero => U ≤ |q|
  | .up => M < q ∨ q ≤ -U
  | .down => q < -M ∨ U ≤ q

/-- The result of an overflow (R653, Table 7): an infinity or the largest finite magnitude, with the sign of `q`. -/
def Fmt.overflowBits (f : Fmt) (rm : Rounding) (neg : Bool) : Word :=
  match rm with
  | .even => f.inf neg
  | .zero => f.maxFinite neg
  | .up => if neg then f.maxFinite true else f.inf false
  | .down => if neg then f.inf true else f.maxFinite false

/-- The rounding of `q` with unbounded exponent is nonzero and below the smallest normal magnitude `N`, "detect after
rounding" (R647, R654): just below `N` the values of that rounding lie `D` apart. -/
def Fmt.Tiny (f : Fmt) (rm : Rounding) (q : ℚ) : Prop :=
  q ≠ 0 ∧ ∀ N D : ℚ, N = (2 : ℚ) ^ f.emin → D = (2 : ℚ) ^ (f.emin - f.frac - 1) →
  match rm with
  | .even => |q| < N - D / 2
  | .zero => |q| < N
  | .up => -N < q ∧ q ≤ N - D
  | .down => D - N ≤ q ∧ q < N

/-- The operation delivers the rounding of `q` (R647, R653, R654): no V and no Z; on overflow the default result with O
and I; otherwise the finite datum, with the sign of `q`, I where it differs from `q`, and U where `q` is tiny and either
the datum differs from it or Enables.U is 1. -/
def Fmt.Delivers (f : Fmt) (c : FpCtl) (q : ℚ) (r : FpRes) : Prop :=
  r.exc.getLsbD 4 = false ∧ r.exc.getLsbD 3 = false ∧
  (f.Overflows c.rm q → r = ⟨f.overflowBits c.rm (decide (q < 0)), 0b00101#5⟩) ∧
  (¬f.Overflows c.rm q → r.exc.getLsbD 2 = false ∧ f.Rounds c.rm q r.bits ∧
    (r.exc.getLsbD 0 = true ↔ f.value r.bits ≠ q) ∧
    (r.exc.getLsbD 1 = true ↔ f.Tiny c.rm q ∧ (c.trapU = true ∨ f.value r.bits ≠ q)) ∧
    (q ≠ 0 → f.sign r.bits = decide (q < 0)))

/-- `x` is the rounding of a positive root, given by the numbers not above it and not below it; a root is never halfway
between two data, so to nearest needs no tie. -/
def Fmt.RoundsRoot (f : Fmt) (rm : Rounding) (below above : ℚ → Prop) (x : Word) : Prop :=
  f.Finite x ∧ f.sign x = false ∧
  match rm with
  | .down | .zero => below (f.value x) ∧ ∀ y, f.Finite y → 0 ≤ f.value y → below (f.value y) → f.value y ≤ f.value x
  | .up => above (f.value x) ∧ ∀ y, f.Finite y → 0 ≤ f.value y → above (f.value y) → f.value x ≤ f.value y
  | .even => ∀ y, f.Finite y → 0 ≤ f.value y →
      (f.value x < f.value y → above ((f.value x + f.value y) / 2)) ∧
      (f.value y < f.value x → below ((f.value x + f.value y) / 2))

/-- The operation delivers the rounding of a positive root and signals at most inexact (R686, R690). -/
def Fmt.DeliversRoot (f : Fmt) (rm : Rounding) (below above : ℚ → Prop) (r : FpRes) : Prop :=
  f.RoundsRoot rm below above r.bits ∧
  (below (f.value r.bits) ∧ above (f.value r.bits) → r.exc = 0#5) ∧
  (¬(below (f.value r.bits) ∧ above (f.value r.bits)) → r.exc = 0b00001#5)

/-- A NaN among the operands decides the result (R646): the first signaling NaN of the list, its top fraction bit set,
with V; else the first quiet NaN, with no exception. -/
def Fmt.Propagates (f : Fmt) (ops : List Word) (r : FpRes) : Prop :=
  ∀ pre x post, ops = pre ++ x :: post →
    (f.isSNaN x = true → (∀ y ∈ pre, f.isSNaN y = false) → r = ⟨x ||| BitVec.twoPow 64 (f.frac - 1), excV⟩) ∧
    (f.isNaN x = true → (∀ y ∈ pre, f.isNaN y = false) → (∀ y ∈ ops, f.isSNaN y = false) → r = ⟨x, excNone⟩)

/-- 0 times infinity. -/
def Fmt.ZeroTimesInf (f : Fmt) (a b : Word) : Prop :=
  f.isZero a = true ∧ f.isInf b = true ∨ f.isInf a = true ∧ f.isZero b = true

/-- `x` with its sign inverted. -/
def Fmt.flipped (f : Fmt) (x : Word) : Word := x ^^^ BitVec.twoPow 64 f.signPos

/-- `x` with its sign cleared. -/
def Fmt.unsigned (f : Fmt) (x : Word) : Word := x &&& ~~~BitVec.twoPow 64 f.signPos

/-- The place of a datum that is no NaN on the extended line. -/
def Fmt.ext (f : Fmt) (x : Word) : WithBot (WithTop ℚ) :=
  if f.exp x = f.expMax then (if f.sign x then ⊥ else ((⊤ : WithTop ℚ) : WithBot (WithTop ℚ)))
  else ((f.value x : WithTop ℚ) : WithBot (WithTop ℚ))

/-- The truth of comparison condition `cond` (spec/47_fp_cmp_conv_move.md R700): bit 4 greater or less, bit 3
unordered, bit 2 equal, bit 1 less. -/
def Fmt.CondHolds (f : Fmt) (cond : BitVec 5) (a b : Word) : Prop :=
  ((f.isNaN a = true ∨ f.isNaN b = true) ∧ cond.getLsbD 3 = true) ∨
  (f.isNaN a = false ∧ f.isNaN b = false ∧
    ((f.ext a < f.ext b ∧ (cond.getLsbD 1 = true ∨ cond.getLsbD 4 = true)) ∨
     (f.ext a = f.ext b ∧ cond.getLsbD 2 = true) ∨ (f.ext b < f.ext a ∧ cond.getLsbD 4 = true)))

/-- The result of an invalid conversion of `x` to `n` bits: `v` on an instance with the default of
`FTINT_INVALID_RESULT` (`sat`), else the function of the instance (decision D64, log 28). -/
def Fmt.invalidIs (f : Fmt) (n : Nat) (sat : Bool) (x v : Word) : FpRes :=
  ⟨if sat then v else Config.ftintInvalid (f == .d) n x, excV⟩

/-- What conversion of `x` to a signed `n`-bit integer delivers (spec/47_fp_cmp_conv_move.md R714, decision D64). -/
def Fmt.ToInteger (f : Fmt) (rm : Rounding) (n : Nat) (report sat : Bool) (x : Word) (r : FpRes) : Prop :=
  (f.isNaN x = true → r = f.invalidIs n sat x 0#64) ∧
  (f.isInf x = true →
    r = f.invalidIs n sat x (BitVec.ofInt 64 (if f.sign x then -2 ^ (n - 1) else 2 ^ (n - 1) - 1))) ∧
  (f.Finite x →
    (integerOf rm (f.value x) < -2 ^ (n - 1) → r = f.invalidIs n sat x (BitVec.ofInt 64 (-2 ^ (n - 1)))) ∧
    (2 ^ (n - 1) ≤ integerOf rm (f.value x) → r = f.invalidIs n sat x (BitVec.ofInt 64 (2 ^ (n - 1) - 1))) ∧
    (-2 ^ (n - 1) ≤ integerOf rm (f.value x) → integerOf rm (f.value x) < 2 ^ (n - 1) →
      r.bits = BitVec.ofInt 64 (integerOf rm (f.value x)) ∧
      r.exc = excI (report && decide ((integerOf rm (f.value x) : ℚ) ≠ f.value x))))

/-- What FCLASS delivers (spec/46_fp_arith.md R698): one bit by the class of `x`. -/
def Fmt.classBit (f : Fmt) (x : Word) : Nat :=
  if f.exp x = f.expMax ∧ f.fraction x ≠ 0 then (if x.getLsbD (f.frac - 1) then 1 else 0)
  else (if f.sign x then 2 else 6) +
    (if f.exp x = f.expMax then 0 else if f.exp x ≠ 0 then 1 else if f.fraction x ≠ 0 then 2 else 3)

/-- Where `acc` reaches memory, `i` completes, delivers the number loaded to `FR[fd]` in format `f`, and changes
nothing else but MWPS. -/
def LoadsFr (i : Instr) (P : State → Prop) (acc : State → Access) (f : Fmt) (fd : Reg) : Prop :=
  ∀ s as mat, P s → Reaches s (acc s) as mat → ∃ t, exec i s = .next t ∧ as.length = (acc s).size ∧
    FrIs t f fd (BitVec.ofNat 64 (s.bytesAt as)) ∧ AtNext s t ∧ OnlyFr fd (s.afterWatch (acc s)) t

/-! ## Invariants -/

/-- Memory, the IOCSR space and the TLB are in canonical form. -/
def State.Canonical (s : State) : Prop :=
  sparseWf 0#8 s.mem = true ∧ sparseWf 0#8 s.iocsr = true ∧ sparseWf TlbEntry.empty s.tlb = true

/-- The pc and every general register are values the instance's register width can hold (log 2). -/
def State.FitsWidth (s : State) : Prop :=
  s.cfg.wrap s.pc = s.pc ∧ ∀ r, s.cfg.normGr (s.getGr r) = s.getGr r

/-- The bits of the control and status registers that do not exist read 0 (spec/11_csr_basic.md R81). -/
structure State.ReservedZero (s : State) : Prop where
  crmd : s.csr.crmd &&& ~~~0x3FF#32 = 0#32
  prmd : s.csr.prmd &&& ~~~0xF#32 = 0#32
  euen : s.csr.euen &&& ~~~0x1#32 = 0#32
  misc : s.csr.misc &&& ~~~0x0007FEEE#32 = 0#32
  ecfg : s.csr.ecfg &&& ~~~0x00071FFF#32 = 0#32
  estat : s.csr.estat &&& ~~~0x7FFF0003#32 = 0#32
  eentry : s.csr.eentry &&& 0xFFF#64 = 0#64
  rvacfg : s.csr.rvacfg &&& ~~~0xF#32 = 0#32
  llbctl : s.csr.llbctl &&& ~~~0x4#32 = 0#32
  asid : s.mmu.asid &&& ~~~0x3FF#32 = 0#32
  stlbps : s.mmu.stlbps &&& ~~~0x3F#32 = 0#32
  pgd : s.mmu.pgdl &&& 0xFFF#64 = 0#64 ∧ s.mmu.pgdh &&& 0xFFF#64 = 0#64
  pwch : s.mmu.pwch &&& ~~~0x00FFFFFF#32 = 0#32
  tlbrentry : s.mmu.tlbrentry &&& 0xFFF#64 = 0#64
  tlbrera : s.mmu.tlbrera &&& 2#64 = 0#64
  tlbrprmd : s.mmu.tlbrprmd &&& ~~~0x17#32 = 0#32
  merrctl : s.ras.merrctl &&& ~~~0x00FF1FDF#32 = 0#32
  merrentry : s.ras.merrentry &&& 0xFFF#64 = 0#64
  fcsr : s.fcsr0 &&& ~~~0x1F1F031F#32 = 0#32

end Sys2Proof.Machine
end

