-- ==== Sys2Proof/Certificates/Slice0/Obligations.lean ====
section
/-!
DEFINITION. The statements for the provers: what the machine does, by the rules of spec/. Each docstring says the
rules and the log entries (notes/assumptions) it rests on. The terms are those of Sys2Proof/Safety.lean.
-/

open Sys2Proof Sys2Proof.Machine

/-- The determined part of the reset state, and where execution starts. At reset CRMD = 8 (PLV 0, IE 0, DA 1, PG 0, DATF
0, DATM 0, WE 0), EUEN, MISC, ECFG, RVACFG = 0, ESTAT.IS[1:0] = 0, TCFG.En, LLBCTL.KLO, IsTLBR, IsMERR = 0, PLV0 to
PLV3 of every window 0, no monitor enabled, every watchpoint bit 0, DBG.DM = 0; the pc is 0x1C000000, the core is at
PLV0 in direct mode with interrupts and watchpoints disabled. R890, R891. -/
def Obligations.ResetLeavesTheDeterminedState : Prop :=
  State.reset.csr.crmd = 0x8#32 ∧ State.reset.csr.euen = 0#32 ∧ State.reset.csr.misc = 0#32 ∧
  State.reset.csr.ecfg = 0#32 ∧ State.reset.csr.rvacfg = 0#32 ∧ State.reset.csr.estat.extractLsb' 0 2 = 0#2 ∧
  State.reset.timer.tcfg.getLsbD 0 = false ∧ State.reset.csr.llbctl.getLsbD 2 = false ∧
  State.reset.mmu.tlbrera.getLsbD 0 = false ∧ State.reset.ras.merrctl.getLsbD 0 = false ∧
  (∀ n : Fin 4, State.reset.csr.dmw[n].extractLsb' 0 4 = 0#4) ∧
  (∀ n : Fin 32, State.reset.pm.pmcfg[n] &&& ~~~0x3FF#32 = 0#32) ∧
  State.reset.watch.mwps = 0#32 ∧ State.reset.watch.fwps = 0#32 ∧
  (∀ n : Fin 8, State.reset.watch.mwp[n] = ⟨0#64, 0#64, 0#32, 0#32⟩ ∧
    State.reset.watch.fwp[n] = ⟨0#64, 0#64, 0#32, 0#32⟩) ∧
  State.reset.dbg.dbg.getLsbD 0 = false ∧ State.reset.pc = 0x1C000000#64 ∧ State.reset.plv = 0#2 ∧
  State.reset.directMode = true ∧ State.reset.irqTaken = false ∧
  State.reset.fetchPa = .ok 0x1C000000 ∧ State.reset.directMat .fetch = 0#2

/-- The reset state is canonical, fits the register width and has its reserved bits at 0. The three invariants that
every step keeps hold at reset. R890-R893; the values the spec leaves open at reset are 0 (log 5). -/
def Obligations.ResetMeetsTheInvariants : Prop :=
  State.reset.Canonical ∧ State.reset.FitsWidth ∧ State.reset.ReservedZero

/-- A step runs the instruction that the bytes at the pc decode to; an undefined word takes INE. After the inputs of the
step, with no interrupt taken, the core not waiting, no watchpoint exception on the fetch, the pc fetchable at
physical address pa and no machine error pending: where the little-endian word at pa decodes to i, the step is exec
of i in that state (with the instruction latched for BADI); where it decodes to nothing, the step takes INE with ERA
= pc and BADI = the word. R849, R330, R336, R337. That the word is little-endian is decision D2 (log 22). The entry
of an exception is R851 and R846: with VS other than 0 by decision D76 (log 63), the debug registers log 44. -/
def Obligations.StepRunsTheDecodedInstruction : Prop :=
  ∀ (s u : State), u = { s.applyInput with idle := false } → (s.applyInput.idle = true → s.applyInput.wakes = true) →
    u.irqTaken = false →
  ∀ (w : State) (pa : Nat) (word : BitVec 32), (u.watchFetch (u.vaddr u.pc)).2 = false →
  w = { (u.watchFetch (u.vaddr u.pc)).1 with curInsn := word } → u.fetchPa = .ok pa → u.merrPending = none →
  word = u.memByte (pa + 3) ++ u.memByte (pa + 2) ++ u.memByte (pa + 1) ++ u.memByte pa →
  (∀ i, decode word = some i → step s = exec i w) ∧
  (decode word = none → ∃ t, step s = .next t ∧ GeneralEntry w t 0xD 0xD#6 0#9 ∧ t.csr.badi = word ∧
    t.csr.badv = u.csr.badv)

/-- Words written out from the encoding tables decode to the instructions they stand for. Seventeen words, each given by
the spec as the encoding of an instruction of a different family (integer, immediate, system call, CRC, load,
floating-point, flag move, CSR, IOCSR, TLB, return, page walk, assertion), decode to that instruction with its
operands; the word 0 decodes to nothing. The words of the examples of R401, R405, R609, R601, R882, R658, R735,
R748, R781-R783, R785, R802, R803, R808, R809, R615. The three CSR words rest on rows of the opcode table that the
spec repaired (gap G1): log 23, the model's choice to follow it. -/
def Obligations.WrittenWordsDecode : Prop :=
  decode 0x001018A4#32 = some (.addW 4#5 5#5 6#5) ∧
  decode 0x02BFFCA4#32 = some (.addiW 4#5 5#5 0xFFF#12) ∧
  decode 0x002B7FFF#32 = some (.syscall 0x7FFF#15) ∧
  decode 0x002418A4#32 = some (.crcWBW 4#5 5#5 6#5) ∧
  decode 0x28C00085#32 = some (.ldD 5#5 4#5 0#12) ∧
  decode 0x01008C41#32 = some (.faddS 1#5 2#5 3#5) ∧
  decode 0x0D020C41#32 = some (.fsel 1#5 2#5 3#5 4#3) ∧
  decode 0x0114D461#32 = some (.movcf2fr 1#5 3#3) ∧
  decode 0x040000A4#32 = some (.csrxchg 4#5 5#5 0#14) ∧
  decode 0x0400C024#32 = some (.csrwr 4#5 0x30#14) ∧
  decode 0x04008004#32 = some (.csrrd 4#5 0x20#14) ∧
  decode 0x064800A4#32 = some (.iocsrrdB 4#5 5#5) ∧
  decode 0x06499485#32 = some (.invtlb 5#5 4#5 5#5) ∧
  decode 0x06483800#32 = some .ertn ∧
  decode 0x06400C84#32 = some (.lddir 4#5 4#5 3#8) ∧
  decode 0x06440480#32 = some (.ldpte 4#5 1#8) ∧
  decode 0x000118A0#32 = some (.asrtleD 5#5 6#5) ∧
  decode 0#32 = none

/-- Every well-formed instruction decodes from its encoding. For every well-formed instruction of the 332, with every
operand at every value its field admits, decoding its encoding gives it back. R331-R337. Well-formed excludes only
CSRXCHG with rj 0 or 1, which are CSRRD and CSRWR (R333). -/
def Obligations.DecodeOfEncodeIsTheInstruction : Prop :=
  ∀ i : Instr, WellFormed i → decode (encode i) = some i

/-- A word that decodes is the encoding of the well-formed instruction it decodes to. For every 32-bit word: if it
decodes to an instruction, that instruction is well-formed and its encoding is the word; so no bit of a word is
ignored and no two words stand for one instruction. R336, R337: bits that an encoding fixes are checked. -/
def Obligations.EveryDecodedWordIsAnEncoding : Prop :=
  ∀ (w : BitVec 32) (i : Instr), decode w = some i → WellFormed i ∧ encode i = w

/-- Results of the ten add, subtract and shift-add instructions; an LA64-only one takes INE in LA32 (decision D44, log
45). In every state of an instance that has it, each of ADD, SUB, ADDI, ADDU16I, ALSL in its W, WU and D forms
completes, writes to GR[rd] the sum or difference of its operands modulo 2^32 (sign-extended; zero-extended for
ALSL.WU) or 2^64, nothing to r0, advances the pc by 4 and changes nothing else; an LA64-only form raises INE in
LA32. R401-R410. The sums are of the integers the operands stand for; `wordOf` and `dwordOf` cut them to the width.
That an LA64-only instruction takes INE in LA32 is R337(b), decision D44 (log 45): the spec's own decision, which
the model follows; the entry is R851, with decision D76 (log 63) for VS other than 0 and log 44 for the debug
registers. -/
def Obligations.AddSubtractResults : Prop :=
  ∀ (rd rj rk : Reg) (i12 : BitVec 12) (i16 : BitVec 16) (sa2 : BitVec 2),
  WritesGrAll (.addW rd rj rk) rd (fun s => wordOf (s.sw rj + s.sw rk)) ∧
  WritesGr64 (.addD rd rj rk) rd (fun s => dwordOf (s.sd rj + s.sd rk)) ∧
  WritesGrAll (.subW rd rj rk) rd (fun s => wordOf (s.sw rj - s.sw rk)) ∧
  WritesGr64 (.subD rd rj rk) rd (fun s => dwordOf (s.sd rj - s.sd rk)) ∧
  WritesGrAll (.addiW rd rj i12) rd (fun s => wordOf (s.sw rj + i12.toInt)) ∧
  WritesGr64 (.addiD rd rj i12) rd (fun s => dwordOf (s.sd rj + i12.toInt)) ∧
  WritesGr64 (.addu16iD rd rj i16) rd (fun s => dwordOf (s.sd rj + i16.toInt * 2 ^ 16)) ∧
  WritesGrAll (.alslW rd rj rk sa2) rd (fun s => wordOf (s.sw rj * 2 ^ (sa2.toNat + 1) + s.sw rk)) ∧
  WritesGr64 (.alslWu rd rj rk sa2) rd (fun s => BitVec.ofNat 64 ((s.uw rj * 2 ^
    (sa2.toNat + 1) + s.uw rk) % 2 ^ 32)) ∧
  WritesGr64 (.alslD rd rj rk sa2) rd (fun s => dwordOf (s.sd rj * 2 ^ (sa2.toNat + 1) + s.sd rk))

/-- Results of LU12I, LU32I, LU52I, PCADDI, PCADDU12I, PCADDU18I, PCALAU12I; an LA64-only one takes INE in LA32
(decision D44, log 45). In every state of an instance that has it, each of the seven completes, writes the stated
constant or pc-relative address to GR[rd] (the low 32 bits sign-extended where va32 holds), nothing to r0, advances
the pc and changes nothing else; an LA64-only form raises INE in LA32. R411-R413, R418-R421. LU32I.D and LU52I.D
keep the low 32 and 52 bits of their source. The clause on 32-bit address mode is R33 item b; that PCALAU12I is one
of the instructions it applies to is decision D15 (log 67; R33 names six, the manual's list is open). That an
LA64-only instruction takes INE in LA32 is R337(b), decision D44 (log 45): the spec's own decision, which the model
follows; the entry is R851, with decision D76 (log 63) for VS other than 0 and log 44 for the debug registers. -/
def Obligations.UpperImmediateAndPcRelativeResults : Prop :=
  ∀ (rd rj : Reg) (si20 : BitVec 20) (i12 : BitVec 12),
  WritesGrAll (.lu12iW rd si20) rd (fun _ => wordOf (si20.toInt * 2 ^ 12)) ∧
  WritesGr64 (.lu32iD rd si20) rd (fun s => dwordOf (si20.toInt * 2 ^ 32 + s.uw rd)) ∧
  WritesGr64 (.lu52iD rd rj i12) rd (fun s => dwordOf (i12.toInt * 2 ^ 52 + (s.ud rj % 2 ^ 52 : Nat))) ∧
  WritesGrAll (.pcaddi rd si20) rd (fun s => pcRelative s ((s.pc.toNat : Int) + si20.toInt * 2 ^ 2)) ∧
  WritesGrAll (.pcaddu12i rd si20) rd (fun s => pcRelative s ((s.pc.toNat : Int) + si20.toInt * 2 ^ 12)) ∧
  WritesGr64 (.pcaddu18i rd si20) rd (fun s => pcRelative s ((s.pc.toNat : Int) + si20.toInt * 2 ^ 18)) ∧
  WritesGrAll (.pcalau12i rd si20) rd (fun s => pcRelative s
    (((s.pc.toNat : Int) + si20.toInt * 2 ^ 12) / 2 ^ 12 * 2 ^ 12))

/-- Results of SLT, SLTU, SLTI, SLTUI, MASKEQZ, MASKNEZ. In every state each of the six completes, writes 0 or 1 (or the
masked source) to GR[rd], nothing to r0, advances the pc and changes nothing else. SLTUI compares unsigned with the
sign-extended immediate. R414-R417, R493, R494. A register is compared as the integer its 64-bit container holds (in
LA32 the sign-extended value, log 2). -/
def Obligations.CompareAndMaskResults : Prop :=
  ∀ (rd rj rk : Reg) (i12 : BitVec 12),
  WritesGrAll (.slt rd rj rk) rd (fun s => if s.sd rj < s.sd rk then 1#64 else 0#64) ∧
  WritesGrAll (.sltu rd rj rk) rd (fun s => if s.ud rj < s.ud rk then 1#64 else 0#64) ∧
  WritesGrAll (.slti rd rj i12) rd (fun s => if s.sd rj < i12.toInt then 1#64 else 0#64) ∧
  WritesGrAll (.sltui rd rj i12) rd (fun s => if s.ud rj < (i12.toInt % 2 ^ 64).toNat then 1#64 else 0#64) ∧
  WritesGrAll (.maskeqz rd rj rk) rd (fun s => if s.ud rk = 0 then 0#64 else s.getGr rj) ∧
  WritesGrAll (.masknez rd rj rk) rd (fun s => if s.ud rk = 0 then s.getGr rj else 0#64)

/-- Results of AND, OR, NOR, XOR, ANDN, ORN, ANDI, ORI, XORI, bit by bit; NOP. In every state each of the nine
completes, writes to GR[rd] the value whose every bit is the stated function of the same bits of the sources (an
immediate counts as 0 above bit 11), nothing to r0, advances the pc and changes nothing else. ANDI r0, r0, 0 is NOP:
nothing but the pc changes. R422-R431. The immediate forms zero-extend: above bit 11 `i12.getLsbD i` is false. -/
def Obligations.LogicResults : Prop :=
  ∀ (rd rj rk : Reg) (i12 : BitVec 12),
  WritesGrSomeAll (.and rd rj rk) rd (fun s v => ∀ i < 64, v.getLsbD i = ((s.getGr rj).getLsbD i &&
    (s.getGr rk).getLsbD i)) ∧
  WritesGrSomeAll (.or rd rj rk) rd (fun s v => ∀ i < 64, v.getLsbD i = ((s.getGr rj).getLsbD i ||
    (s.getGr rk).getLsbD i)) ∧
  WritesGrSomeAll (.nor rd rj rk) rd (fun s v => ∀ i < 64, v.getLsbD i = !((s.getGr rj).getLsbD i ||
    (s.getGr rk).getLsbD i)) ∧
  WritesGrSomeAll (.xor rd rj rk) rd (fun s v => ∀ i < 64, v.getLsbD i = ((s.getGr rj).getLsbD i ^^
    (s.getGr rk).getLsbD i)) ∧
  WritesGrSomeAll (.andn rd rj rk) rd (fun s v => ∀ i < 64, v.getLsbD i =
    ((s.getGr rj).getLsbD i && !(s.getGr rk).getLsbD i)) ∧
  WritesGrSomeAll (.orn rd rj rk) rd (fun s v => ∀ i < 64, v.getLsbD i =
    ((s.getGr rj).getLsbD i || !(s.getGr rk).getLsbD i)) ∧
  WritesGrSomeAll (.andi rd rj i12) rd (fun s v => ∀ i < 64, v.getLsbD i =
    ((s.getGr rj).getLsbD i && i12.getLsbD i)) ∧
  WritesGrSomeAll (.ori rd rj i12) rd (fun s v => ∀ i < 64, v.getLsbD i = ((s.getGr rj).getLsbD i || i12.getLsbD i)) ∧
  WritesGrSomeAll (.xori rd rj i12) rd (fun s v => ∀ i < 64, v.getLsbD i =
    ((s.getGr rj).getLsbD i ^^ i12.getLsbD i)) ∧
  GoesTo (.andi 0#5 0#5 0#12) Always (fun s => s.pc + 4)

/-- Results of the eight multiply instructions as halves of exact products; an LA64-only one takes INE in LA32 (decision
D44, log 45). In every state of an instance that has it, each multiply completes, writes the low or high half of the
exact signed or unsigned product to GR[rd] (W results sign-extended), nothing to r0, advances the pc and changes
nothing else; an LA64-only form raises INE in LA32. R432-R439. The high half of a signed product is its floor
quotient by 2^32 or 2^64. That an LA64-only instruction takes INE in LA32 is R337(b), decision D44 (log 45): the
spec's own decision, which the model follows; the entry is R851, with decision D76 (log 63) for VS other than 0 and
log 44 for the debug registers. -/
def Obligations.MultiplyResults : Prop :=
  ∀ (rd rj rk : Reg),
  WritesGrAll (.mulW rd rj rk) rd (fun s => wordOf (s.sw rj * s.sw rk)) ∧
  WritesGrAll (.mulhW rd rj rk) rd (fun s => wordOf (s.sw rj * s.sw rk / 2 ^ 32)) ∧
  WritesGrAll (.mulhWu rd rj rk) rd (fun s => wordOf ((s.uw rj * s.uw rk / 2 ^ 32 : Nat) : Int)) ∧
  WritesGr64 (.mulD rd rj rk) rd (fun s => dwordOf (s.sd rj * s.sd rk)) ∧
  WritesGr64 (.mulhD rd rj rk) rd (fun s => dwordOf (s.sd rj * s.sd rk / 2 ^ 64)) ∧
  WritesGr64 (.mulhDu rd rj rk) rd (fun s => BitVec.ofNat 64 (s.ud rj * s.ud rk / 2 ^ 64)) ∧
  WritesGr64 (.mulwDW rd rj rk) rd (fun s => dwordOf (s.sw rj * s.sw rk)) ∧
  WritesGr64 (.mulwDWu rd rj rk) rd (fun s => BitVec.ofNat 64 (s.uw rj * s.uw rk))

/-- Quotients and remainders truncate toward zero; a zero divisor gives some value and no exception. Where the divisor
(its low 32 bits for a W form) is not 0, each of the eight writes the quotient truncated toward zero or the
remainder with the sign of the dividend, cut to its width (so the most negative value divided by -1 gives itself,
remainder 0: decision D45, log 30), sign-extended for the W forms. Where it is 0, each completes with some value in
GR[rd] (free: log 10). Nothing else changes. R440-R448. The signed overflow is the model's choice by decision D45
(log 30); the result for a zero divisor is a free value (log 10), of which nothing is said. -/
def Obligations.DivideResults : Prop :=
  ∀ (rd rj rk : Reg),
  WritesGr (.divW rd rj rk) (fun s => s.uw rk ≠ 0) rd (fun s => wordOf ((s.sw rj).tdiv (s.sw rk))) ∧
  WritesGr (.modW rd rj rk) (fun s => s.uw rk ≠ 0) rd (fun s => wordOf ((s.sw rj).tmod (s.sw rk))) ∧
  WritesGr (.divWu rd rj rk) (fun s => s.uw rk ≠ 0) rd (fun s => wordOf ((s.uw rj / s.uw rk : Nat) : Int)) ∧
  WritesGr (.modWu rd rj rk) (fun s => s.uw rk ≠ 0) rd (fun s => wordOf ((s.uw rj % s.uw rk : Nat) : Int)) ∧
  WritesGr (.divD rd rj rk) (fun s => s.cfg.la64 = true ∧
    s.ud rk ≠ 0) rd (fun s => dwordOf ((s.sd rj).tdiv (s.sd rk))) ∧
  WritesGr (.modD rd rj rk) (fun s => s.cfg.la64 = true ∧
    s.ud rk ≠ 0) rd (fun s => dwordOf ((s.sd rj).tmod (s.sd rk))) ∧
  WritesGr (.divDu rd rj rk) (fun s => s.cfg.la64 = true ∧
    s.ud rk ≠ 0) rd (fun s => BitVec.ofNat 64 (s.ud rj / s.ud rk)) ∧
  WritesGr (.modDu rd rj rk) (fun s => s.cfg.la64 = true ∧
    s.ud rk ≠ 0) rd (fun s => BitVec.ofNat 64 (s.ud rj % s.ud rk)) ∧
  WritesGrSome (.divW rd rj rk) (fun s => s.uw rk = 0) rd (fun _ _ => True) ∧
  WritesGrSome (.modW rd rj rk) (fun s => s.uw rk = 0) rd (fun _ _ => True) ∧
  WritesGrSome (.divWu rd rj rk) (fun s => s.uw rk = 0) rd (fun _ _ => True) ∧
  WritesGrSome (.modWu rd rj rk) (fun s => s.uw rk = 0) rd (fun _ _ => True) ∧
  WritesGrSome (.divD rd rj rk) (fun s => s.cfg.la64 = true ∧ s.ud rk = 0) rd (fun _ _ => True) ∧
  WritesGrSome (.modD rd rj rk) (fun s => s.cfg.la64 = true ∧ s.ud rk = 0) rd (fun _ _ => True) ∧
  WritesGrSome (.divDu rd rj rk) (fun s => s.cfg.la64 = true ∧ s.ud rk = 0) rd (fun _ _ => True) ∧
  WritesGrSome (.modDu rd rj rk) (fun s => s.cfg.la64 = true ∧ s.ud rk = 0) rd (fun _ _ => True)

/-- Results of the eight W shifts and rotates. In every state each of SLL, SRL, SRA, ROTR and their immediate forms on
words completes and writes to GR[rd] the low word of rj times 2^n, divided by 2^n (unsigned or signed, rounded down)
or rotated right by n, cut to 32 bits and sign-extended, n being GR[rk] mod 32 or ui5; nothing else changes but the
pc. R451-R458, with the helper functions of R450 as arithmetic on integers. -/
def Obligations.WordShiftResults : Prop :=
  ∀ (rd rj rk : Reg) (ui5 : BitVec 5),
  WritesGrAll (.sllW rd rj rk) rd (fun s => wordOf ((s.uw rj * 2 ^ (s.ud rk % 32) : Nat) : Int)) ∧
  WritesGrAll (.srlW rd rj rk) rd (fun s => wordOf ((s.uw rj / 2 ^ (s.ud rk % 32) : Nat) : Int)) ∧
  WritesGrAll (.sraW rd rj rk) rd (fun s => wordOf (s.sw rj / 2 ^ (s.ud rk % 32))) ∧
  WritesGrAll (.rotrW rd rj rk) rd (fun s => wordOf (rotated 32 (s.uw rj) (s.ud rk % 32) : Nat)) ∧
  WritesGrAll (.slliW rd rj ui5) rd (fun s => wordOf ((s.uw rj * 2 ^ ui5.toNat : Nat) : Int)) ∧
  WritesGrAll (.srliW rd rj ui5) rd (fun s => wordOf ((s.uw rj / 2 ^ ui5.toNat : Nat) : Int)) ∧
  WritesGrAll (.sraiW rd rj ui5) rd (fun s => wordOf (s.sw rj / 2 ^ ui5.toNat)) ∧
  WritesGrAll (.rotriW rd rj ui5) rd (fun s => wordOf (rotated 32 (s.uw rj) ui5.toNat : Nat))

/-- Results of the eight D shifts and rotates; an LA64-only one takes INE in LA32 (decision D44, log 45). In every LA64
state each of SLL, SRL, SRA, ROTR and their immediate forms on doublewords completes and writes to GR[rd] the value
of rj times 2^n, divided by 2^n (unsigned or signed, rounded down) or rotated right by n, cut to 64 bits, n being
GR[rk] mod 64 or ui6; nothing else changes but the pc. In LA32 each raises INE. R459-R466, with the helper functions
of R450 as arithmetic on integers. That an LA64-only instruction takes INE in LA32 is R337(b), decision D44 (log
45): the spec's own decision, which the model follows; the entry is R851, with decision D76 (log 63) for VS other
than 0 and log 44 for the debug registers. -/
def Obligations.DoublewordShiftResults : Prop :=
  ∀ (rd rj rk : Reg) (ui6 : BitVec 6),
  WritesGr64 (.sllD rd rj rk) rd (fun s => BitVec.ofNat 64 (s.ud rj * 2 ^ (s.ud rk % 64))) ∧
  WritesGr64 (.srlD rd rj rk) rd (fun s => BitVec.ofNat 64 (s.ud rj / 2 ^ (s.ud rk % 64))) ∧
  WritesGr64 (.sraD rd rj rk) rd (fun s => dwordOf (s.sd rj / 2 ^ (s.ud rk % 64))) ∧
  WritesGr64 (.rotrD rd rj rk) rd (fun s => BitVec.ofNat 64 (rotated 64 (s.ud rj) (s.ud rk % 64))) ∧
  WritesGr64 (.slliD rd rj ui6) rd (fun s => BitVec.ofNat 64 (s.ud rj * 2 ^ ui6.toNat)) ∧
  WritesGr64 (.srliD rd rj ui6) rd (fun s => BitVec.ofNat 64 (s.ud rj / 2 ^ ui6.toNat)) ∧
  WritesGr64 (.sraiD rd rj ui6) rd (fun s => dwordOf (s.sd rj / 2 ^ ui6.toNat)) ∧
  WritesGr64 (.rotriD rd rj ui6) rd (fun s => BitVec.ofNat 64 (rotated 64 (s.ud rj) ui6.toNat))

/-- EXT.W.B, EXT.W.H sign-extend; CLO, CLZ, CTO, CTZ count the run of equal bits; an LA64-only one takes INE in LA32
(decision D44, log 45). In every state of an instance that has it, each of the ten completes and writes to GR[rd]
the sign-extended byte or halfword, or the length k of the run of 1s or 0s from the top or the bottom bit of the
operand: the first k bits have that value and, if k is less than the width, the next one has not. Nothing else
changes but the pc; a D form raises INE in LA32. R467-R476; `IsRun` says what a count is without computing it. That
an LA64-only instruction takes INE in LA32 is R337(b), decision D44 (log 45): the spec's own decision, which the
model follows; the entry is R851, with decision D76 (log 63) for VS other than 0 and log 44 for the debug registers. -/
def Obligations.ExtendAndCountResults : Prop :=
  ∀ (rd rj : Reg),
  WritesGrAll (.extWB rd rj) rd (fun s => BitVec.ofInt 64 ((s.ud rj : Int).bmod (2 ^ 8))) ∧
  WritesGrAll (.extWH rd rj) rd (fun s => BitVec.ofInt 64 ((s.ud rj : Int).bmod (2 ^ 16))) ∧
  WritesGrSomeAll (.cloW rd rj) rd (fun s v => IsRun 32 true true (s.getGr rj) v) ∧
  WritesGrSomeAll (.clzW rd rj) rd (fun s v => IsRun 32 false true (s.getGr rj) v) ∧
  WritesGrSomeAll (.ctoW rd rj) rd (fun s v => IsRun 32 true false (s.getGr rj) v) ∧
  WritesGrSomeAll (.ctzW rd rj) rd (fun s v => IsRun 32 false false (s.getGr rj) v) ∧
  WritesGrSome64 (.cloD rd rj) rd (fun s v => IsRun 64 true true (s.getGr rj) v) ∧
  WritesGrSome64 (.clzD rd rj) rd (fun s v => IsRun 64 false true (s.getGr rj) v) ∧
  WritesGrSome64 (.ctoD rd rj) rd (fun s v => IsRun 64 true false (s.getGr rj) v) ∧
  WritesGrSome64 (.ctzD rd rj) rd (fun s v => IsRun 64 false false (s.getGr rj) v)

/-- Where every bit of BYTEPICK, REVB, REVH and BITREV comes from; an LA64-only one takes INE in LA32 (decision D44, log
45). In every state of an instance that has it, each of the twelve completes and writes to GR[rd] the value whose
bit i is the source bit the rule names (the low 32 bits so, and bit 31 repeated above, for the forms that sign-
extend a word); nothing else changes but the pc; a D form raises INE in LA32. R477-R488, each as the map from result
bit to source bit. That an LA64-only instruction takes INE in LA32 is R337(b), decision D44 (log 45): the spec's own
decision, which the model follows; the entry is R851, with decision D76 (log 63) for VS other than 0 and log 44 for
the debug registers. -/
def Obligations.ReorderResults : Prop :=
  ∀ (rd rj rk : Reg) (sa2 : BitVec 2) (sa3 : BitVec 3),
  WritesGrSomeAll (.bytepickW rd rj rk sa2) rd (fun s v => BitsFrom 32 v (fun i =>
    (s.getGrW rk ++ s.getGrW rj).getLsbD (i + 32 - 8 * sa2.toNat))) ∧
  WritesGrSome64 (.bytepickD rd rj rk sa3) rd (fun s v => BitsFrom 64 v (fun i => (s.getGr rk ++ s.getGr rj).getLsbD
    (i + 64 - 8 * sa3.toNat))) ∧
  WritesGrSomeAll (.revb2h rd rj) rd (fun s v => BitsFrom 32 v (fun i => (s.getGr rj).getLsbD (16 * (i / 16) +
    (i % 16 + 8) % 16))) ∧
  WritesGrSome64 (.revb4h rd rj) rd (fun s v => BitsFrom 64 v (fun i => (s.getGr rj).getLsbD (16 * (i / 16) +
    (i % 16 + 8) % 16))) ∧
  WritesGrSome64 (.revb2w rd rj) rd (fun s v => BitsFrom 64 v (fun i => (s.getGr rj).getLsbD (32 *
    (i / 32) + 24 - 8 * (i % 32 / 8) + i % 8))) ∧
  WritesGrSome64 (.revbD rd rj) rd (fun s v => BitsFrom 64 v (fun i => (s.getGr rj).getLsbD (56 - 8 *
    (i / 8) + i % 8))) ∧
  WritesGrSome64 (.revh2w rd rj) rd (fun s v => BitsFrom 64 v (fun i => (s.getGr rj).getLsbD (32 * (i / 32) +
    (i % 32 + 16) % 32))) ∧
  WritesGrSome64 (.revhD rd rj) rd (fun s v => BitsFrom 64 v (fun i => (s.getGr rj).getLsbD (48 - 16 *
    (i / 16) + i % 16))) ∧
  WritesGrSomeAll (.bitrev4b rd rj) rd (fun s v => BitsFrom 32 v (fun i => (s.getGr rj).getLsbD (8 *
    (i / 8) + 7 - i % 8))) ∧
  WritesGrSome64 (.bitrev8b rd rj) rd (fun s v => BitsFrom 64 v (fun i => (s.getGr rj).getLsbD (8 *
    (i / 8) + 7 - i % 8))) ∧
  WritesGrSomeAll (.bitrevW rd rj) rd (fun s v => BitsFrom 32 v (fun i => (s.getGr rj).getLsbD (31 - i))) ∧
  WritesGrSome64 (.bitrevD rd rj) rd (fun s v => BitsFrom 64 v (fun i => (s.getGr rj).getLsbD (63 - i)))

/-- BSTRINS and BSTRPICK bit by bit; some value where msb < lsb. Where msb >= lsb, BSTRINS replaces bits msb..lsb of rd
by the low bits of rj and BSTRPICK delivers bits msb..lsb of rj in place 0 with zeros above (the W forms then sign-
extend from bit 31). Where msb < lsb each completes with some value in GR[rd] (free: decision D46, log 15). Nothing
else changes but the pc. R489-R492. For msb < lsb the result is a free value (D46, U22; log 15), of which nothing is
said. -/
def Obligations.BitStringResults : Prop :=
  ∀ (rd rj : Reg) (lsbw : BitVec 5) (msbw : BitVec 5) (lsbd : BitVec 6) (msbd : BitVec 6),
  WritesGrSome (.bstrinsW rd rj lsbw msbw) (fun _ => lsbw.toNat ≤ msbw.toNat) rd
    (fun s v => BitsFrom 32 v fun i => if lsbw.toNat ≤ i ∧
      i ≤ msbw.toNat then (s.getGr rj).getLsbD (i - lsbw.toNat) else (s.getGr rd).getLsbD i) ∧
  WritesGrSome (.bstrinsW rd rj lsbw msbw) (fun _ => msbw.toNat < lsbw.toNat) rd (fun _ _ => True) ∧
  WritesGrSome (.bstrinsD rd rj lsbd msbd) (fun s => s.cfg.la64 = true ∧ lsbd.toNat ≤ msbd.toNat) rd
    (fun s v => BitsFrom 64 v fun i => if lsbd.toNat ≤ i ∧
      i ≤ msbd.toNat then (s.getGr rj).getLsbD (i - lsbd.toNat) else (s.getGr rd).getLsbD i) ∧
  WritesGrSome (.bstrinsD rd rj lsbd msbd) (fun s => s.cfg.la64 = true ∧
    msbd.toNat < lsbd.toNat) rd (fun _ _ => True) ∧
  WritesGrSome (.bstrpickW rd rj lsbw msbw) (fun _ => lsbw.toNat ≤ msbw.toNat) rd
    (fun s v => BitsFrom 32 v fun i => decide (i ≤ msbw.toNat - lsbw.toNat) && (s.getGr rj).getLsbD
      (i + lsbw.toNat)) ∧
  WritesGrSome (.bstrpickW rd rj lsbw msbw) (fun _ => msbw.toNat < lsbw.toNat) rd (fun _ _ => True) ∧
  WritesGrSome (.bstrpickD rd rj lsbd msbd) (fun s => s.cfg.la64 = true ∧ lsbd.toNat ≤ msbd.toNat) rd
    (fun s v => BitsFrom 64 v fun i => decide (i ≤ msbd.toNat - lsbd.toNat) && (s.getGr rj).getLsbD
      (i + lsbd.toNat)) ∧
  WritesGrSome (.bstrpickD rd rj lsbd msbd) (fun s => s.cfg.la64 = true ∧
    msbd.toNat < lsbd.toNat) rd (fun _ _ => True)

/-- The eight conditional branches on general registers. In every state each of BEQ, BNE, BLT, BGE, BLTU, BGEU, BEQZ,
BNEZ completes; the pc becomes pc plus four times the signed offset where the comparison of the whole registers
holds, pc plus 4 where it does not, modulo 2^GRLEN; nothing else changes. R501-R508. No delay slot, no flag, no
exception at the branch. -/
def Obligations.ConditionalBranchesGoWhereTheConditionSays : Prop :=
  ∀ (rd rj : Reg) (i16 : BitVec 16) (offs : BitVec 21),
  GoesTo (.beq rd rj i16) Always (fun s => if s.ud rj = s.ud rd then s.pc + BitVec.ofInt 64
    (i16.toInt * 4) else s.pc + 4) ∧
  GoesTo (.bne rd rj i16) Always (fun s => if s.ud rj ≠ s.ud rd then s.pc + BitVec.ofInt 64
    (i16.toInt * 4) else s.pc + 4) ∧
  GoesTo (.blt rd rj i16) Always (fun s => if s.sd rj < s.sd rd then s.pc + BitVec.ofInt 64
    (i16.toInt * 4) else s.pc + 4) ∧
  GoesTo (.bge rd rj i16) Always (fun s => if s.sd rd ≤ s.sd rj then s.pc + BitVec.ofInt 64
    (i16.toInt * 4) else s.pc + 4) ∧
  GoesTo (.bltu rd rj i16) Always (fun s => if s.ud rj < s.ud rd then s.pc + BitVec.ofInt 64
    (i16.toInt * 4) else s.pc + 4) ∧
  GoesTo (.bgeu rd rj i16) Always (fun s => if s.ud rd ≤ s.ud rj then s.pc + BitVec.ofInt 64
    (i16.toInt * 4) else s.pc + 4) ∧
  GoesTo (.beqz rj offs) Always (fun s => if s.ud rj = 0 then s.pc + BitVec.ofInt 64 (offs.toInt * 4) else s.pc + 4) ∧
  GoesTo (.bnez rj offs) Always (fun s => if s.ud rj ≠ 0 then s.pc + BitVec.ofInt 64 (offs.toInt * 4) else s.pc + 4)

/-- B, BL and JIRL: target, link register, and nothing else. In every state B goes to pc plus four times its offset and
changes nothing else. BL also writes pc + 4 to r1, JIRL to rd (r0 stays 0) and goes to the old GR[rj] plus four
times its offset, also with rd = rj (decision D47). Where va32 holds the link is the low 32 bits sign-extended.
R509-R511; that JIRL reads rj before it writes rd is the spec's decision D47. -/
def Obligations.JumpsLinkAndGo : Prop :=
  ∀ (rd rj : Reg) (i16 : BitVec 16) (offs : BitVec 26),
  GoesTo (.b offs) Always (fun s => s.pc + BitVec.ofInt 64 (offs.toInt * 4)) ∧
  (∀ s, ∃ t, exec (.bl offs) s = .next t ∧ GrIs s t 1#5 (pcRelative s ((s.pc.toNat : Int) + 4)) ∧
    t.pc = s.cfg.wrap (s.pc + BitVec.ofInt 64 (offs.toInt * 4)) ∧ OnlyGr 1#5 s t) ∧
  (∀ s, ∃ t, exec (.jirl rd rj i16) s = .next t ∧ GrIs s t rd (pcRelative s ((s.pc.toNat : Int) + 4)) ∧
    t.pc = s.cfg.wrap (s.getGr rj + BitVec.ofInt 64 (i16.toInt * 4)) ∧ OnlyGr rd s t)

/-- The sixteen integer loads deliver the little-endian number at their address, extended. Where the access (rj plus the
sign-extended immediate, or rj plus rk, of the form's size) passes every check and touches the physical bytes as,
the load completes: GR[rd] receives the little-endian number those bytes hold, sign-extended (zero-extended for the
U forms), r0 stays 0, the pc advances, and no other register, flag, CSR or byte of memory changes but what the
watchpoint test did to MWPS. R520-R527, R532-R538, R543, R544. `Reaches` is the outcome of the checks of R250 on the
state and the address alone; when they pass is the subject of the statements on direct mode, mapped mode, alignment,
bounds and watchpoints. The little-endian order of the bytes is decision D2 (log 22). A byte with nothing behind it
reads as a free value (U14; log 18). -/
def Obligations.LoadsDeliverTheBytesTheyReach : Prop :=
  ∀ (rd rj rk : Reg) (i12 : BitVec 12) (i14 : BitVec 14),
  LoadsGr (.ldB rd rj i12) Always (fun s => s.ordinary .load (s.getGr rj + BitVec.ofInt 64 i12.toInt) 1) rd
    (signedBytes 1) ∧
  LoadsGr (.ldH rd rj i12) Always (fun s => s.ordinary .load (s.getGr rj + BitVec.ofInt 64 i12.toInt) 2) rd
    (signedBytes 2) ∧
  LoadsGr (.ldW rd rj i12) Always (fun s => s.ordinary .load (s.getGr rj + BitVec.ofInt 64 i12.toInt) 4) rd
    (signedBytes 4) ∧
  LoadsGr (.ldD rd rj i12) InLa64 (fun s => s.ordinary .load (s.getGr rj + BitVec.ofInt 64 i12.toInt) 8) rd
    (signedBytes 8) ∧
  LoadsGr (.ldBu rd rj i12) Always (fun s => s.ordinary .load (s.getGr rj + BitVec.ofInt 64 i12.toInt) 1) rd
    (BitVec.ofNat 64) ∧
  LoadsGr (.ldHu rd rj i12) Always (fun s => s.ordinary .load (s.getGr rj + BitVec.ofInt 64 i12.toInt) 2) rd
    (BitVec.ofNat 64) ∧
  LoadsGr (.ldWu rd rj i12) InLa64 (fun s => s.ordinary .load (s.getGr rj + BitVec.ofInt 64 i12.toInt) 4) rd
    (BitVec.ofNat 64) ∧
  LoadsGr (.ldxB rd rj rk) InLa64 (fun s => s.ordinary .load (s.getGr rj + s.getGr rk) 1) rd (signedBytes 1) ∧
  LoadsGr (.ldxH rd rj rk) InLa64 (fun s => s.ordinary .load (s.getGr rj + s.getGr rk) 2) rd (signedBytes 2) ∧
  LoadsGr (.ldxW rd rj rk) InLa64 (fun s => s.ordinary .load (s.getGr rj + s.getGr rk) 4) rd (signedBytes 4) ∧
  LoadsGr (.ldxD rd rj rk) InLa64 (fun s => s.ordinary .load (s.getGr rj + s.getGr rk) 8) rd (signedBytes 8) ∧
  LoadsGr (.ldxBu rd rj rk) InLa64 (fun s => s.ordinary .load (s.getGr rj + s.getGr rk) 1) rd (BitVec.ofNat 64) ∧
  LoadsGr (.ldxHu rd rj rk) InLa64 (fun s => s.ordinary .load (s.getGr rj + s.getGr rk) 2) rd (BitVec.ofNat 64) ∧
  LoadsGr (.ldxWu rd rj rk) InLa64 (fun s => s.ordinary .load (s.getGr rj + s.getGr rk) 4) rd (BitVec.ofNat 64) ∧
  LoadsGr (.ldptrW rd rj i14) InLa64 (fun s => s.ordinary .load (s.getGr rj + BitVec.ofInt 64 (i14.toInt * 4)) 4) rd
    (signedBytes 4) ∧
  LoadsGr (.ldptrD rd rj i14) InLa64 (fun s => s.ordinary .load (s.getGr rj + BitVec.ofInt 64 (i14.toInt * 4)) 8) rd
    (signedBytes 8)

/-- The ten integer stores write their bytes at their address and nothing else. Where memory is in canonical form and
the access passes every check and touches the physical bytes as, the store completes: as[k] holds byte k of GR[rd]
(all addresses distinct), every byte of memory outside as, every register, flag and CSR is as before (MWPS as the
watchpoint test left it), and the pc advances. R528-R531, R539-R542, R545, R546. `MemOk` is the first part of the
invariant that every step keeps. The little-endian order of the bytes is decision D2 (log 22). A store to a byte
with nothing behind it is dropped (U14; log 18). -/
def Obligations.StoresPutTheirBytesAndNothingElse : Prop :=
  ∀ (rd rj rk : Reg) (i12 : BitVec 12) (i14 : BitVec 14),
  StoresMem (.stB rd rj i12) Always (fun s => s.ordinary .store (s.getGr rj + BitVec.ofInt 64 i12.toInt) 1)
    (fun s => s.getGr rd) ∧
  StoresMem (.stH rd rj i12) Always (fun s => s.ordinary .store (s.getGr rj + BitVec.ofInt 64 i12.toInt) 2)
    (fun s => s.getGr rd) ∧
  StoresMem (.stW rd rj i12) Always (fun s => s.ordinary .store (s.getGr rj + BitVec.ofInt 64 i12.toInt) 4)
    (fun s => s.getGr rd) ∧
  StoresMem (.stD rd rj i12) InLa64 (fun s => s.ordinary .store (s.getGr rj + BitVec.ofInt 64 i12.toInt) 8)
    (fun s => s.getGr rd) ∧
  StoresMem (.stxB rd rj rk) InLa64 (fun s => s.ordinary .store (s.getGr rj + s.getGr rk) 1) (fun s => s.getGr rd) ∧
  StoresMem (.stxH rd rj rk) InLa64 (fun s => s.ordinary .store (s.getGr rj + s.getGr rk) 2) (fun s => s.getGr rd) ∧
  StoresMem (.stxW rd rj rk) InLa64 (fun s => s.ordinary .store (s.getGr rj + s.getGr rk) 4) (fun s => s.getGr rd) ∧
  StoresMem (.stxD rd rj rk) InLa64 (fun s => s.ordinary .store (s.getGr rj + s.getGr rk) 8) (fun s => s.getGr rd) ∧
  StoresMem (.stptrW rd rj i14) InLa64 (fun s => s.ordinary .store (s.getGr rj + BitVec.ofInt 64 (i14.toInt * 4)) 4)
    (fun s => s.getGr rd) ∧
  StoresMem (.stptrD rd rj i14) InLa64 (fun s => s.ordinary .store (s.getGr rj + BitVec.ofInt 64 (i14.toInt * 4)) 8)
    (fun s => s.getGr rd)

/-- LDGT, LDLE, STGT, STLE access GR[rj] when the bound holds. On an LA64 instance with the default signed comparison
(parameter of decision D48), where GR[rj] > GR[rk] (GT forms) or GR[rj] <= GR[rk] (LE forms) and the naturally
aligned access at GR[rj] passes every check, each load delivers the sign-extended number to GR[rd], each store
writes the bytes of GR[rd], and nothing else changes but the pc and MWPS. R551-R566. That the comparison is signed
is decision D48 (log 31). The little-endian order of the bytes is decision D2 (log 22). -/
def Obligations.BoundCheckedAccessesThatPass : Prop :=
  ∀ (rd rj rk : Reg),
  LoadsGr (.ldgtB rd rj rk) (fun s => s.cfg.la64 = true ∧ s.cfg.boundCmpSigned = true ∧ s.sd rk < s.sd rj)
    (fun s => s.aligned .load (s.getGr rj) 1) rd (signedBytes 1) ∧
  LoadsGr (.ldgtH rd rj rk) (fun s => s.cfg.la64 = true ∧ s.cfg.boundCmpSigned = true ∧ s.sd rk < s.sd rj)
    (fun s => s.aligned .load (s.getGr rj) 2) rd (signedBytes 2) ∧
  LoadsGr (.ldgtW rd rj rk) (fun s => s.cfg.la64 = true ∧ s.cfg.boundCmpSigned = true ∧ s.sd rk < s.sd rj)
    (fun s => s.aligned .load (s.getGr rj) 4) rd (signedBytes 4) ∧
  LoadsGr (.ldgtD rd rj rk) (fun s => s.cfg.la64 = true ∧ s.cfg.boundCmpSigned = true ∧ s.sd rk < s.sd rj)
    (fun s => s.aligned .load (s.getGr rj) 8) rd (signedBytes 8) ∧
  LoadsGr (.ldleB rd rj rk) (fun s => s.cfg.la64 = true ∧ s.cfg.boundCmpSigned = true ∧ s.sd rj ≤ s.sd rk)
    (fun s => s.aligned .load (s.getGr rj) 1) rd (signedBytes 1) ∧
  LoadsGr (.ldleH rd rj rk) (fun s => s.cfg.la64 = true ∧ s.cfg.boundCmpSigned = true ∧ s.sd rj ≤ s.sd rk)
    (fun s => s.aligned .load (s.getGr rj) 2) rd (signedBytes 2) ∧
  LoadsGr (.ldleW rd rj rk) (fun s => s.cfg.la64 = true ∧ s.cfg.boundCmpSigned = true ∧ s.sd rj ≤ s.sd rk)
    (fun s => s.aligned .load (s.getGr rj) 4) rd (signedBytes 4) ∧
  LoadsGr (.ldleD rd rj rk) (fun s => s.cfg.la64 = true ∧ s.cfg.boundCmpSigned = true ∧ s.sd rj ≤ s.sd rk)
    (fun s => s.aligned .load (s.getGr rj) 8) rd (signedBytes 8) ∧
  StoresMem (.stgtB rd rj rk) (fun s => s.cfg.la64 = true ∧ s.cfg.boundCmpSigned = true ∧ s.sd rk < s.sd rj)
    (fun s => s.aligned .store (s.getGr rj) 1) (fun s => s.getGr rd) ∧
  StoresMem (.stgtH rd rj rk) (fun s => s.cfg.la64 = true ∧ s.cfg.boundCmpSigned = true ∧ s.sd rk < s.sd rj)
    (fun s => s.aligned .store (s.getGr rj) 2) (fun s => s.getGr rd) ∧
  StoresMem (.stgtW rd rj rk) (fun s => s.cfg.la64 = true ∧ s.cfg.boundCmpSigned = true ∧ s.sd rk < s.sd rj)
    (fun s => s.aligned .store (s.getGr rj) 4) (fun s => s.getGr rd) ∧
  StoresMem (.stgtD rd rj rk) (fun s => s.cfg.la64 = true ∧ s.cfg.boundCmpSigned = true ∧ s.sd rk < s.sd rj)
    (fun s => s.aligned .store (s.getGr rj) 8) (fun s => s.getGr rd) ∧
  StoresMem (.stleB rd rj rk) (fun s => s.cfg.la64 = true ∧ s.cfg.boundCmpSigned = true ∧ s.sd rj ≤ s.sd rk)
    (fun s => s.aligned .store (s.getGr rj) 1) (fun s => s.getGr rd) ∧
  StoresMem (.stleH rd rj rk) (fun s => s.cfg.la64 = true ∧ s.cfg.boundCmpSigned = true ∧ s.sd rj ≤ s.sd rk)
    (fun s => s.aligned .store (s.getGr rj) 2) (fun s => s.getGr rd) ∧
  StoresMem (.stleW rd rj rk) (fun s => s.cfg.la64 = true ∧ s.cfg.boundCmpSigned = true ∧ s.sd rj ≤ s.sd rk)
    (fun s => s.aligned .store (s.getGr rj) 4) (fun s => s.getGr rd) ∧
  StoresMem (.stleD rd rj rk) (fun s => s.cfg.la64 = true ∧ s.cfg.boundCmpSigned = true ∧ s.sd rj ≤ s.sd rk)
    (fun s => s.aligned .store (s.getGr rj) 8) (fun s => s.getGr rd)

/-- LDGT, LDLE, STGT, STLE and ASRT take BCE when the bound fails; ASRT does nothing when it holds. On an LA64 instance
with the default signed comparison, where no watchpoint exception is raised, GR[rj] is aligned and legal and the
bound fails, each of the sixteen accesses takes the general exception 0xA with BADV = the address: no access is
made, whatever the page would have said. In LA64 ASRTLE.D with rj > rk and ASRTGT.D with rj <= rk take 0xA with BADV
= GR[rj]; where their bound holds they complete and change nothing but the pc. R550, R615, R616, R834, R840. The
signed comparison is decision D48, the BADV of ASRT D49 (log 31). The entry of an exception is R851 and R846: with
VS other than 0 by decision D76 (log 63), the debug registers log 44. -/
def Obligations.FailedBoundChecksTakeBce : Prop :=
  ∀ (rd rj rk : Reg),
  MemTraps (.ldgtB rd rj rk) (fun s => s.bounded .load (s.getGr rj) 1 (s.boundGt rj rk))
    (fun s => s.cfg.la64 = true ∧ s.cfg.boundCmpSigned = true ∧ s.sd rj ≤ s.sd rk ∧
      (s.watchMem (s.bounded .load (s.getGr rj) 1 (s.boundGt rj rk))).2 = false ∧
        (s.vaddr (s.getGr rj)).toNat % 1 = 0 ∧
      s.addressError .load (s.vaddr (s.getGr rj)) = false) 0xA#6 0#9 (fun s => s.vaddr (s.getGr rj)) ∧
  MemTraps (.ldgtH rd rj rk) (fun s => s.bounded .load (s.getGr rj) 2 (s.boundGt rj rk))
    (fun s => s.cfg.la64 = true ∧ s.cfg.boundCmpSigned = true ∧ s.sd rj ≤ s.sd rk ∧
      (s.watchMem (s.bounded .load (s.getGr rj) 2 (s.boundGt rj rk))).2 = false ∧
        (s.vaddr (s.getGr rj)).toNat % 2 = 0 ∧
      s.addressError .load (s.vaddr (s.getGr rj)) = false) 0xA#6 0#9 (fun s => s.vaddr (s.getGr rj)) ∧
  MemTraps (.ldgtW rd rj rk) (fun s => s.bounded .load (s.getGr rj) 4 (s.boundGt rj rk))
    (fun s => s.cfg.la64 = true ∧ s.cfg.boundCmpSigned = true ∧ s.sd rj ≤ s.sd rk ∧
      (s.watchMem (s.bounded .load (s.getGr rj) 4 (s.boundGt rj rk))).2 = false ∧
        (s.vaddr (s.getGr rj)).toNat % 4 = 0 ∧
      s.addressError .load (s.vaddr (s.getGr rj)) = false) 0xA#6 0#9 (fun s => s.vaddr (s.getGr rj)) ∧
  MemTraps (.ldgtD rd rj rk) (fun s => s.bounded .load (s.getGr rj) 8 (s.boundGt rj rk))
    (fun s => s.cfg.la64 = true ∧ s.cfg.boundCmpSigned = true ∧ s.sd rj ≤ s.sd rk ∧
      (s.watchMem (s.bounded .load (s.getGr rj) 8 (s.boundGt rj rk))).2 = false ∧
        (s.vaddr (s.getGr rj)).toNat % 8 = 0 ∧
      s.addressError .load (s.vaddr (s.getGr rj)) = false) 0xA#6 0#9 (fun s => s.vaddr (s.getGr rj)) ∧
  MemTraps (.ldleB rd rj rk) (fun s => s.bounded .load (s.getGr rj) 1 (s.boundLe rj rk))
    (fun s => s.cfg.la64 = true ∧ s.cfg.boundCmpSigned = true ∧ s.sd rk < s.sd rj ∧
      (s.watchMem (s.bounded .load (s.getGr rj) 1 (s.boundLe rj rk))).2 = false ∧
        (s.vaddr (s.getGr rj)).toNat % 1 = 0 ∧
      s.addressError .load (s.vaddr (s.getGr rj)) = false) 0xA#6 0#9 (fun s => s.vaddr (s.getGr rj)) ∧
  MemTraps (.ldleH rd rj rk) (fun s => s.bounded .load (s.getGr rj) 2 (s.boundLe rj rk))
    (fun s => s.cfg.la64 = true ∧ s.cfg.boundCmpSigned = true ∧ s.sd rk < s.sd rj ∧
      (s.watchMem (s.bounded .load (s.getGr rj) 2 (s.boundLe rj rk))).2 = false ∧
        (s.vaddr (s.getGr rj)).toNat % 2 = 0 ∧
      s.addressError .load (s.vaddr (s.getGr rj)) = false) 0xA#6 0#9 (fun s => s.vaddr (s.getGr rj)) ∧
  MemTraps (.ldleW rd rj rk) (fun s => s.bounded .load (s.getGr rj) 4 (s.boundLe rj rk))
    (fun s => s.cfg.la64 = true ∧ s.cfg.boundCmpSigned = true ∧ s.sd rk < s.sd rj ∧
      (s.watchMem (s.bounded .load (s.getGr rj) 4 (s.boundLe rj rk))).2 = false ∧
        (s.vaddr (s.getGr rj)).toNat % 4 = 0 ∧
      s.addressError .load (s.vaddr (s.getGr rj)) = false) 0xA#6 0#9 (fun s => s.vaddr (s.getGr rj)) ∧
  MemTraps (.ldleD rd rj rk) (fun s => s.bounded .load (s.getGr rj) 8 (s.boundLe rj rk))
    (fun s => s.cfg.la64 = true ∧ s.cfg.boundCmpSigned = true ∧ s.sd rk < s.sd rj ∧
      (s.watchMem (s.bounded .load (s.getGr rj) 8 (s.boundLe rj rk))).2 = false ∧
        (s.vaddr (s.getGr rj)).toNat % 8 = 0 ∧
      s.addressError .load (s.vaddr (s.getGr rj)) = false) 0xA#6 0#9 (fun s => s.vaddr (s.getGr rj)) ∧
  MemTraps (.stgtB rd rj rk) (fun s => s.bounded .store (s.getGr rj) 1 (s.boundGt rj rk))
    (fun s => s.cfg.la64 = true ∧ s.cfg.boundCmpSigned = true ∧ s.sd rj ≤ s.sd rk ∧
      (s.watchMem (s.bounded .store (s.getGr rj) 1 (s.boundGt rj rk))).2 = false ∧
        (s.vaddr (s.getGr rj)).toNat % 1 = 0 ∧
      s.addressError .store (s.vaddr (s.getGr rj)) = false) 0xA#6 0#9 (fun s => s.vaddr (s.getGr rj)) ∧
  MemTraps (.stgtH rd rj rk) (fun s => s.bounded .store (s.getGr rj) 2 (s.boundGt rj rk))
    (fun s => s.cfg.la64 = true ∧ s.cfg.boundCmpSigned = true ∧ s.sd rj ≤ s.sd rk ∧
      (s.watchMem (s.bounded .store (s.getGr rj) 2 (s.boundGt rj rk))).2 = false ∧
        (s.vaddr (s.getGr rj)).toNat % 2 = 0 ∧
      s.addressError .store (s.vaddr (s.getGr rj)) = false) 0xA#6 0#9 (fun s => s.vaddr (s.getGr rj)) ∧
  MemTraps (.stgtW rd rj rk) (fun s => s.bounded .store (s.getGr rj) 4 (s.boundGt rj rk))
    (fun s => s.cfg.la64 = true ∧ s.cfg.boundCmpSigned = true ∧ s.sd rj ≤ s.sd rk ∧
      (s.watchMem (s.bounded .store (s.getGr rj) 4 (s.boundGt rj rk))).2 = false ∧
        (s.vaddr (s.getGr rj)).toNat % 4 = 0 ∧
      s.addressError .store (s.vaddr (s.getGr rj)) = false) 0xA#6 0#9 (fun s => s.vaddr (s.getGr rj)) ∧
  MemTraps (.stgtD rd rj rk) (fun s => s.bounded .store (s.getGr rj) 8 (s.boundGt rj rk))
    (fun s => s.cfg.la64 = true ∧ s.cfg.boundCmpSigned = true ∧ s.sd rj ≤ s.sd rk ∧
      (s.watchMem (s.bounded .store (s.getGr rj) 8 (s.boundGt rj rk))).2 = false ∧
        (s.vaddr (s.getGr rj)).toNat % 8 = 0 ∧
      s.addressError .store (s.vaddr (s.getGr rj)) = false) 0xA#6 0#9 (fun s => s.vaddr (s.getGr rj)) ∧
  MemTraps (.stleB rd rj rk) (fun s => s.bounded .store (s.getGr rj) 1 (s.boundLe rj rk))
    (fun s => s.cfg.la64 = true ∧ s.cfg.boundCmpSigned = true ∧ s.sd rk < s.sd rj ∧
      (s.watchMem (s.bounded .store (s.getGr rj) 1 (s.boundLe rj rk))).2 = false ∧
        (s.vaddr (s.getGr rj)).toNat % 1 = 0 ∧
      s.addressError .store (s.vaddr (s.getGr rj)) = false) 0xA#6 0#9 (fun s => s.vaddr (s.getGr rj)) ∧
  MemTraps (.stleH rd rj rk) (fun s => s.bounded .store (s.getGr rj) 2 (s.boundLe rj rk))
    (fun s => s.cfg.la64 = true ∧ s.cfg.boundCmpSigned = true ∧ s.sd rk < s.sd rj ∧
      (s.watchMem (s.bounded .store (s.getGr rj) 2 (s.boundLe rj rk))).2 = false ∧
        (s.vaddr (s.getGr rj)).toNat % 2 = 0 ∧
      s.addressError .store (s.vaddr (s.getGr rj)) = false) 0xA#6 0#9 (fun s => s.vaddr (s.getGr rj)) ∧
  MemTraps (.stleW rd rj rk) (fun s => s.bounded .store (s.getGr rj) 4 (s.boundLe rj rk))
    (fun s => s.cfg.la64 = true ∧ s.cfg.boundCmpSigned = true ∧ s.sd rk < s.sd rj ∧
      (s.watchMem (s.bounded .store (s.getGr rj) 4 (s.boundLe rj rk))).2 = false ∧
        (s.vaddr (s.getGr rj)).toNat % 4 = 0 ∧
      s.addressError .store (s.vaddr (s.getGr rj)) = false) 0xA#6 0#9 (fun s => s.vaddr (s.getGr rj)) ∧
  MemTraps (.stleD rd rj rk) (fun s => s.bounded .store (s.getGr rj) 8 (s.boundLe rj rk))
    (fun s => s.cfg.la64 = true ∧ s.cfg.boundCmpSigned = true ∧ s.sd rk < s.sd rj ∧
      (s.watchMem (s.bounded .store (s.getGr rj) 8 (s.boundLe rj rk))).2 = false ∧
        (s.vaddr (s.getGr rj)).toNat % 8 = 0 ∧
      s.addressError .store (s.vaddr (s.getGr rj)) = false) 0xA#6 0#9 (fun s => s.vaddr (s.getGr rj)) ∧
  GoesTo (.asrtleD rj rk) (fun s => s.cfg.la64 = true ∧ s.sd rj ≤ s.sd rk) (fun s => s.pc + 4) ∧
  GoesTo (.asrtgtD rj rk) (fun s => s.cfg.la64 = true ∧ s.sd rk < s.sd rj) (fun s => s.pc + 4) ∧
  Traps (.asrtleD rj rk) (fun s => s.cfg.la64 = true ∧ s.sd rk < s.sd rj) 0xA#6 0#9 (fun s => s.vaddr (s.getGr rj)) ∧
  Traps (.asrtgtD rj rk) (fun s => s.cfg.la64 = true ∧ s.sd rj ≤ s.sd rk) 0xA#6 0#9 (fun s => s.vaddr (s.getGr rj))

/-- The thirty-six AM* instructions: old value to rd, new value to memory, in one step. On an LA64 instance with LAM,
with rd different from rj and rk, memory in canonical form, and the aligned read-modify-write access at GR[rj]
passing every check on the bytes as: rd receives the old number at as sign-extended (r0 stays 0), as receives the
operation (swap, wrapping add, and, or, xor, signed or unsigned maximum or minimum) of the old number and the low
bits of GR[rk], and nothing else changes but the pc and MWPS. Each _DB form does the same as its plain form. With rd
= rk (and not rj) the instruction completes and only rd, the bytes as and the pc may have changed (free values, log
13). R570-R574, R920-R955. The order a _DB form adds is not visible on one core (log 38). The little-endian order of
the bytes is decision D2 (log 22). -/
def Obligations.AtomicMemoryOperationResults : Prop :=
  ∀ (rd rj rk : Reg),
  Amo (.amswapW rd rj rk) 4 rd rj rk (fun _ b => b) ∧
  Amo (.amswapD rd rj rk) 8 rd rj rk (fun _ b => b) ∧
  Amo (.amaddW rd rj rk) 4 rd rj rk (fun a b => a + b) ∧
  Amo (.amaddD rd rj rk) 8 rd rj rk (fun a b => a + b) ∧
  Amo (.amandW rd rj rk) 4 rd rj rk (fun a b => a &&& b) ∧
  Amo (.amandD rd rj rk) 8 rd rj rk (fun a b => a &&& b) ∧
  Amo (.amorW rd rj rk) 4 rd rj rk (fun a b => a ||| b) ∧
  Amo (.amorD rd rj rk) 8 rd rj rk (fun a b => a ||| b) ∧
  Amo (.amxorW rd rj rk) 4 rd rj rk (fun a b => a ^^^ b) ∧
  Amo (.amxorD rd rj rk) 8 rd rj rk (fun a b => a ^^^ b) ∧
  Amo (.ammaxW rd rj rk) 4 rd rj rk (signedMax 4) ∧
  Amo (.ammaxD rd rj rk) 8 rd rj rk (signedMax 8) ∧
  Amo (.amminW rd rj rk) 4 rd rj rk (signedMin 4) ∧
  Amo (.amminD rd rj rk) 8 rd rj rk (signedMin 8) ∧
  Amo (.ammaxWu rd rj rk) 4 rd rj rk (fun a b => max a b) ∧
  Amo (.ammaxDu rd rj rk) 8 rd rj rk (fun a b => max a b) ∧
  Amo (.amminWu rd rj rk) 4 rd rj rk (fun a b => min a b) ∧
  Amo (.amminDu rd rj rk) 8 rd rj rk (fun a b => min a b) ∧
  Amo (.amswapDbW rd rj rk) 4 rd rj rk (fun _ b => b) ∧
  Amo (.amswapDbD rd rj rk) 8 rd rj rk (fun _ b => b) ∧
  Amo (.amaddDbW rd rj rk) 4 rd rj rk (fun a b => a + b) ∧
  Amo (.amaddDbD rd rj rk) 8 rd rj rk (fun a b => a + b) ∧
  Amo (.amandDbW rd rj rk) 4 rd rj rk (fun a b => a &&& b) ∧
  Amo (.amandDbD rd rj rk) 8 rd rj rk (fun a b => a &&& b) ∧
  Amo (.amorDbW rd rj rk) 4 rd rj rk (fun a b => a ||| b) ∧
  Amo (.amorDbD rd rj rk) 8 rd rj rk (fun a b => a ||| b) ∧
  Amo (.amxorDbW rd rj rk) 4 rd rj rk (fun a b => a ^^^ b) ∧
  Amo (.amxorDbD rd rj rk) 8 rd rj rk (fun a b => a ^^^ b) ∧
  Amo (.ammaxDbW rd rj rk) 4 rd rj rk (signedMax 4) ∧
  Amo (.ammaxDbD rd rj rk) 8 rd rj rk (signedMax 8) ∧
  Amo (.amminDbW rd rj rk) 4 rd rj rk (signedMin 4) ∧
  Amo (.amminDbD rd rj rk) 8 rd rj rk (signedMin 8) ∧
  Amo (.ammaxDbWu rd rj rk) 4 rd rj rk (fun a b => max a b) ∧
  Amo (.ammaxDbDu rd rj rk) 8 rd rj rk (fun a b => max a b) ∧
  Amo (.amminDbWu rd rj rk) 4 rd rj rk (fun a b => min a b) ∧
  Amo (.amminDbDu rd rj rk) 8 rd rj rk (fun a b => min a b)

/-- LL sets the reservation; SC stores exactly when LLbit is 1, reports it and clears it. Where the aligned access
passes every check on the bytes as: LL completes, LLaddr becomes the first physical address, and on coherent cached
memory rd receives the sign-extended number and LLbit becomes 1. SC completes; on coherent cached memory it stores
the low bytes of rd and writes 1 to rd when LLbit was 1, stores nothing and writes 0 when it was 0, and LLbit
becomes 0; a failing SC makes no access, so it completes whatever stands at its physical addresses. On memory of
another type LLbit, rd and whether SC stores are free (U24, log 14). Nothing else changes but the pc and MWPS.
R590-R594. That SC tests LLbit only and always clears it is decision D50 (log 62); memory that is not coherent
cached is log 14. The little-endian order of the bytes is decision D2 (log 22). -/
def Obligations.LoadLinkedAndStoreConditional : Prop :=
  ∀ (rd rj : Reg) (i14 : BitVec 14),
  (∀ s as mat, Reaches s (s.aligned .load (s.getGr rj + BitVec.ofInt 64 (i14.toInt * 4)) 4) as mat →
    ∃ t, exec (.llW rd rj i14) s = .next t ∧ AtNext s t ∧ t.lladdr = as.headD 0 ∧
      (mat = 1#2 → GrIs s t rd (signedBytes 4 (s.bytesAt as)) ∧ t.llbit = true) ∧
      OnlyGr rd { s.afterWatch (s.aligned .load (s.getGr rj + BitVec.ofInt 64
        (i14.toInt * 4)) 4) with lladdr := t.lladdr, llbit := t.llbit } t) ∧
  (∀ s as mat, s.cfg.la64 = true →
    Reaches s (s.aligned .load (s.getGr rj + BitVec.ofInt 64 (i14.toInt * 4)) 8) as mat →
    ∃ t, exec (.llD rd rj i14) s = .next t ∧ AtNext s t ∧ t.lladdr = as.headD 0 ∧
      (mat = 1#2 → GrIs s t rd (signedBytes 8 (s.bytesAt as)) ∧ t.llbit = true) ∧
      OnlyGr rd { s.afterWatch (s.aligned .load (s.getGr rj + BitVec.ofInt 64
        (i14.toInt * 4)) 8) with lladdr := t.lladdr, llbit := t.llbit } t) ∧
  (∀ s as mat, s.MemOk → Reaches s (s.aligned .rmw (s.getGr rj + BitVec.ofInt 64 (i14.toInt * 4)) 4) as mat →
    ∃ t, exec (.scW rd rj i14) s = .next t ∧ AtNext s t ∧
      (mat = 1#2 → t.llbit = false ∧
        (s.llbit = true → GrIs s t rd 1#64 ∧ StoredAt as (s.getGr rd) t) ∧
        (s.llbit = false → GrIs s t rd 0#64 ∧ SameMem s t)) ∧
      OnlyGrMem rd as { s.afterWatch (s.aligned .rmw (s.getGr rj + BitVec.ofInt 64
        (i14.toInt * 4)) 4) with llbit := t.llbit } t) ∧
  (∀ s as mat, s.cfg.la64 = true → s.MemOk →
    Reaches s (s.aligned .rmw (s.getGr rj + BitVec.ofInt 64 (i14.toInt * 4)) 8) as mat →
    ∃ t, exec (.scD rd rj i14) s = .next t ∧ AtNext s t ∧
      (mat = 1#2 → t.llbit = false ∧
        (s.llbit = true → GrIs s t rd 1#64 ∧ StoredAt as (s.getGr rd) t) ∧
        (s.llbit = false → GrIs s t rd 0#64 ∧ SameMem s t)) ∧
      OnlyGrMem rd as { s.afterWatch (s.aligned .rmw (s.getGr rj + BitVec.ofInt 64
        (i14.toInt * 4)) 8) with llbit := t.llbit } t) ∧
  (∀ s as, s.llbit = false → ReachesAddrs s (s.aligned .rmw (s.getGr rj + BitVec.ofInt 64 (i14.toInt * 4)) 4) as 1#2 →
    ∃ t, exec (.scW rd rj i14) s = .next t ∧ AtNext s t ∧ GrIs s t rd 0#64 ∧ t.llbit = false ∧
      OnlyGr rd { s.afterWatch (s.aligned .rmw (s.getGr rj + BitVec.ofInt 64
        (i14.toInt * 4)) 4) with llbit := false } t) ∧
  (∀ s as, s.cfg.la64 = true → s.llbit = false →
    ReachesAddrs s (s.aligned .rmw (s.getGr rj + BitVec.ofInt 64 (i14.toInt * 4)) 8) as 1#2 →
    ∃ t, exec (.scD rd rj i14) s = .next t ∧ AtNext s t ∧ GrIs s t rd 0#64 ∧ t.llbit = false ∧
      OnlyGr rd { s.afterWatch (s.aligned .rmw (s.getGr rj + BitVec.ofInt 64
        (i14.toInt * 4)) 8) with llbit := false } t)

/-- PRELD, PRELDX, DBAR, IBAR and CACOP by index change nothing but the pc; PRELDX takes INE in LA32 (decision D44, log
45). In every state PRELD, DBAR and IBAR (PRELDX in LA64) complete, the pc advances by 4, and no register, flag, CSR
or byte of memory changes, whatever the hint, the address or the code; so does CACOP at PLV0 with an operation type
other than 2. PRELDX, which exists in LA64 only, takes INE in LA32. R547, R548 for the hints. That DBAR and IBAR
(R596, R597, decision D53) leave nothing else to do on one core is log 38, that CACOP by index (R793, decision D70)
does not on a machine that holds no cache is log 37: the model's choices. That PRELDX takes INE in LA32 is R337(b),
decision D44 (log 45); its entry is R851, with decision D76 (log 63) for VS other than 0 and log 44 for the debug
registers. -/
def Obligations.HintsAndBarriersOnlyAdvance : Prop :=
  ∀ (hint rj rk : Reg) (i12 : BitVec 12) (code : BitVec 15) (op : BitVec 5) (si12 : BitVec 12),
  GoesTo (.preld hint rj i12) Always (fun s => s.pc + 4) ∧
  GoesTo (.preldx hint rj rk) InLa64 (fun s => s.pc + 4) ∧
  TrapsIne (.preldx hint rj rk) (fun s => s.cfg.la64 = false) ∧
  GoesTo (.dbar code) Always (fun s => s.pc + 4) ∧
  GoesTo (.ibar code) Always (fun s => s.pc + 4) ∧
  GoesTo (.cacop op rj si12) (fun s => s.plv = 0#2 ∧ op.toNat / 8 ≠ 2) (fun s => s.pc + 4)

/-- In direct address translation mode an aligned access reaches the low PALEN bits of its address. With CRMD.DA = 1, an
access of 1, 2, 4 or 8 bytes at a naturally aligned address whose bytes the physical memory map backs, with DATM not
the reserved 3 and no failing bound test, reaches the n bytes from va mod 2^PALEN with memory access type DATM,
whatever the TLB, the windows and the privilege level; an aligned fetch reaches pc mod 2^PALEN. No address is
illegal in this mode. R281, R247. That CRMD.DA alone decides, so that DA = PG = 1 is covered too, is decision D12
(log 17): the model's choice. Which addresses are backed is the host's map (R275; log 3); DATM = 3 is reserved (U13;
log 18). -/
def Obligations.DirectModeTranslatesToItself : Prop :=
  (∀ (s : State) (a : Access), s.csr.crmd.getLsbD 3 = true → (a.size = 1 ∨ a.size = 2 ∨ a.size = 4 ∨ a.size = 8) →
    a.va.toNat % a.size = 0 → a.outOfBound = false → s.csr.crmd.extractLsb' 7 2 ≠ 3#2 → a.kind ≠ .fetch →
    (∀ k < a.size, byteRefusal s.cfg a.kind (a.va.toNat % 2 ^ s.cfg.palen + k) = none) →
    s.accessBytes a =
      .ok ((List.range a.size).map (a.va.toNat % 2 ^ s.cfg.palen + ·), s.csr.crmd.extractLsb' 7 2)) ∧
  (∀ s : State, s.csr.crmd.getLsbD 3 = true → (s.vaddr s.pc).toNat % 4 = 0 → s.csr.crmd.extractLsb' 5 2 ≠ 3#2 →
    (∀ k < 4, byteRefusal s.cfg .fetch ((s.vaddr s.pc).toNat % 2 ^ s.cfg.palen + k) = none) →
    s.fetchPa = .ok ((s.vaddr s.pc).toNat % 2 ^ s.cfg.palen)) ∧
  (∀ (s : State) (k : AccessKind) (va : Word), s.csr.crmd.getLsbD 3 = true → s.addressError k va = false)

/-- In mapped mode: a window first, then legality, then the one matching TLB entry, then the refill exception. With
CRMD.DA = 0: a window hits when its PLV bit of the current level is 1 and its VSEG is va[63:60] (va[31:29] in LA32), a
fetch looking at windows 0 and 1 only; the lowest-numbered implemented one that hits gives va mod 2^PALEN (in LA32 PSEG
and va[28:0]) and its MAT, and no address is illegal there. Where none hits, va is legal in LA64 exactly when its bits
from W = VALEN - RBits up equal bit W-1, always in LA32. An entry matches exactly when E is 1, G is 1 or the ASIDs
agree, VPPN agrees with va above the page size (STLBPS.PS in the STLB), and, in the STLB, it stands in the set of va. No
matching entry raises TLBR, two stop, exactly one selects the page by va[ps], and raises in this order page invalid by
access kind (V = 0), PNX (fetch of an NX page), PPI (privilege), PNR (load of an NR page), PME (store to a page with D =
0 unless DWPL exempts it), and otherwise gives pa = {PPN, va[ps-1:0]} with the MAT of the page; a read-modify-write
access is checked as load and as store. R232, R282, R284, R285, R290, R292, R293, R295-R302. That CRMD.DA alone decides
the mode, so that DA = PG = 0 is covered too, is decision D12 (log 17); the lowest-numbered window is decision D41 (log
48), the check of a read-modify-write access D42 (log 48), the bit a set number begins at D34 (log 64); a size PRCFG2
does not list is U11 for the STLB (log 18) and log 58 for the MTLB; the bits of VPPN and PPN that a page size below 4 KB
names and no entry holds are 0 by log 58, where a page size of 2^PALEN or more gives va[ps-1:0] uncut; two matching
entries are U15 (log 19); that an instance without a TLB raises TLBR like one with an empty TLB is log 73, the model's
choice. -/
def Obligations.MappedModeTranslation : Prop :=
  ∀ (s : State) (k : AccessKind) (va : Word), s.csr.crmd.getLsbD 3 = false →
  (∀ (n : Nat) (h : n < 4), s.WindowHits k va n → (∀ m < n, ¬s.WindowHits k va m) →
    s.addressError k va = false ∧
    s.translate k va = .ok (if s.cfg.la64 then va.toNat % 2 ^ s.cfg.palen
      else (s.csr.dmw[n].extractLsb' 25 3).toNat * 2 ^ 29 + va.toNat % 2 ^ 29, s.csr.dmw[n].extractLsb' 4 2)) ∧
  ((∀ n, ¬s.WindowHits k va n) →
    (s.cfg.la64 = false → s.addressError k va = false) ∧
    (∀ w, s.cfg.la64 = true → w + (s.csr.rvacfg.extractLsb' 0 4).toNat = s.cfg.valen → 0 < w → w ≤ 64 →
      (s.addressError k va = false ↔ ∀ i, w ≤ i → i < 64 → va.getLsbD i = va.getLsbD (w - 1))) ∧
    (∀ (i : Nat) (e : TlbEntry), e = s.tlbAt i → (s.tlbMatch va i e = true ↔ s.EntryMatches va i)) ∧
    (s.TlbOk → ¬s.StlbUsable → s.translate k va = .refused .pageSizeUnsupported) ∧
    (s.TlbOk → s.StlbUsable → (∀ i, ¬s.EntryMatches va i) → s.translate k va = .trap (.tlbr va)) ∧
    (s.TlbOk → s.StlbUsable → ∀ i j, i ≠ j → s.EntryMatches va i → s.EntryMatches va j →
      s.translate k va = .fault .multipleTlbHit) ∧
    (s.TlbOk → s.StlbUsable → ∀ i, s.EntryMatches va i → (∀ j, s.EntryMatches va j → j = i) →
      ∀ (ps : Nat) (p : TlbPage),
      ps = (if i < stlbEntries s.cfg then (s.mmu.stlbps.extractLsb' 0 6).toNat else (s.tlbAt i).ps.toNat) →
      p = (if va.getLsbD ps then (s.tlbAt i).page1 else (s.tlbAt i).page0) →
      (p.v = false → s.translate k va = .trap
        (match k with | .fetch => .pif va | .load => .pil va | .store => .pis va | .rmw => .pis va)) ∧
      (p.v = true → k = .fetch → p.nx = true → s.translate k va = .trap (.pnx va)) ∧
      (p.v = true → (k = .fetch → p.nx = false) →
        ((p.rplv = false ∧ p.plv < s.plv) ∨ (p.rplv = true ∧ s.plv ≠ p.plv)) → s.translate k va = .trap (.ppi va)) ∧
      (p.v = true → ¬((p.rplv = false ∧ p.plv < s.plv) ∨ (p.rplv = true ∧ s.plv ≠ p.plv)) →
        (k = .load ∨ k = .rmw) → p.nr = true → s.translate k va = .trap (.pnr va)) ∧
      (p.v = true → ¬((p.rplv = false ∧ p.plv < s.plv) ∨ (p.rplv = true ∧ s.plv ≠ p.plv)) →
        (k = .store ∨ (k = .rmw ∧ p.nr = false)) → p.d = false →
        (s.plv = 3#2 ∨ s.csr.misc.getLsbD (16 + s.plv.toNat) = false) → s.translate k va = .trap (.pme va)) ∧
      (p.v = true → ¬((p.rplv = false ∧ p.plv < s.plv) ∨ (p.rplv = true ∧ s.plv ≠ p.plv)) →
        (k = .fetch → p.nx = false) → (k = .load ∨ k = .rmw → p.nr = false) →
        (k = .store ∨ k = .rmw → p.d = true ∨ (s.plv ≠ 3#2 ∧ s.csr.misc.getLsbD (16 + s.plv.toNat) = true)) →
        ∃ pa, s.translate k va = .ok (pa, p.mat) ∧ pa % 2 ^ ps = va.toNat % 2 ^ ps ∧
          pa / 2 ^ ps = p.ppn.toNat * 2 ^ 12 % 2 ^ s.cfg.palen / 2 ^ ps)))

/-- Every misaligned load, store and atomic access takes ALE where the rules require alignment. Where no watchpoint
exception is raised and the address is not a multiple of the size: the loads and stores of 2, 4 and 8 bytes (LD, ST,
LDX, STX, LDPTR, STPTR and the floating-point FLD, FST, FLDX, FSTX) take exception 0x9 with BADV = the address when
UAL is 0 or MISC.ALCL of the current level is 1; LL, SC, the thirty-six AM* and the bound-check forms (integer and
floating-point) take it always, before the bound is looked at. No register, flag or byte changes but those of the
exception entry and MWPS as the watchpoint test left it. No address is misaligned for one byte. R98, R242, R243,
R250, R840. That the watchpoint test comes first and MWPS keeps what it left is log 48; the debug registers at the
entry are log 44, an entry with VS other than 0 log 63. Outside the exceptions the same forms are covered by the
completion statements. -/
def Obligations.MisalignedAccessesTakeAle : Prop :=
  ∀ (fd rd rj rk : Reg) (i12 : BitVec 12) (i14 : BitVec 14),
  TakesAle (.ldH rd rj i12) Always
    (fun s => s.ordinary .load (s.getGr rj + BitVec.ofInt 64 i12.toInt) 2) false ∧
  TakesAle (.ldW rd rj i12) Always
    (fun s => s.ordinary .load (s.getGr rj + BitVec.ofInt 64 i12.toInt) 4) false ∧
  TakesAle (.ldD rd rj i12) InLa64
    (fun s => s.ordinary .load (s.getGr rj + BitVec.ofInt 64 i12.toInt) 8) false ∧
  TakesAle (.ldHu rd rj i12) Always
    (fun s => s.ordinary .load (s.getGr rj + BitVec.ofInt 64 i12.toInt) 2) false ∧
  TakesAle (.ldWu rd rj i12) InLa64
    (fun s => s.ordinary .load (s.getGr rj + BitVec.ofInt 64 i12.toInt) 4) false ∧
  TakesAle (.ldxH rd rj rk) InLa64
    (fun s => s.ordinary .load (s.getGr rj + s.getGr rk) 2) false ∧
  TakesAle (.ldxW rd rj rk) InLa64
    (fun s => s.ordinary .load (s.getGr rj + s.getGr rk) 4) false ∧
  TakesAle (.ldxD rd rj rk) InLa64
    (fun s => s.ordinary .load (s.getGr rj + s.getGr rk) 8) false ∧
  TakesAle (.ldxHu rd rj rk) InLa64
    (fun s => s.ordinary .load (s.getGr rj + s.getGr rk) 2) false ∧
  TakesAle (.ldxWu rd rj rk) InLa64
    (fun s => s.ordinary .load (s.getGr rj + s.getGr rk) 4) false ∧
  TakesAle (.ldptrW rd rj i14) InLa64
    (fun s => s.ordinary .load (s.getGr rj + BitVec.ofInt 64 (i14.toInt * 4)) 4) false ∧
  TakesAle (.ldptrD rd rj i14) InLa64
    (fun s => s.ordinary .load (s.getGr rj + BitVec.ofInt 64 (i14.toInt * 4)) 8) false ∧
  TakesAle (.stH rd rj i12) Always
    (fun s => s.ordinary .store (s.getGr rj + BitVec.ofInt 64 i12.toInt) 2) false ∧
  TakesAle (.stW rd rj i12) Always
    (fun s => s.ordinary .store (s.getGr rj + BitVec.ofInt 64 i12.toInt) 4) false ∧
  TakesAle (.stD rd rj i12) InLa64
    (fun s => s.ordinary .store (s.getGr rj + BitVec.ofInt 64 i12.toInt) 8) false ∧
  TakesAle (.stxH rd rj rk) InLa64
    (fun s => s.ordinary .store (s.getGr rj + s.getGr rk) 2) false ∧
  TakesAle (.stxW rd rj rk) InLa64
    (fun s => s.ordinary .store (s.getGr rj + s.getGr rk) 4) false ∧
  TakesAle (.stxD rd rj rk) InLa64
    (fun s => s.ordinary .store (s.getGr rj + s.getGr rk) 8) false ∧
  TakesAle (.stptrW rd rj i14) InLa64
    (fun s => s.ordinary .store (s.getGr rj + BitVec.ofInt 64 (i14.toInt * 4)) 4) false ∧
  TakesAle (.stptrD rd rj i14) InLa64
    (fun s => s.ordinary .store (s.getGr rj + BitVec.ofInt 64 (i14.toInt * 4)) 8) false ∧
  TakesAle (.fldS fd rj i12) (fun s => FpReady false s)
    (fun s => s.ordinary .load (s.getGr rj + BitVec.ofInt 64 i12.toInt) 4) false ∧
  TakesAle (.fldD fd rj i12) (fun s => FpReady true s)
    (fun s => s.ordinary .load (s.getGr rj + BitVec.ofInt 64 i12.toInt) 8) false ∧
  TakesAle (.fstS fd rj i12) (fun s => FpReady false s)
    (fun s => s.ordinary .store (s.getGr rj + BitVec.ofInt 64 i12.toInt) 4) false ∧
  TakesAle (.fstD fd rj i12) (fun s => FpReady true s)
    (fun s => s.ordinary .store (s.getGr rj + BitVec.ofInt 64 i12.toInt) 8) false ∧
  TakesAle (.fldxS fd rj rk) (fun s => s.cfg.la64 = true ∧ FpReady false s)
    (fun s => s.ordinary .load (s.getGr rj + s.getGr rk) 4) false ∧
  TakesAle (.fldxD fd rj rk) (fun s => s.cfg.la64 = true ∧ FpReady true s)
    (fun s => s.ordinary .load (s.getGr rj + s.getGr rk) 8) false ∧
  TakesAle (.fstxS fd rj rk) (fun s => s.cfg.la64 = true ∧ FpReady false s)
    (fun s => s.ordinary .store (s.getGr rj + s.getGr rk) 4) false ∧
  TakesAle (.fstxD fd rj rk) (fun s => s.cfg.la64 = true ∧ FpReady true s)
    (fun s => s.ordinary .store (s.getGr rj + s.getGr rk) 8) false ∧
  TakesAle (.llW rd rj i14) Always
    (fun s => s.aligned .load (s.getGr rj + BitVec.ofInt 64 (i14.toInt * 4)) 4) true ∧
  TakesAle (.llD rd rj i14) InLa64
    (fun s => s.aligned .load (s.getGr rj + BitVec.ofInt 64 (i14.toInt * 4)) 8) true ∧
  TakesAle (.scW rd rj i14) Always
    (fun s => s.aligned .rmw (s.getGr rj + BitVec.ofInt 64 (i14.toInt * 4)) 4) true ∧
  TakesAle (.scD rd rj i14) InLa64
    (fun s => s.aligned .rmw (s.getGr rj + BitVec.ofInt 64 (i14.toInt * 4)) 8) true ∧
  TakesAle (.amswapW rd rj rk) (fun s => s.cfg.la64 = true ∧ s.cfg.hasLam = true ∧ rd ≠ rj)
    (fun s => s.aligned .rmw (s.getGr rj) 4) true ∧
  TakesAle (.amswapD rd rj rk) (fun s => s.cfg.la64 = true ∧ s.cfg.hasLam = true ∧ rd ≠ rj)
    (fun s => s.aligned .rmw (s.getGr rj) 8) true ∧
  TakesAle (.amaddW rd rj rk) (fun s => s.cfg.la64 = true ∧ s.cfg.hasLam = true ∧ rd ≠ rj)
    (fun s => s.aligned .rmw (s.getGr rj) 4) true ∧
  TakesAle (.amaddD rd rj rk) (fun s => s.cfg.la64 = true ∧ s.cfg.hasLam = true ∧ rd ≠ rj)
    (fun s => s.aligned .rmw (s.getGr rj) 8) true ∧
  TakesAle (.amandW rd rj rk) (fun s => s.cfg.la64 = true ∧ s.cfg.hasLam = true ∧ rd ≠ rj)
    (fun s => s.aligned .rmw (s.getGr rj) 4) true ∧
  TakesAle (.amandD rd rj rk) (fun s => s.cfg.la64 = true ∧ s.cfg.hasLam = true ∧ rd ≠ rj)
    (fun s => s.aligned .rmw (s.getGr rj) 8) true ∧
  TakesAle (.amorW rd rj rk) (fun s => s.cfg.la64 = true ∧ s.cfg.hasLam = true ∧ rd ≠ rj)
    (fun s => s.aligned .rmw (s.getGr rj) 4) true ∧
  TakesAle (.amorD rd rj rk) (fun s => s.cfg.la64 = true ∧ s.cfg.hasLam = true ∧ rd ≠ rj)
    (fun s => s.aligned .rmw (s.getGr rj) 8) true ∧
  TakesAle (.amxorW rd rj rk) (fun s => s.cfg.la64 = true ∧ s.cfg.hasLam = true ∧ rd ≠ rj)
    (fun s => s.aligned .rmw (s.getGr rj) 4) true ∧
  TakesAle (.amxorD rd rj rk) (fun s => s.cfg.la64 = true ∧ s.cfg.hasLam = true ∧ rd ≠ rj)
    (fun s => s.aligned .rmw (s.getGr rj) 8) true ∧
  TakesAle (.ammaxW rd rj rk) (fun s => s.cfg.la64 = true ∧ s.cfg.hasLam = true ∧ rd ≠ rj)
    (fun s => s.aligned .rmw (s.getGr rj) 4) true ∧
  TakesAle (.ammaxD rd rj rk) (fun s => s.cfg.la64 = true ∧ s.cfg.hasLam = true ∧ rd ≠ rj)
    (fun s => s.aligned .rmw (s.getGr rj) 8) true ∧
  TakesAle (.amminW rd rj rk) (fun s => s.cfg.la64 = true ∧ s.cfg.hasLam = true ∧ rd ≠ rj)
    (fun s => s.aligned .rmw (s.getGr rj) 4) true ∧
  TakesAle (.amminD rd rj rk) (fun s => s.cfg.la64 = true ∧ s.cfg.hasLam = true ∧ rd ≠ rj)
    (fun s => s.aligned .rmw (s.getGr rj) 8) true ∧
  TakesAle (.ammaxWu rd rj rk) (fun s => s.cfg.la64 = true ∧ s.cfg.hasLam = true ∧ rd ≠ rj)
    (fun s => s.aligned .rmw (s.getGr rj) 4) true ∧
  TakesAle (.ammaxDu rd rj rk) (fun s => s.cfg.la64 = true ∧ s.cfg.hasLam = true ∧ rd ≠ rj)
    (fun s => s.aligned .rmw (s.getGr rj) 8) true ∧
  TakesAle (.amminWu rd rj rk) (fun s => s.cfg.la64 = true ∧ s.cfg.hasLam = true ∧ rd ≠ rj)
    (fun s => s.aligned .rmw (s.getGr rj) 4) true ∧
  TakesAle (.amminDu rd rj rk) (fun s => s.cfg.la64 = true ∧ s.cfg.hasLam = true ∧ rd ≠ rj)
    (fun s => s.aligned .rmw (s.getGr rj) 8) true ∧
  TakesAle (.amswapDbW rd rj rk) (fun s => s.cfg.la64 = true ∧ s.cfg.hasLam = true ∧ rd ≠ rj)
    (fun s => s.aligned .rmw (s.getGr rj) 4) true ∧
  TakesAle (.amswapDbD rd rj rk) (fun s => s.cfg.la64 = true ∧ s.cfg.hasLam = true ∧ rd ≠ rj)
    (fun s => s.aligned .rmw (s.getGr rj) 8) true ∧
  TakesAle (.amaddDbW rd rj rk) (fun s => s.cfg.la64 = true ∧ s.cfg.hasLam = true ∧ rd ≠ rj)
    (fun s => s.aligned .rmw (s.getGr rj) 4) true ∧
  TakesAle (.amaddDbD rd rj rk) (fun s => s.cfg.la64 = true ∧ s.cfg.hasLam = true ∧ rd ≠ rj)
    (fun s => s.aligned .rmw (s.getGr rj) 8) true ∧
  TakesAle (.amandDbW rd rj rk) (fun s => s.cfg.la64 = true ∧ s.cfg.hasLam = true ∧ rd ≠ rj)
    (fun s => s.aligned .rmw (s.getGr rj) 4) true ∧
  TakesAle (.amandDbD rd rj rk) (fun s => s.cfg.la64 = true ∧ s.cfg.hasLam = true ∧ rd ≠ rj)
    (fun s => s.aligned .rmw (s.getGr rj) 8) true ∧
  TakesAle (.amorDbW rd rj rk) (fun s => s.cfg.la64 = true ∧ s.cfg.hasLam = true ∧ rd ≠ rj)
    (fun s => s.aligned .rmw (s.getGr rj) 4) true ∧
  TakesAle (.amorDbD rd rj rk) (fun s => s.cfg.la64 = true ∧ s.cfg.hasLam = true ∧ rd ≠ rj)
    (fun s => s.aligned .rmw (s.getGr rj) 8) true ∧
  TakesAle (.amxorDbW rd rj rk) (fun s => s.cfg.la64 = true ∧ s.cfg.hasLam = true ∧ rd ≠ rj)
    (fun s => s.aligned .rmw (s.getGr rj) 4) true ∧
  TakesAle (.amxorDbD rd rj rk) (fun s => s.cfg.la64 = true ∧ s.cfg.hasLam = true ∧ rd ≠ rj)
    (fun s => s.aligned .rmw (s.getGr rj) 8) true ∧
  TakesAle (.ammaxDbW rd rj rk) (fun s => s.cfg.la64 = true ∧ s.cfg.hasLam = true ∧ rd ≠ rj)
    (fun s => s.aligned .rmw (s.getGr rj) 4) true ∧
  TakesAle (.ammaxDbD rd rj rk) (fun s => s.cfg.la64 = true ∧ s.cfg.hasLam = true ∧ rd ≠ rj)
    (fun s => s.aligned .rmw (s.getGr rj) 8) true ∧
  TakesAle (.amminDbW rd rj rk) (fun s => s.cfg.la64 = true ∧ s.cfg.hasLam = true ∧ rd ≠ rj)
    (fun s => s.aligned .rmw (s.getGr rj) 4) true ∧
  TakesAle (.amminDbD rd rj rk) (fun s => s.cfg.la64 = true ∧ s.cfg.hasLam = true ∧ rd ≠ rj)
    (fun s => s.aligned .rmw (s.getGr rj) 8) true ∧
  TakesAle (.ammaxDbWu rd rj rk) (fun s => s.cfg.la64 = true ∧ s.cfg.hasLam = true ∧ rd ≠ rj)
    (fun s => s.aligned .rmw (s.getGr rj) 4) true ∧
  TakesAle (.ammaxDbDu rd rj rk) (fun s => s.cfg.la64 = true ∧ s.cfg.hasLam = true ∧ rd ≠ rj)
    (fun s => s.aligned .rmw (s.getGr rj) 8) true ∧
  TakesAle (.amminDbWu rd rj rk) (fun s => s.cfg.la64 = true ∧ s.cfg.hasLam = true ∧ rd ≠ rj)
    (fun s => s.aligned .rmw (s.getGr rj) 4) true ∧
  TakesAle (.amminDbDu rd rj rk) (fun s => s.cfg.la64 = true ∧ s.cfg.hasLam = true ∧ rd ≠ rj)
    (fun s => s.aligned .rmw (s.getGr rj) 8) true ∧
  TakesAle (.ldgtH rd rj rk) InLa64
    (fun s => s.bounded .load (s.getGr rj) 2 (s.boundGt rj rk)) true ∧
  TakesAle (.ldgtW rd rj rk) InLa64
    (fun s => s.bounded .load (s.getGr rj) 4 (s.boundGt rj rk)) true ∧
  TakesAle (.ldgtD rd rj rk) InLa64
    (fun s => s.bounded .load (s.getGr rj) 8 (s.boundGt rj rk)) true ∧
  TakesAle (.ldleH rd rj rk) InLa64
    (fun s => s.bounded .load (s.getGr rj) 2 (s.boundLe rj rk)) true ∧
  TakesAle (.ldleW rd rj rk) InLa64
    (fun s => s.bounded .load (s.getGr rj) 4 (s.boundLe rj rk)) true ∧
  TakesAle (.ldleD rd rj rk) InLa64
    (fun s => s.bounded .load (s.getGr rj) 8 (s.boundLe rj rk)) true ∧
  TakesAle (.stgtH rd rj rk) InLa64
    (fun s => s.bounded .store (s.getGr rj) 2 (s.boundGt rj rk)) true ∧
  TakesAle (.stgtW rd rj rk) InLa64
    (fun s => s.bounded .store (s.getGr rj) 4 (s.boundGt rj rk)) true ∧
  TakesAle (.stgtD rd rj rk) InLa64
    (fun s => s.bounded .store (s.getGr rj) 8 (s.boundGt rj rk)) true ∧
  TakesAle (.stleH rd rj rk) InLa64
    (fun s => s.bounded .store (s.getGr rj) 2 (s.boundLe rj rk)) true ∧
  TakesAle (.stleW rd rj rk) InLa64
    (fun s => s.bounded .store (s.getGr rj) 4 (s.boundLe rj rk)) true ∧
  TakesAle (.stleD rd rj rk) InLa64
    (fun s => s.bounded .store (s.getGr rj) 8 (s.boundLe rj rk)) true ∧
  TakesAle (.fldgtS fd rj rk) (fun s => s.cfg.la64 = true ∧ FpReady false s)
    (fun s => s.bounded .load (s.getGr rj) 4 (s.boundGt rj rk)) true ∧
  TakesAle (.fldgtD fd rj rk) (fun s => s.cfg.la64 = true ∧ FpReady true s)
    (fun s => s.bounded .load (s.getGr rj) 8 (s.boundGt rj rk)) true ∧
  TakesAle (.fldleS fd rj rk) (fun s => s.cfg.la64 = true ∧ FpReady false s)
    (fun s => s.bounded .load (s.getGr rj) 4 (s.boundLe rj rk)) true ∧
  TakesAle (.fldleD fd rj rk) (fun s => s.cfg.la64 = true ∧ FpReady true s)
    (fun s => s.bounded .load (s.getGr rj) 8 (s.boundLe rj rk)) true ∧
  TakesAle (.fstgtS fd rj rk) (fun s => s.cfg.la64 = true ∧ FpReady false s)
    (fun s => s.bounded .store (s.getGr rj) 4 (s.boundGt rj rk)) true ∧
  TakesAle (.fstgtD fd rj rk) (fun s => s.cfg.la64 = true ∧ FpReady true s)
    (fun s => s.bounded .store (s.getGr rj) 8 (s.boundGt rj rk)) true ∧
  TakesAle (.fstleS fd rj rk) (fun s => s.cfg.la64 = true ∧ FpReady false s)
    (fun s => s.bounded .store (s.getGr rj) 4 (s.boundLe rj rk)) true ∧
  TakesAle (.fstleD fd rj rk) (fun s => s.cfg.la64 = true ∧ FpReady true s)
    (fun s => s.bounded .store (s.getGr rj) 8 (s.boundLe rj rk)) true

/-- When a load/store watchpoint hits, what the test changes, and that every load, store and atomic form then takes
WPEM. For every state (in debug mode too, where it is the model's choice) and access: the test changes nothing but MWPS.
A watchpoint hits an access of at most 8 bytes exactly when its LoadEn or StoreEn bit matches the kind (AM* and SC are
both), and some byte of the access stands in the bytes its Size selects of an 8-byte group whose address (the access
address, or that of the next group modulo 2^GRLEN) it hits: CRMD.WE is 1, DMOnly only in debug mode, PLVn of the current
level is 1, the ASIDs agree where LCL asks for it, and every address bit that the mask does not exclude agrees. Where no
implemented watchpoint hits, MWPS stays and nothing is raised. Where one hits and MWPS.Skip is 1, Skip is cleared, the
status bits stay and nothing is raised. Where one hits and Skip is 0, the status bit of each hitting watchpoint is set,
the others stay, and every form whose access it is (LD, LDX, LDPTR, ST, STX, STPTR, LL, SC, the thirty-six AM*, the
bound-check forms, FLD, FLDX, FST, FSTX and theirs) takes WPEM (0x13, 1): no register, flag or byte of memory changes,
BADI = the word, BADV stays. R205-R209, R217, R843, R851. How read-modify-write accesses, Skip and accesses across
groups are treated: decisions D31, D32 (log 32); that a hit with DBG.DM = 1, which R217 calls a debug exception
(DBG.DMW, out of scope), sets the status bits and raises WPEM like any other is the model's choice (log 32); that the
test comes before every other check: log 48; the wrap of the next group: log 61; the debug registers at the entry: log
44, an entry with VS other than 0: decision D76 (log 63). -/
def Obligations.WatchpointTestOfAnAccess : Prop :=
  (∀ (s : State) (a : Access), s.afterWatch a = { s with watch := { s.watch with mwps :=
    (s.afterWatch a).watch.mwps } }) ∧
  (∀ (s : State) (a : Access) (w : Watchpoint), a.size ≤ 8 → (s.mwAccessHit a w = true ↔
    ((a.kind = .load ∨ a.kind = .rmw) ∧ w.cfg3.getLsbD 8 = true ∨
      (a.kind = .store ∨ a.kind = .rmw) ∧ w.cfg3.getLsbD 9 = true) ∧
    ∃ k < a.size, w.WatchesByte ((a.va.toNat + k) % 8) ∧
      s.WatchHits w (if a.va.toNat % 8 + k < 8 then a.va else s.vaddr ((a.va &&& ~~~7#64) + 8#64)))) ∧
  (∀ (s : State) (a : Access), (∀ n < 8, n < s.cfg.mwpNum → s.mwAccessHit a (s.watch.mwp.getD n .reset) = false) →
    s.watchMem a = (s, false)) ∧
  (∀ (s : State) (a : Access), (∃ n < 8, n < s.cfg.mwpNum ∧ s.mwAccessHit a (s.watch.mwp.getD n .reset) = true) →
    (s.watch.mwps.getLsbD 16 = true → (s.watchMem a).2 = false ∧
      ∀ i, (s.afterWatch a).watch.mwps.getLsbD i = (s.watch.mwps.getLsbD i && decide (i ≠ 16))) ∧
    (s.watch.mwps.getLsbD 16 = false → (s.watchMem a).2 = true ∧
      ∀ i, (s.afterWatch a).watch.mwps.getLsbD i = (s.watch.mwps.getLsbD i ||
        (decide (i < 8) && decide (i < s.cfg.mwpNum) && s.mwAccessHit a (s.watch.mwp.getD i .reset))))) ∧
  ∀ (fd rd rj rk : Reg) (i12 : BitVec 12) (i14 : BitVec 14),
  TakesWpem (.ldB rd rj i12) Always
    (fun s => s.ordinary .load (s.getGr rj + BitVec.ofInt 64 i12.toInt) 1) ∧
  TakesWpem (.ldH rd rj i12) Always
    (fun s => s.ordinary .load (s.getGr rj + BitVec.ofInt 64 i12.toInt) 2) ∧
  TakesWpem (.ldW rd rj i12) Always
    (fun s => s.ordinary .load (s.getGr rj + BitVec.ofInt 64 i12.toInt) 4) ∧
  TakesWpem (.ldD rd rj i12) InLa64
    (fun s => s.ordinary .load (s.getGr rj + BitVec.ofInt 64 i12.toInt) 8) ∧
  TakesWpem (.ldBu rd rj i12) Always
    (fun s => s.ordinary .load (s.getGr rj + BitVec.ofInt 64 i12.toInt) 1) ∧
  TakesWpem (.ldHu rd rj i12) Always
    (fun s => s.ordinary .load (s.getGr rj + BitVec.ofInt 64 i12.toInt) 2) ∧
  TakesWpem (.ldWu rd rj i12) InLa64
    (fun s => s.ordinary .load (s.getGr rj + BitVec.ofInt 64 i12.toInt) 4) ∧
  TakesWpem (.ldxB rd rj rk) InLa64
    (fun s => s.ordinary .load (s.getGr rj + s.getGr rk) 1) ∧
  TakesWpem (.ldxH rd rj rk) InLa64
    (fun s => s.ordinary .load (s.getGr rj + s.getGr rk) 2) ∧
  TakesWpem (.ldxW rd rj rk) InLa64
    (fun s => s.ordinary .load (s.getGr rj + s.getGr rk) 4) ∧
  TakesWpem (.ldxD rd rj rk) InLa64
    (fun s => s.ordinary .load (s.getGr rj + s.getGr rk) 8) ∧
  TakesWpem (.ldxBu rd rj rk) InLa64
    (fun s => s.ordinary .load (s.getGr rj + s.getGr rk) 1) ∧
  TakesWpem (.ldxHu rd rj rk) InLa64
    (fun s => s.ordinary .load (s.getGr rj + s.getGr rk) 2) ∧
  TakesWpem (.ldxWu rd rj rk) InLa64
    (fun s => s.ordinary .load (s.getGr rj + s.getGr rk) 4) ∧
  TakesWpem (.ldptrW rd rj i14) InLa64
    (fun s => s.ordinary .load (s.getGr rj + BitVec.ofInt 64 (i14.toInt * 4)) 4) ∧
  TakesWpem (.ldptrD rd rj i14) InLa64
    (fun s => s.ordinary .load (s.getGr rj + BitVec.ofInt 64 (i14.toInt * 4)) 8) ∧
  TakesWpem (.stB rd rj i12) Always
    (fun s => s.ordinary .store (s.getGr rj + BitVec.ofInt 64 i12.toInt) 1) ∧
  TakesWpem (.stH rd rj i12) Always
    (fun s => s.ordinary .store (s.getGr rj + BitVec.ofInt 64 i12.toInt) 2) ∧
  TakesWpem (.stW rd rj i12) Always
    (fun s => s.ordinary .store (s.getGr rj + BitVec.ofInt 64 i12.toInt) 4) ∧
  TakesWpem (.stD rd rj i12) InLa64
    (fun s => s.ordinary .store (s.getGr rj + BitVec.ofInt 64 i12.toInt) 8) ∧
  TakesWpem (.stxB rd rj rk) InLa64
    (fun s => s.ordinary .store (s.getGr rj + s.getGr rk) 1) ∧
  TakesWpem (.stxH rd rj rk) InLa64
    (fun s => s.ordinary .store (s.getGr rj + s.getGr rk) 2) ∧
  TakesWpem (.stxW rd rj rk) InLa64
    (fun s => s.ordinary .store (s.getGr rj + s.getGr rk) 4) ∧
  TakesWpem (.stxD rd rj rk) InLa64
    (fun s => s.ordinary .store (s.getGr rj + s.getGr rk) 8) ∧
  TakesWpem (.stptrW rd rj i14) InLa64
    (fun s => s.ordinary .store (s.getGr rj + BitVec.ofInt 64 (i14.toInt * 4)) 4) ∧
  TakesWpem (.stptrD rd rj i14) InLa64
    (fun s => s.ordinary .store (s.getGr rj + BitVec.ofInt 64 (i14.toInt * 4)) 8) ∧
  TakesWpem (.fldS fd rj i12) (fun s => FpReady false s)
    (fun s => s.ordinary .load (s.getGr rj + BitVec.ofInt 64 i12.toInt) 4) ∧
  TakesWpem (.fldD fd rj i12) (fun s => FpReady true s)
    (fun s => s.ordinary .load (s.getGr rj + BitVec.ofInt 64 i12.toInt) 8) ∧
  TakesWpem (.fstS fd rj i12) (fun s => FpReady false s)
    (fun s => s.ordinary .store (s.getGr rj + BitVec.ofInt 64 i12.toInt) 4) ∧
  TakesWpem (.fstD fd rj i12) (fun s => FpReady true s)
    (fun s => s.ordinary .store (s.getGr rj + BitVec.ofInt 64 i12.toInt) 8) ∧
  TakesWpem (.fldxS fd rj rk) (fun s => s.cfg.la64 = true ∧ FpReady false s)
    (fun s => s.ordinary .load (s.getGr rj + s.getGr rk) 4) ∧
  TakesWpem (.fldxD fd rj rk) (fun s => s.cfg.la64 = true ∧ FpReady true s)
    (fun s => s.ordinary .load (s.getGr rj + s.getGr rk) 8) ∧
  TakesWpem (.fstxS fd rj rk) (fun s => s.cfg.la64 = true ∧ FpReady false s)
    (fun s => s.ordinary .store (s.getGr rj + s.getGr rk) 4) ∧
  TakesWpem (.fstxD fd rj rk) (fun s => s.cfg.la64 = true ∧ FpReady true s)
    (fun s => s.ordinary .store (s.getGr rj + s.getGr rk) 8) ∧
  TakesWpem (.llW rd rj i14) Always
    (fun s => s.aligned .load (s.getGr rj + BitVec.ofInt 64 (i14.toInt * 4)) 4) ∧
  TakesWpem (.llD rd rj i14) InLa64
    (fun s => s.aligned .load (s.getGr rj + BitVec.ofInt 64 (i14.toInt * 4)) 8) ∧
  TakesWpem (.scW rd rj i14) Always
    (fun s => s.aligned .rmw (s.getGr rj + BitVec.ofInt 64 (i14.toInt * 4)) 4) ∧
  TakesWpem (.scD rd rj i14) InLa64
    (fun s => s.aligned .rmw (s.getGr rj + BitVec.ofInt 64 (i14.toInt * 4)) 8) ∧
  TakesWpem (.amswapW rd rj rk) (fun s => s.cfg.la64 = true ∧ s.cfg.hasLam = true ∧ rd ≠ rj)
    (fun s => s.aligned .rmw (s.getGr rj) 4) ∧
  TakesWpem (.amswapD rd rj rk) (fun s => s.cfg.la64 = true ∧ s.cfg.hasLam = true ∧ rd ≠ rj)
    (fun s => s.aligned .rmw (s.getGr rj) 8) ∧
  TakesWpem (.amaddW rd rj rk) (fun s => s.cfg.la64 = true ∧ s.cfg.hasLam = true ∧ rd ≠ rj)
    (fun s => s.aligned .rmw (s.getGr rj) 4) ∧
  TakesWpem (.amaddD rd rj rk) (fun s => s.cfg.la64 = true ∧ s.cfg.hasLam = true ∧ rd ≠ rj)
    (fun s => s.aligned .rmw (s.getGr rj) 8) ∧
  TakesWpem (.amandW rd rj rk) (fun s => s.cfg.la64 = true ∧ s.cfg.hasLam = true ∧ rd ≠ rj)
    (fun s => s.aligned .rmw (s.getGr rj) 4) ∧
  TakesWpem (.amandD rd rj rk) (fun s => s.cfg.la64 = true ∧ s.cfg.hasLam = true ∧ rd ≠ rj)
    (fun s => s.aligned .rmw (s.getGr rj) 8) ∧
  TakesWpem (.amorW rd rj rk) (fun s => s.cfg.la64 = true ∧ s.cfg.hasLam = true ∧ rd ≠ rj)
    (fun s => s.aligned .rmw (s.getGr rj) 4) ∧
  TakesWpem (.amorD rd rj rk) (fun s => s.cfg.la64 = true ∧ s.cfg.hasLam = true ∧ rd ≠ rj)
    (fun s => s.aligned .rmw (s.getGr rj) 8) ∧
  TakesWpem (.amxorW rd rj rk) (fun s => s.cfg.la64 = true ∧ s.cfg.hasLam = true ∧ rd ≠ rj)
    (fun s => s.aligned .rmw (s.getGr rj) 4) ∧
  TakesWpem (.amxorD rd rj rk) (fun s => s.cfg.la64 = true ∧ s.cfg.hasLam = true ∧ rd ≠ rj)
    (fun s => s.aligned .rmw (s.getGr rj) 8) ∧
  TakesWpem (.ammaxW rd rj rk) (fun s => s.cfg.la64 = true ∧ s.cfg.hasLam = true ∧ rd ≠ rj)
    (fun s => s.aligned .rmw (s.getGr rj) 4) ∧
  TakesWpem (.ammaxD rd rj rk) (fun s => s.cfg.la64 = true ∧ s.cfg.hasLam = true ∧ rd ≠ rj)
    (fun s => s.aligned .rmw (s.getGr rj) 8) ∧
  TakesWpem (.amminW rd rj rk) (fun s => s.cfg.la64 = true ∧ s.cfg.hasLam = true ∧ rd ≠ rj)
    (fun s => s.aligned .rmw (s.getGr rj) 4) ∧
  TakesWpem (.amminD rd rj rk) (fun s => s.cfg.la64 = true ∧ s.cfg.hasLam = true ∧ rd ≠ rj)
    (fun s => s.aligned .rmw (s.getGr rj) 8) ∧
  TakesWpem (.ammaxWu rd rj rk) (fun s => s.cfg.la64 = true ∧ s.cfg.hasLam = true ∧ rd ≠ rj)
    (fun s => s.aligned .rmw (s.getGr rj) 4) ∧
  TakesWpem (.ammaxDu rd rj rk) (fun s => s.cfg.la64 = true ∧ s.cfg.hasLam = true ∧ rd ≠ rj)
    (fun s => s.aligned .rmw (s.getGr rj) 8) ∧
  TakesWpem (.amminWu rd rj rk) (fun s => s.cfg.la64 = true ∧ s.cfg.hasLam = true ∧ rd ≠ rj)
    (fun s => s.aligned .rmw (s.getGr rj) 4) ∧
  TakesWpem (.amminDu rd rj rk) (fun s => s.cfg.la64 = true ∧ s.cfg.hasLam = true ∧ rd ≠ rj)
    (fun s => s.aligned .rmw (s.getGr rj) 8) ∧
  TakesWpem (.amswapDbW rd rj rk) (fun s => s.cfg.la64 = true ∧ s.cfg.hasLam = true ∧ rd ≠ rj)
    (fun s => s.aligned .rmw (s.getGr rj) 4) ∧
  TakesWpem (.amswapDbD rd rj rk) (fun s => s.cfg.la64 = true ∧ s.cfg.hasLam = true ∧ rd ≠ rj)
    (fun s => s.aligned .rmw (s.getGr rj) 8) ∧
  TakesWpem (.amaddDbW rd rj rk) (fun s => s.cfg.la64 = true ∧ s.cfg.hasLam = true ∧ rd ≠ rj)
    (fun s => s.aligned .rmw (s.getGr rj) 4) ∧
  TakesWpem (.amaddDbD rd rj rk) (fun s => s.cfg.la64 = true ∧ s.cfg.hasLam = true ∧ rd ≠ rj)
    (fun s => s.aligned .rmw (s.getGr rj) 8) ∧
  TakesWpem (.amandDbW rd rj rk) (fun s => s.cfg.la64 = true ∧ s.cfg.hasLam = true ∧ rd ≠ rj)
    (fun s => s.aligned .rmw (s.getGr rj) 4) ∧
  TakesWpem (.amandDbD rd rj rk) (fun s => s.cfg.la64 = true ∧ s.cfg.hasLam = true ∧ rd ≠ rj)
    (fun s => s.aligned .rmw (s.getGr rj) 8) ∧
  TakesWpem (.amorDbW rd rj rk) (fun s => s.cfg.la64 = true ∧ s.cfg.hasLam = true ∧ rd ≠ rj)
    (fun s => s.aligned .rmw (s.getGr rj) 4) ∧
  TakesWpem (.amorDbD rd rj rk) (fun s => s.cfg.la64 = true ∧ s.cfg.hasLam = true ∧ rd ≠ rj)
    (fun s => s.aligned .rmw (s.getGr rj) 8) ∧
  TakesWpem (.amxorDbW rd rj rk) (fun s => s.cfg.la64 = true ∧ s.cfg.hasLam = true ∧ rd ≠ rj)
    (fun s => s.aligned .rmw (s.getGr rj) 4) ∧
  TakesWpem (.amxorDbD rd rj rk) (fun s => s.cfg.la64 = true ∧ s.cfg.hasLam = true ∧ rd ≠ rj)
    (fun s => s.aligned .rmw (s.getGr rj) 8) ∧
  TakesWpem (.ammaxDbW rd rj rk) (fun s => s.cfg.la64 = true ∧ s.cfg.hasLam = true ∧ rd ≠ rj)
    (fun s => s.aligned .rmw (s.getGr rj) 4) ∧
  TakesWpem (.ammaxDbD rd rj rk) (fun s => s.cfg.la64 = true ∧ s.cfg.hasLam = true ∧ rd ≠ rj)
    (fun s => s.aligned .rmw (s.getGr rj) 8) ∧
  TakesWpem (.amminDbW rd rj rk) (fun s => s.cfg.la64 = true ∧ s.cfg.hasLam = true ∧ rd ≠ rj)
    (fun s => s.aligned .rmw (s.getGr rj) 4) ∧
  TakesWpem (.amminDbD rd rj rk) (fun s => s.cfg.la64 = true ∧ s.cfg.hasLam = true ∧ rd ≠ rj)
    (fun s => s.aligned .rmw (s.getGr rj) 8) ∧
  TakesWpem (.ammaxDbWu rd rj rk) (fun s => s.cfg.la64 = true ∧ s.cfg.hasLam = true ∧ rd ≠ rj)
    (fun s => s.aligned .rmw (s.getGr rj) 4) ∧
  TakesWpem (.ammaxDbDu rd rj rk) (fun s => s.cfg.la64 = true ∧ s.cfg.hasLam = true ∧ rd ≠ rj)
    (fun s => s.aligned .rmw (s.getGr rj) 8) ∧
  TakesWpem (.amminDbWu rd rj rk) (fun s => s.cfg.la64 = true ∧ s.cfg.hasLam = true ∧ rd ≠ rj)
    (fun s => s.aligned .rmw (s.getGr rj) 4) ∧
  TakesWpem (.amminDbDu rd rj rk) (fun s => s.cfg.la64 = true ∧ s.cfg.hasLam = true ∧ rd ≠ rj)
    (fun s => s.aligned .rmw (s.getGr rj) 8) ∧
  TakesWpem (.ldgtB rd rj rk) InLa64
    (fun s => s.bounded .load (s.getGr rj) 1 (s.boundGt rj rk)) ∧
  TakesWpem (.ldgtH rd rj rk) InLa64
    (fun s => s.bounded .load (s.getGr rj) 2 (s.boundGt rj rk)) ∧
  TakesWpem (.ldgtW rd rj rk) InLa64
    (fun s => s.bounded .load (s.getGr rj) 4 (s.boundGt rj rk)) ∧
  TakesWpem (.ldgtD rd rj rk) InLa64
    (fun s => s.bounded .load (s.getGr rj) 8 (s.boundGt rj rk)) ∧
  TakesWpem (.ldleB rd rj rk) InLa64
    (fun s => s.bounded .load (s.getGr rj) 1 (s.boundLe rj rk)) ∧
  TakesWpem (.ldleH rd rj rk) InLa64
    (fun s => s.bounded .load (s.getGr rj) 2 (s.boundLe rj rk)) ∧
  TakesWpem (.ldleW rd rj rk) InLa64
    (fun s => s.bounded .load (s.getGr rj) 4 (s.boundLe rj rk)) ∧
  TakesWpem (.ldleD rd rj rk) InLa64
    (fun s => s.bounded .load (s.getGr rj) 8 (s.boundLe rj rk)) ∧
  TakesWpem (.stgtB rd rj rk) InLa64
    (fun s => s.bounded .store (s.getGr rj) 1 (s.boundGt rj rk)) ∧
  TakesWpem (.stgtH rd rj rk) InLa64
    (fun s => s.bounded .store (s.getGr rj) 2 (s.boundGt rj rk)) ∧
  TakesWpem (.stgtW rd rj rk) InLa64
    (fun s => s.bounded .store (s.getGr rj) 4 (s.boundGt rj rk)) ∧
  TakesWpem (.stgtD rd rj rk) InLa64
    (fun s => s.bounded .store (s.getGr rj) 8 (s.boundGt rj rk)) ∧
  TakesWpem (.stleB rd rj rk) InLa64
    (fun s => s.bounded .store (s.getGr rj) 1 (s.boundLe rj rk)) ∧
  TakesWpem (.stleH rd rj rk) InLa64
    (fun s => s.bounded .store (s.getGr rj) 2 (s.boundLe rj rk)) ∧
  TakesWpem (.stleW rd rj rk) InLa64
    (fun s => s.bounded .store (s.getGr rj) 4 (s.boundLe rj rk)) ∧
  TakesWpem (.stleD rd rj rk) InLa64
    (fun s => s.bounded .store (s.getGr rj) 8 (s.boundLe rj rk)) ∧
  TakesWpem (.fldgtS fd rj rk) (fun s => s.cfg.la64 = true ∧ FpReady false s)
    (fun s => s.bounded .load (s.getGr rj) 4 (s.boundGt rj rk)) ∧
  TakesWpem (.fldgtD fd rj rk) (fun s => s.cfg.la64 = true ∧ FpReady true s)
    (fun s => s.bounded .load (s.getGr rj) 8 (s.boundGt rj rk)) ∧
  TakesWpem (.fldleS fd rj rk) (fun s => s.cfg.la64 = true ∧ FpReady false s)
    (fun s => s.bounded .load (s.getGr rj) 4 (s.boundLe rj rk)) ∧
  TakesWpem (.fldleD fd rj rk) (fun s => s.cfg.la64 = true ∧ FpReady true s)
    (fun s => s.bounded .load (s.getGr rj) 8 (s.boundLe rj rk)) ∧
  TakesWpem (.fstgtS fd rj rk) (fun s => s.cfg.la64 = true ∧ FpReady false s)
    (fun s => s.bounded .store (s.getGr rj) 4 (s.boundGt rj rk)) ∧
  TakesWpem (.fstgtD fd rj rk) (fun s => s.cfg.la64 = true ∧ FpReady true s)
    (fun s => s.bounded .store (s.getGr rj) 8 (s.boundGt rj rk)) ∧
  TakesWpem (.fstleS fd rj rk) (fun s => s.cfg.la64 = true ∧ FpReady false s)
    (fun s => s.bounded .store (s.getGr rj) 4 (s.boundLe rj rk)) ∧
  TakesWpem (.fstleD fd rj rk) (fun s => s.cfg.la64 = true ∧ FpReady true s)
    (fun s => s.bounded .store (s.getGr rj) 8 (s.boundLe rj rk))

/-- Results of the eight CRC instructions, which take INE in LA32 (decision D44, log 45). On LA64 each CRC.W and CRCC.W
instruction completes and writes to GR[rd] the sign-extended 32-bit checksum that the reflected update with the IEEE
802.3 or the Castagnoli polynomial gives for the low 8, 16, 32 or 64 bits of GR[rj] and the low word of GR[rk];
nothing else changes but the pc. In LA32 each raises INE. R600-R608. The update itself is the spec's general
knowledge G5 (log 26): PRESUMED. That they take INE in LA32 is R337(b), decision D44 (log 45). The entry of an
exception is R851 and R846: with VS other than 0 by decision D76 (log 63), the debug registers log 44. -/
def Obligations.CrcResults : Prop :=
  ∀ (rd rj rk : Reg),
  WritesGr64 (.crcWBW rd rj rk) rd (fun s => BitVec.ofInt 64 (crcOf 0xEDB88320#32 8 (s.getGr rj)
    ((s.getGr rk).setWidth 32)).toInt) ∧
  WritesGr64 (.crcWHW rd rj rk) rd (fun s => BitVec.ofInt 64 (crcOf 0xEDB88320#32 16 (s.getGr rj)
    ((s.getGr rk).setWidth 32)).toInt) ∧
  WritesGr64 (.crcWWW rd rj rk) rd (fun s => BitVec.ofInt 64 (crcOf 0xEDB88320#32 32 (s.getGr rj)
    ((s.getGr rk).setWidth 32)).toInt) ∧
  WritesGr64 (.crcWDW rd rj rk) rd (fun s => BitVec.ofInt 64 (crcOf 0xEDB88320#32 64 (s.getGr rj)
    ((s.getGr rk).setWidth 32)).toInt) ∧
  WritesGr64 (.crccWBW rd rj rk) rd (fun s => BitVec.ofInt 64 (crcOf 0x82F63B78#32 8 (s.getGr rj)
    ((s.getGr rk).setWidth 32)).toInt) ∧
  WritesGr64 (.crccWHW rd rj rk) rd (fun s => BitVec.ofInt 64 (crcOf 0x82F63B78#32 16 (s.getGr rj)
    ((s.getGr rk).setWidth 32)).toInt) ∧
  WritesGr64 (.crccWWW rd rj rk) rd (fun s => BitVec.ofInt 64 (crcOf 0x82F63B78#32 32 (s.getGr rj)
    ((s.getGr rk).setWidth 32)).toInt) ∧
  WritesGr64 (.crccWDW rd rj rk) rd (fun s => BitVec.ofInt 64 (crcOf 0x82F63B78#32 64 (s.getGr rj)
    ((s.getGr rk).setWidth 32)).toInt)

/-- SYSCALL and BREAK take exceptions 0xB and 0xC at every privilege level. In every state SYSCALL takes the general
exception 0xB and BREAK the general exception 0xC: mode and pc saved to PRMD and ERA, PLV, IE and WE cleared, Ecode
and EsubCode written, BADI = the instruction word, BADV and all else unchanged, pc = the entry, whatever the code.
R609, R610; the entry is that of R851 and R846, the registers it writes R845. The entry address for VS other than 0
is decision D76 (log 63), what debug mode records is log 44. -/
def Obligations.SyscallAndBreakTakeTheirExceptions : Prop :=
  ∀ (code : BitVec 15),
  Traps (.syscall code) Always 0xB#6 0#9 keepBadv ∧
  Traps (.brk code) Always 0xC#6 0#9 keepBadv

/-- RDTIMEL.W, RDTIMEH.W, RDTIME.D and CPUCFG: what they deliver, and when RDTIME raises IPE. With LLFTP, at PLV0 or
with MISC.DRDTLn = 0, each RDTIME form completes: GR[rj] = TID zero-extended, GR[rd] = the low word, the high word
(both sign-extended) or all of StableCounter + CNTC modulo 2^64 (the ID wins where rd = rj: D54); with DRDTLn = 1 at
PLVn it raises IPE. CPUCFG in every state delivers the sign-extended configuration word whose number is GR[rj],
every field as the parameters say, 0 for an undefined word or field (D55). Nothing else changes but the pc.
R611-R614, R620-R632. That the ID wins and that undefined fields read 0 (log 66) are the spec's decisions D54, D55;
hexadecimal word numbers: log 25. The entry of an exception is R851 and R846: with VS other than 0 by decision D76
(log 63), the debug registers log 44. -/
def Obligations.TimeAndConfigurationReads : Prop :=
  ∀ (rd rj : Reg),
  (∀ s : State, s.cfg.hasLlftp = true → (s.plv = 0#2 ∨ s.csr.misc.getLsbD (4 + s.plv.toNat) = false) →
    ∃ t, exec (.rdtimelW rd rj) s = .next t ∧ GrIs s t rj (BitVec.ofNat 64 s.timer.tid.toNat) ∧
      (rd ≠ rj ∨ rj = 0#5 → GrIs s t rd (wordOf (s.timer.stableCounter.toInt + (s.cfg.normGr s.timer.cntc).toInt))) ∧
      (∀ r, r ≠ rd → r ≠ rj → t.getGr r = s.getGr r) ∧ AtNext s t ∧ SameButGr s t) ∧
  TrapsIpe (.rdtimelW rd rj) (fun s => s.cfg.hasLlftp = true ∧ s.plv ≠ 0#2 ∧
    s.csr.misc.getLsbD (4 + s.plv.toNat) = true) ∧
  (∀ s : State, s.cfg.hasLlftp = true → (s.plv = 0#2 ∨ s.csr.misc.getLsbD (4 + s.plv.toNat) = false) →
    ∃ t, exec (.rdtimehW rd rj) s = .next t ∧ GrIs s t rj (BitVec.ofNat 64 s.timer.tid.toNat) ∧
      (rd ≠ rj ∨ rj = 0#5 →
        GrIs s t rd (wordOf ((s.timer.stableCounter.toInt + (s.cfg.normGr s.timer.cntc).toInt) / 2 ^ 32))) ∧
      (∀ r, r ≠ rd → r ≠ rj → t.getGr r = s.getGr r) ∧ AtNext s t ∧ SameButGr s t) ∧
  TrapsIpe (.rdtimehW rd rj) (fun s => s.cfg.hasLlftp = true ∧ s.plv ≠ 0#2 ∧
    s.csr.misc.getLsbD (4 + s.plv.toNat) = true) ∧
  (∀ s : State, s.cfg.la64 = true → s.cfg.hasLlftp = true → (s.plv = 0#2 ∨
    s.csr.misc.getLsbD (4 + s.plv.toNat) = false) →
    ∃ t, exec (.rdtimeD rd rj) s = .next t ∧ GrIs s t rj (BitVec.ofNat 64 s.timer.tid.toNat) ∧
      (rd ≠ rj ∨ rj = 0#5 → GrIs s t rd (dwordOf (s.timer.stableCounter.toInt + (s.cfg.normGr s.timer.cntc).toInt))) ∧
      (∀ r, r ≠ rd → r ≠ rj → t.getGr r = s.getGr r) ∧ AtNext s t ∧ SameButGr s t) ∧
  TrapsIpe (.rdtimeD rd rj) (fun s => s.cfg.la64 = true ∧ s.cfg.hasLlftp = true ∧ s.plv ≠ 0#2 ∧
    s.csr.misc.getLsbD (4 + s.plv.toNat) = true) ∧
  WritesGrSomeAll (.cpucfg rd rj) rd (fun s v => ∃ w, v = BitVec.ofInt 64 w.toInt ∧
    CpucfgIs s.cfg (s.cfg.wrap (s.getGr rj)).toNat w)

/-- Instructions the instance lacks, and operand values without meaning, take INE. In every such state: a load, store,
atomic, floating-point memory, GR-FR doubleword move, ASRT, RDTIME.D or IOCSR doubleword instruction of LA64 in
LA32; an AM* instruction without LAM or with rd = rj; a floating-point instruction without the unit, or without
double precision where it needs it; RDTIME without LLFTP; IOCSR access, page walk or TLB instructions without their
unit; at PLV0 INVTLB with op above 6; FCMP with one of the ten condition codes that are not in Table 9: each takes
INE (0xD), BADI = the word, BADV unchanged, no other effect. R337, R343, R644, R572 (as conflict C27 reads it, log
24), R802. That an absent instruction takes INE is decision D44 (log 45), the FCMP conditions are D63 (log 51), the
doubleword moves D65 (log 45). The entry of an exception is R851 and R846: with VS other than 0 by decision D76 (log
63), the debug registers log 44. -/
def Obligations.AbsentInstructionsTakeIne : Prop :=
  ∀ (fd rd fj rj fk rk fa : Reg) (lsbd : BitVec 6) (msbd : BitVec 6) (i12 : BitVec 12) (i14 : BitVec 14)
    (cd : BitVec 3) (cond : BitVec 5) (ca : BitVec 3) (fcsr : BitVec 5) (cj : BitVec 3) (offs : BitVec 21)
      (i8 : BitVec 8) (seq : BitVec 8) (op : BitVec 5),
  (TrapsIne (.divD rd rj rk) (fun s => s.cfg.la64 = false) ∧
   TrapsIne (.modD rd rj rk) (fun s => s.cfg.la64 = false) ∧
   TrapsIne (.divDu rd rj rk) (fun s => s.cfg.la64 = false) ∧
   TrapsIne (.modDu rd rj rk) (fun s => s.cfg.la64 = false) ∧
   TrapsIne (.bstrinsD rd rj lsbd msbd) (fun s => s.cfg.la64 = false) ∧
   TrapsIne (.bstrpickD rd rj lsbd msbd) (fun s => s.cfg.la64 = false) ∧
   TrapsIne (.ldD rd rj i12) (fun s => s.cfg.la64 = false) ∧
   TrapsIne (.ldWu rd rj i12) (fun s => s.cfg.la64 = false) ∧
   TrapsIne (.stD rd rj i12) (fun s => s.cfg.la64 = false) ∧
   TrapsIne (.ldxB rd rj rk) (fun s => s.cfg.la64 = false) ∧
   TrapsIne (.ldxH rd rj rk) (fun s => s.cfg.la64 = false) ∧
   TrapsIne (.ldxW rd rj rk) (fun s => s.cfg.la64 = false) ∧
   TrapsIne (.ldxD rd rj rk) (fun s => s.cfg.la64 = false) ∧
   TrapsIne (.ldxBu rd rj rk) (fun s => s.cfg.la64 = false) ∧
   TrapsIne (.ldxHu rd rj rk) (fun s => s.cfg.la64 = false) ∧
   TrapsIne (.ldxWu rd rj rk) (fun s => s.cfg.la64 = false) ∧
   TrapsIne (.stxB rd rj rk) (fun s => s.cfg.la64 = false) ∧
   TrapsIne (.stxH rd rj rk) (fun s => s.cfg.la64 = false) ∧
   TrapsIne (.stxW rd rj rk) (fun s => s.cfg.la64 = false) ∧
   TrapsIne (.stxD rd rj rk) (fun s => s.cfg.la64 = false) ∧
   TrapsIne (.ldptrW rd rj i14) (fun s => s.cfg.la64 = false) ∧
   TrapsIne (.ldptrD rd rj i14) (fun s => s.cfg.la64 = false) ∧
   TrapsIne (.stptrW rd rj i14) (fun s => s.cfg.la64 = false) ∧
   TrapsIne (.stptrD rd rj i14) (fun s => s.cfg.la64 = false) ∧
   TrapsIne (.ldgtB rd rj rk) (fun s => s.cfg.la64 = false) ∧
   TrapsIne (.ldgtH rd rj rk) (fun s => s.cfg.la64 = false) ∧
   TrapsIne (.ldgtW rd rj rk) (fun s => s.cfg.la64 = false) ∧
   TrapsIne (.ldgtD rd rj rk) (fun s => s.cfg.la64 = false) ∧
   TrapsIne (.ldleB rd rj rk) (fun s => s.cfg.la64 = false) ∧
   TrapsIne (.ldleH rd rj rk) (fun s => s.cfg.la64 = false) ∧
   TrapsIne (.ldleW rd rj rk) (fun s => s.cfg.la64 = false) ∧
   TrapsIne (.ldleD rd rj rk) (fun s => s.cfg.la64 = false) ∧
   TrapsIne (.stgtB rd rj rk) (fun s => s.cfg.la64 = false) ∧
   TrapsIne (.stgtH rd rj rk) (fun s => s.cfg.la64 = false) ∧
   TrapsIne (.stgtW rd rj rk) (fun s => s.cfg.la64 = false) ∧
   TrapsIne (.stgtD rd rj rk) (fun s => s.cfg.la64 = false) ∧
   TrapsIne (.stleB rd rj rk) (fun s => s.cfg.la64 = false) ∧
   TrapsIne (.stleH rd rj rk) (fun s => s.cfg.la64 = false) ∧
   TrapsIne (.stleW rd rj rk) (fun s => s.cfg.la64 = false) ∧
   TrapsIne (.stleD rd rj rk) (fun s => s.cfg.la64 = false) ∧
   TrapsIne (.amswapW rd rj rk) (fun s => s.cfg.la64 = false) ∧
   TrapsIne (.amswapD rd rj rk) (fun s => s.cfg.la64 = false) ∧
   TrapsIne (.amaddW rd rj rk) (fun s => s.cfg.la64 = false) ∧
   TrapsIne (.amaddD rd rj rk) (fun s => s.cfg.la64 = false) ∧
   TrapsIne (.amandW rd rj rk) (fun s => s.cfg.la64 = false) ∧
   TrapsIne (.amandD rd rj rk) (fun s => s.cfg.la64 = false) ∧
   TrapsIne (.amorW rd rj rk) (fun s => s.cfg.la64 = false) ∧
   TrapsIne (.amorD rd rj rk) (fun s => s.cfg.la64 = false) ∧
   TrapsIne (.amxorW rd rj rk) (fun s => s.cfg.la64 = false) ∧
   TrapsIne (.amxorD rd rj rk) (fun s => s.cfg.la64 = false) ∧
   TrapsIne (.ammaxW rd rj rk) (fun s => s.cfg.la64 = false) ∧
   TrapsIne (.ammaxD rd rj rk) (fun s => s.cfg.la64 = false) ∧
   TrapsIne (.amminW rd rj rk) (fun s => s.cfg.la64 = false) ∧
   TrapsIne (.amminD rd rj rk) (fun s => s.cfg.la64 = false) ∧
   TrapsIne (.ammaxWu rd rj rk) (fun s => s.cfg.la64 = false) ∧
   TrapsIne (.ammaxDu rd rj rk) (fun s => s.cfg.la64 = false) ∧
   TrapsIne (.amminWu rd rj rk) (fun s => s.cfg.la64 = false) ∧
   TrapsIne (.amminDu rd rj rk) (fun s => s.cfg.la64 = false) ∧
   TrapsIne (.amswapDbW rd rj rk) (fun s => s.cfg.la64 = false) ∧
   TrapsIne (.amswapDbD rd rj rk) (fun s => s.cfg.la64 = false) ∧
   TrapsIne (.amaddDbW rd rj rk) (fun s => s.cfg.la64 = false) ∧
   TrapsIne (.amaddDbD rd rj rk) (fun s => s.cfg.la64 = false) ∧
   TrapsIne (.amandDbW rd rj rk) (fun s => s.cfg.la64 = false) ∧
   TrapsIne (.amandDbD rd rj rk) (fun s => s.cfg.la64 = false) ∧
   TrapsIne (.amorDbW rd rj rk) (fun s => s.cfg.la64 = false) ∧
   TrapsIne (.amorDbD rd rj rk) (fun s => s.cfg.la64 = false) ∧
   TrapsIne (.amxorDbW rd rj rk) (fun s => s.cfg.la64 = false) ∧
   TrapsIne (.amxorDbD rd rj rk) (fun s => s.cfg.la64 = false) ∧
   TrapsIne (.ammaxDbW rd rj rk) (fun s => s.cfg.la64 = false) ∧
   TrapsIne (.ammaxDbD rd rj rk) (fun s => s.cfg.la64 = false) ∧
   TrapsIne (.amminDbW rd rj rk) (fun s => s.cfg.la64 = false) ∧
   TrapsIne (.amminDbD rd rj rk) (fun s => s.cfg.la64 = false) ∧
   TrapsIne (.ammaxDbWu rd rj rk) (fun s => s.cfg.la64 = false) ∧
   TrapsIne (.ammaxDbDu rd rj rk) (fun s => s.cfg.la64 = false) ∧
   TrapsIne (.amminDbWu rd rj rk) (fun s => s.cfg.la64 = false) ∧
   TrapsIne (.amminDbDu rd rj rk) (fun s => s.cfg.la64 = false) ∧
   TrapsIne (.llD rd rj i14) (fun s => s.cfg.la64 = false) ∧
   TrapsIne (.scD rd rj i14) (fun s => s.cfg.la64 = false) ∧
   TrapsIne (.asrtleD rj rk) (fun s => s.cfg.la64 = false) ∧
   TrapsIne (.asrtgtD rj rk) (fun s => s.cfg.la64 = false) ∧
   TrapsIne (.rdtimeD rd rj) (fun s => s.cfg.la64 = false) ∧
   TrapsIne (.fldxS fd rj rk) (fun s => s.cfg.la64 = false) ∧
   TrapsIne (.fldxD fd rj rk) (fun s => s.cfg.la64 = false) ∧
   TrapsIne (.fstxS fd rj rk) (fun s => s.cfg.la64 = false) ∧
   TrapsIne (.fstxD fd rj rk) (fun s => s.cfg.la64 = false) ∧
   TrapsIne (.fldgtS fd rj rk) (fun s => s.cfg.la64 = false) ∧
   TrapsIne (.fldgtD fd rj rk) (fun s => s.cfg.la64 = false) ∧
   TrapsIne (.fldleS fd rj rk) (fun s => s.cfg.la64 = false) ∧
   TrapsIne (.fldleD fd rj rk) (fun s => s.cfg.la64 = false) ∧
   TrapsIne (.fstgtS fd rj rk) (fun s => s.cfg.la64 = false) ∧
   TrapsIne (.fstgtD fd rj rk) (fun s => s.cfg.la64 = false) ∧
   TrapsIne (.fstleS fd rj rk) (fun s => s.cfg.la64 = false) ∧
   TrapsIne (.fstleD fd rj rk) (fun s => s.cfg.la64 = false) ∧
   TrapsIne (.iocsrrdD rd rj) (fun s => s.cfg.la64 = false) ∧
   TrapsIne (.iocsrwrD rd rj) (fun s => s.cfg.la64 = false) ∧
   TrapsIne (.movgr2frD fd rj) (fun s => s.cfg.la64 = false) ∧
   TrapsIne (.movfr2grD rd fj) (fun s => s.cfg.la64 = false)) ∧
  (TrapsIne (.amswapW rd rj rk) (fun s => s.cfg.la64 = true ∧ (s.cfg.hasLam = false ∨ rd = rj)) ∧
   TrapsIne (.amswapD rd rj rk) (fun s => s.cfg.la64 = true ∧ (s.cfg.hasLam = false ∨ rd = rj)) ∧
   TrapsIne (.amaddW rd rj rk) (fun s => s.cfg.la64 = true ∧ (s.cfg.hasLam = false ∨ rd = rj)) ∧
   TrapsIne (.amaddD rd rj rk) (fun s => s.cfg.la64 = true ∧ (s.cfg.hasLam = false ∨ rd = rj)) ∧
   TrapsIne (.amandW rd rj rk) (fun s => s.cfg.la64 = true ∧ (s.cfg.hasLam = false ∨ rd = rj)) ∧
   TrapsIne (.amandD rd rj rk) (fun s => s.cfg.la64 = true ∧ (s.cfg.hasLam = false ∨ rd = rj)) ∧
   TrapsIne (.amorW rd rj rk) (fun s => s.cfg.la64 = true ∧ (s.cfg.hasLam = false ∨ rd = rj)) ∧
   TrapsIne (.amorD rd rj rk) (fun s => s.cfg.la64 = true ∧ (s.cfg.hasLam = false ∨ rd = rj)) ∧
   TrapsIne (.amxorW rd rj rk) (fun s => s.cfg.la64 = true ∧ (s.cfg.hasLam = false ∨ rd = rj)) ∧
   TrapsIne (.amxorD rd rj rk) (fun s => s.cfg.la64 = true ∧ (s.cfg.hasLam = false ∨ rd = rj)) ∧
   TrapsIne (.ammaxW rd rj rk) (fun s => s.cfg.la64 = true ∧ (s.cfg.hasLam = false ∨ rd = rj)) ∧
   TrapsIne (.ammaxD rd rj rk) (fun s => s.cfg.la64 = true ∧ (s.cfg.hasLam = false ∨ rd = rj)) ∧
   TrapsIne (.amminW rd rj rk) (fun s => s.cfg.la64 = true ∧ (s.cfg.hasLam = false ∨ rd = rj)) ∧
   TrapsIne (.amminD rd rj rk) (fun s => s.cfg.la64 = true ∧ (s.cfg.hasLam = false ∨ rd = rj)) ∧
   TrapsIne (.ammaxWu rd rj rk) (fun s => s.cfg.la64 = true ∧ (s.cfg.hasLam = false ∨ rd = rj)) ∧
   TrapsIne (.ammaxDu rd rj rk) (fun s => s.cfg.la64 = true ∧ (s.cfg.hasLam = false ∨ rd = rj)) ∧
   TrapsIne (.amminWu rd rj rk) (fun s => s.cfg.la64 = true ∧ (s.cfg.hasLam = false ∨ rd = rj)) ∧
   TrapsIne (.amminDu rd rj rk) (fun s => s.cfg.la64 = true ∧ (s.cfg.hasLam = false ∨ rd = rj)) ∧
   TrapsIne (.amswapDbW rd rj rk) (fun s => s.cfg.la64 = true ∧ (s.cfg.hasLam = false ∨ rd = rj)) ∧
   TrapsIne (.amswapDbD rd rj rk) (fun s => s.cfg.la64 = true ∧ (s.cfg.hasLam = false ∨ rd = rj)) ∧
   TrapsIne (.amaddDbW rd rj rk) (fun s => s.cfg.la64 = true ∧ (s.cfg.hasLam = false ∨ rd = rj)) ∧
   TrapsIne (.amaddDbD rd rj rk) (fun s => s.cfg.la64 = true ∧ (s.cfg.hasLam = false ∨ rd = rj)) ∧
   TrapsIne (.amandDbW rd rj rk) (fun s => s.cfg.la64 = true ∧ (s.cfg.hasLam = false ∨ rd = rj)) ∧
   TrapsIne (.amandDbD rd rj rk) (fun s => s.cfg.la64 = true ∧ (s.cfg.hasLam = false ∨ rd = rj)) ∧
   TrapsIne (.amorDbW rd rj rk) (fun s => s.cfg.la64 = true ∧ (s.cfg.hasLam = false ∨ rd = rj)) ∧
   TrapsIne (.amorDbD rd rj rk) (fun s => s.cfg.la64 = true ∧ (s.cfg.hasLam = false ∨ rd = rj)) ∧
   TrapsIne (.amxorDbW rd rj rk) (fun s => s.cfg.la64 = true ∧ (s.cfg.hasLam = false ∨ rd = rj)) ∧
   TrapsIne (.amxorDbD rd rj rk) (fun s => s.cfg.la64 = true ∧ (s.cfg.hasLam = false ∨ rd = rj)) ∧
   TrapsIne (.ammaxDbW rd rj rk) (fun s => s.cfg.la64 = true ∧ (s.cfg.hasLam = false ∨ rd = rj)) ∧
   TrapsIne (.ammaxDbD rd rj rk) (fun s => s.cfg.la64 = true ∧ (s.cfg.hasLam = false ∨ rd = rj)) ∧
   TrapsIne (.amminDbW rd rj rk) (fun s => s.cfg.la64 = true ∧ (s.cfg.hasLam = false ∨ rd = rj)) ∧
   TrapsIne (.amminDbD rd rj rk) (fun s => s.cfg.la64 = true ∧ (s.cfg.hasLam = false ∨ rd = rj)) ∧
   TrapsIne (.ammaxDbWu rd rj rk) (fun s => s.cfg.la64 = true ∧ (s.cfg.hasLam = false ∨ rd = rj)) ∧
   TrapsIne (.ammaxDbDu rd rj rk) (fun s => s.cfg.la64 = true ∧ (s.cfg.hasLam = false ∨ rd = rj)) ∧
   TrapsIne (.amminDbWu rd rj rk) (fun s => s.cfg.la64 = true ∧ (s.cfg.hasLam = false ∨ rd = rj)) ∧
   TrapsIne (.amminDbDu rd rj rk) (fun s => s.cfg.la64 = true ∧ (s.cfg.hasLam = false ∨ rd = rj))) ∧
  (TrapsIne (.faddS fd fj fk) (fun s => s.cfg.hasFp = false) ∧
   TrapsIne (.fsubS fd fj fk) (fun s => s.cfg.hasFp = false) ∧
   TrapsIne (.fmulS fd fj fk) (fun s => s.cfg.hasFp = false) ∧
   TrapsIne (.fdivS fd fj fk) (fun s => s.cfg.hasFp = false) ∧
   TrapsIne (.fmaddS fd fj fk fa) (fun s => s.cfg.hasFp = false) ∧
   TrapsIne (.fmsubS fd fj fk fa) (fun s => s.cfg.hasFp = false) ∧
   TrapsIne (.fnmaddS fd fj fk fa) (fun s => s.cfg.hasFp = false) ∧
   TrapsIne (.fnmsubS fd fj fk fa) (fun s => s.cfg.hasFp = false) ∧
   TrapsIne (.fmaxS fd fj fk) (fun s => s.cfg.hasFp = false) ∧
   TrapsIne (.fminS fd fj fk) (fun s => s.cfg.hasFp = false) ∧
   TrapsIne (.fmaxaS fd fj fk) (fun s => s.cfg.hasFp = false) ∧
   TrapsIne (.fminaS fd fj fk) (fun s => s.cfg.hasFp = false) ∧
   TrapsIne (.fabsS fd fj) (fun s => s.cfg.hasFp = false) ∧
   TrapsIne (.fnegS fd fj) (fun s => s.cfg.hasFp = false) ∧
   TrapsIne (.fsqrtS fd fj) (fun s => s.cfg.hasFp = false) ∧
   TrapsIne (.frecipS fd fj) (fun s => s.cfg.hasFp = false) ∧
   TrapsIne (.frsqrtS fd fj) (fun s => s.cfg.hasFp = false) ∧
   TrapsIne (.fscalebS fd fj fk) (fun s => s.cfg.hasFp = false) ∧
   TrapsIne (.flogbS fd fj) (fun s => s.cfg.hasFp = false) ∧
   TrapsIne (.fcopysignS fd fj fk) (fun s => s.cfg.hasFp = false) ∧
   TrapsIne (.fclassS fd fj) (fun s => s.cfg.hasFp = false) ∧
   TrapsIne (.fcmpCondS cd fj fk cond) (fun s => s.cfg.hasFp = false) ∧
   TrapsIne (.ffintSW fd fj) (fun s => s.cfg.hasFp = false) ∧
   TrapsIne (.ftintWS fd fj) (fun s => s.cfg.hasFp = false) ∧
   TrapsIne (.ftintrmWS fd fj) (fun s => s.cfg.hasFp = false) ∧
   TrapsIne (.ftintrpWS fd fj) (fun s => s.cfg.hasFp = false) ∧
   TrapsIne (.ftintrzWS fd fj) (fun s => s.cfg.hasFp = false) ∧
   TrapsIne (.ftintrneWS fd fj) (fun s => s.cfg.hasFp = false) ∧
   TrapsIne (.frintS fd fj) (fun s => s.cfg.hasFp = false) ∧
   TrapsIne (.fmovS fd fj) (fun s => s.cfg.hasFp = false) ∧
   TrapsIne (.fsel fd fj fk ca) (fun s => s.cfg.hasFp = false) ∧
   TrapsIne (.movgr2frW fd rj) (fun s => s.cfg.hasFp = false) ∧
   TrapsIne (.movfr2grS rd fj) (fun s => s.cfg.hasFp = false) ∧
   TrapsIne (.movgr2fcsr fcsr rj) (fun s => s.cfg.hasFp = false) ∧
   TrapsIne (.movfcsr2gr rd fcsr) (fun s => s.cfg.hasFp = false) ∧
   TrapsIne (.movfr2cf cd fj) (fun s => s.cfg.hasFp = false) ∧
   TrapsIne (.movcf2fr fd cj) (fun s => s.cfg.hasFp = false) ∧
   TrapsIne (.movgr2cf cd rj) (fun s => s.cfg.hasFp = false) ∧
   TrapsIne (.movcf2gr rd cj) (fun s => s.cfg.hasFp = false) ∧
   TrapsIne (.bceqz cj offs) (fun s => s.cfg.hasFp = false) ∧
   TrapsIne (.bcnez cj offs) (fun s => s.cfg.hasFp = false) ∧
   TrapsIne (.fldS fd rj i12) (fun s => s.cfg.hasFp = false) ∧
   TrapsIne (.fstS fd rj i12) (fun s => s.cfg.hasFp = false) ∧
   TrapsIne (.faddD fd fj fk) (fun s => s.cfg.hasFp = false ∨ s.cfg.hasFpDp = false) ∧
   TrapsIne (.fsubD fd fj fk) (fun s => s.cfg.hasFp = false ∨ s.cfg.hasFpDp = false) ∧
   TrapsIne (.fmulD fd fj fk) (fun s => s.cfg.hasFp = false ∨ s.cfg.hasFpDp = false) ∧
   TrapsIne (.fdivD fd fj fk) (fun s => s.cfg.hasFp = false ∨ s.cfg.hasFpDp = false) ∧
   TrapsIne (.fmaddD fd fj fk fa) (fun s => s.cfg.hasFp = false ∨ s.cfg.hasFpDp = false) ∧
   TrapsIne (.fmsubD fd fj fk fa) (fun s => s.cfg.hasFp = false ∨ s.cfg.hasFpDp = false) ∧
   TrapsIne (.fnmaddD fd fj fk fa) (fun s => s.cfg.hasFp = false ∨ s.cfg.hasFpDp = false) ∧
   TrapsIne (.fnmsubD fd fj fk fa) (fun s => s.cfg.hasFp = false ∨ s.cfg.hasFpDp = false) ∧
   TrapsIne (.fmaxD fd fj fk) (fun s => s.cfg.hasFp = false ∨ s.cfg.hasFpDp = false) ∧
   TrapsIne (.fminD fd fj fk) (fun s => s.cfg.hasFp = false ∨ s.cfg.hasFpDp = false) ∧
   TrapsIne (.fmaxaD fd fj fk) (fun s => s.cfg.hasFp = false ∨ s.cfg.hasFpDp = false) ∧
   TrapsIne (.fminaD fd fj fk) (fun s => s.cfg.hasFp = false ∨ s.cfg.hasFpDp = false) ∧
   TrapsIne (.fabsD fd fj) (fun s => s.cfg.hasFp = false ∨ s.cfg.hasFpDp = false) ∧
   TrapsIne (.fnegD fd fj) (fun s => s.cfg.hasFp = false ∨ s.cfg.hasFpDp = false) ∧
   TrapsIne (.fsqrtD fd fj) (fun s => s.cfg.hasFp = false ∨ s.cfg.hasFpDp = false) ∧
   TrapsIne (.frecipD fd fj) (fun s => s.cfg.hasFp = false ∨ s.cfg.hasFpDp = false) ∧
   TrapsIne (.frsqrtD fd fj) (fun s => s.cfg.hasFp = false ∨ s.cfg.hasFpDp = false) ∧
   TrapsIne (.fscalebD fd fj fk) (fun s => s.cfg.hasFp = false ∨ s.cfg.hasFpDp = false) ∧
   TrapsIne (.flogbD fd fj) (fun s => s.cfg.hasFp = false ∨ s.cfg.hasFpDp = false) ∧
   TrapsIne (.fcopysignD fd fj fk) (fun s => s.cfg.hasFp = false ∨ s.cfg.hasFpDp = false) ∧
   TrapsIne (.fclassD fd fj) (fun s => s.cfg.hasFp = false ∨ s.cfg.hasFpDp = false) ∧
   TrapsIne (.fcmpCondD cd fj fk cond) (fun s => s.cfg.hasFp = false ∨ s.cfg.hasFpDp = false) ∧
   TrapsIne (.fcvtSD fd fj) (fun s => s.cfg.hasFp = false ∨ s.cfg.hasFpDp = false) ∧
   TrapsIne (.fcvtDS fd fj) (fun s => s.cfg.hasFp = false ∨ s.cfg.hasFpDp = false) ∧
   TrapsIne (.ffintSL fd fj) (fun s => s.cfg.hasFp = false ∨ s.cfg.hasFpDp = false) ∧
   TrapsIne (.ffintDW fd fj) (fun s => s.cfg.hasFp = false ∨ s.cfg.hasFpDp = false) ∧
   TrapsIne (.ffintDL fd fj) (fun s => s.cfg.hasFp = false ∨ s.cfg.hasFpDp = false) ∧
   TrapsIne (.ftintWD fd fj) (fun s => s.cfg.hasFp = false ∨ s.cfg.hasFpDp = false) ∧
   TrapsIne (.ftintLS fd fj) (fun s => s.cfg.hasFp = false ∨ s.cfg.hasFpDp = false) ∧
   TrapsIne (.ftintLD fd fj) (fun s => s.cfg.hasFp = false ∨ s.cfg.hasFpDp = false) ∧
   TrapsIne (.ftintrmWD fd fj) (fun s => s.cfg.hasFp = false ∨ s.cfg.hasFpDp = false) ∧
   TrapsIne (.ftintrmLS fd fj) (fun s => s.cfg.hasFp = false ∨ s.cfg.hasFpDp = false) ∧
   TrapsIne (.ftintrmLD fd fj) (fun s => s.cfg.hasFp = false ∨ s.cfg.hasFpDp = false) ∧
   TrapsIne (.ftintrpWD fd fj) (fun s => s.cfg.hasFp = false ∨ s.cfg.hasFpDp = false) ∧
   TrapsIne (.ftintrpLS fd fj) (fun s => s.cfg.hasFp = false ∨ s.cfg.hasFpDp = false) ∧
   TrapsIne (.ftintrpLD fd fj) (fun s => s.cfg.hasFp = false ∨ s.cfg.hasFpDp = false) ∧
   TrapsIne (.ftintrzWD fd fj) (fun s => s.cfg.hasFp = false ∨ s.cfg.hasFpDp = false) ∧
   TrapsIne (.ftintrzLS fd fj) (fun s => s.cfg.hasFp = false ∨ s.cfg.hasFpDp = false) ∧
   TrapsIne (.ftintrzLD fd fj) (fun s => s.cfg.hasFp = false ∨ s.cfg.hasFpDp = false) ∧
   TrapsIne (.ftintrneWD fd fj) (fun s => s.cfg.hasFp = false ∨ s.cfg.hasFpDp = false) ∧
   TrapsIne (.ftintrneLS fd fj) (fun s => s.cfg.hasFp = false ∨ s.cfg.hasFpDp = false) ∧
   TrapsIne (.ftintrneLD fd fj) (fun s => s.cfg.hasFp = false ∨ s.cfg.hasFpDp = false) ∧
   TrapsIne (.frintD fd fj) (fun s => s.cfg.hasFp = false ∨ s.cfg.hasFpDp = false) ∧
   TrapsIne (.fmovD fd fj) (fun s => s.cfg.hasFp = false ∨ s.cfg.hasFpDp = false) ∧
   TrapsIne (.movgr2frD fd rj) (fun s => s.cfg.hasFp = false ∨ s.cfg.hasFpDp = false) ∧
   TrapsIne (.movgr2frhW fd rj) (fun s => s.cfg.hasFp = false ∨ s.cfg.hasFpDp = false) ∧
   TrapsIne (.movfr2grD rd fj) (fun s => s.cfg.hasFp = false ∨ s.cfg.hasFpDp = false) ∧
   TrapsIne (.movfrh2grS rd fj) (fun s => s.cfg.hasFp = false ∨ s.cfg.hasFpDp = false) ∧
   TrapsIne (.fldD fd rj i12) (fun s => s.cfg.hasFp = false ∨ s.cfg.hasFpDp = false) ∧
   TrapsIne (.fstD fd rj i12) (fun s => s.cfg.hasFp = false ∨ s.cfg.hasFpDp = false) ∧
   TrapsIne (.fldxS fd rj rk) (fun s => s.cfg.hasFp = false) ∧
   TrapsIne (.fstxS fd rj rk) (fun s => s.cfg.hasFp = false) ∧
   TrapsIne (.fldgtS fd rj rk) (fun s => s.cfg.hasFp = false) ∧
   TrapsIne (.fldleS fd rj rk) (fun s => s.cfg.hasFp = false) ∧
   TrapsIne (.fstgtS fd rj rk) (fun s => s.cfg.hasFp = false) ∧
   TrapsIne (.fstleS fd rj rk) (fun s => s.cfg.hasFp = false) ∧
   TrapsIne (.fldxD fd rj rk) (fun s => s.cfg.hasFp = false ∨ s.cfg.hasFpDp = false) ∧
   TrapsIne (.fstxD fd rj rk) (fun s => s.cfg.hasFp = false ∨ s.cfg.hasFpDp = false) ∧
   TrapsIne (.fldgtD fd rj rk) (fun s => s.cfg.hasFp = false ∨ s.cfg.hasFpDp = false) ∧
   TrapsIne (.fldleD fd rj rk) (fun s => s.cfg.hasFp = false ∨ s.cfg.hasFpDp = false) ∧
   TrapsIne (.fstgtD fd rj rk) (fun s => s.cfg.hasFp = false ∨ s.cfg.hasFpDp = false) ∧
   TrapsIne (.fstleD fd rj rk) (fun s => s.cfg.hasFp = false ∨ s.cfg.hasFpDp = false)) ∧
  (TrapsIne (.rdtimelW rd rj) (fun s => s.cfg.hasLlftp = false) ∧
   TrapsIne (.rdtimehW rd rj) (fun s => s.cfg.hasLlftp = false) ∧
   TrapsIne (.rdtimeD rd rj) (fun s => s.cfg.hasLlftp = false) ∧
   TrapsIne (.iocsrrdB rd rj) (fun s => s.cfg.hasIocsr = false) ∧
   TrapsIne (.iocsrrdH rd rj) (fun s => s.cfg.hasIocsr = false) ∧
   TrapsIne (.iocsrrdW rd rj) (fun s => s.cfg.hasIocsr = false) ∧
   TrapsIne (.iocsrrdD rd rj) (fun s => s.cfg.hasIocsr = false) ∧
   TrapsIne (.iocsrwrB rd rj) (fun s => s.cfg.hasIocsr = false) ∧
   TrapsIne (.iocsrwrH rd rj) (fun s => s.cfg.hasIocsr = false) ∧
   TrapsIne (.iocsrwrW rd rj) (fun s => s.cfg.hasIocsr = false) ∧
   TrapsIne (.iocsrwrD rd rj) (fun s => s.cfg.hasIocsr = false) ∧
   TrapsIne (.lddir rd rj i8) (fun s => s.cfg.hasLspw = false) ∧
   TrapsIne (.ldpte rj seq) (fun s => s.cfg.hasLspw = false) ∧
   TrapsIne .tlbsrch (fun s => s.cfg.hasPgmmu = false ∨ s.cfg.tlbType = 0) ∧
   TrapsIne .tlbrd (fun s => s.cfg.hasPgmmu = false ∨ s.cfg.tlbType = 0) ∧
   TrapsIne .tlbwr (fun s => s.cfg.hasPgmmu = false ∨ s.cfg.tlbType = 0) ∧
   TrapsIne .tlbfill (fun s => s.cfg.hasPgmmu = false ∨ s.cfg.tlbType = 0) ∧
   TrapsIne .tlbclr (fun s => s.cfg.hasPgmmu = false ∨ s.cfg.tlbType = 0) ∧
   TrapsIne .tlbflush (fun s => s.cfg.hasPgmmu = false ∨ s.cfg.tlbType = 0) ∧
   TrapsIne (.invtlb op rj rk) (fun s => s.cfg.hasPgmmu = false ∨ s.cfg.tlbType = 0) ∧
   TrapsIne (.invtlb op rj rk) (fun s => s.plv = 0#2 ∧ 6 < op.toNat) ∧
   TrapsIne (.fcmpCondS cd fj fk cond) (fun _ => cond ∈
     ([0x12#5, 0x13#5, 0x16#5, 0x17#5, 0x1A#5, 0x1B#5, 0x1C#5, 0x1D#5, 0x1E#5, 0x1F#5] : List (BitVec 5))) ∧
   TrapsIne (.fcmpCondD cd fj fk cond) (fun _ => cond ∈
     ([0x12#5, 0x13#5, 0x16#5, 0x17#5, 0x1A#5, 0x1B#5, 0x1C#5, 0x1D#5, 0x1E#5, 0x1F#5] : List (BitVec 5))))

/-- Every privileged instruction of the instance takes IPE below PLV0. At PLV1, PLV2 and PLV3 each privileged
instruction that the instance has (CSRWR, CSRXCHG, IOCSR reads and writes, CACOP, the TLB instructions, LDDIR,
LDPTE, ERTN, DBCL by decision D74, IDLE) takes IPE (0xE) with no other effect; so does CSRRD, unless MISC.RPCNTLn is
1 and the number is that of an implemented performance counter. R780, R194. DBCL is privileged by decision D74 (log
21). The entry of an exception is R851 and R846: with VS other than 0 by decision D76 (log 63), the debug registers
log 44. -/
def Obligations.PrivilegedInstructionsTakeIpe : Prop :=
  ∀ (rd rj rk : Reg) (csr : BitVec 14) (op : BitVec 5) (si12 : BitVec 12) (i8 : BitVec 8) (seq : BitVec 8)
    (code : BitVec 15),
  TrapsIpe (.csrwr rd csr) (fun s => s.plv ≠ 0#2) ∧
  TrapsIpe (.csrxchg rd rj csr) (fun s => s.plv ≠ 0#2) ∧
  TrapsIpe (.iocsrrdB rd rj) (fun s => s.cfg.hasIocsr = true ∧ s.plv ≠ 0#2) ∧
  TrapsIpe (.iocsrrdH rd rj) (fun s => s.cfg.hasIocsr = true ∧ s.plv ≠ 0#2) ∧
  TrapsIpe (.iocsrrdW rd rj) (fun s => s.cfg.hasIocsr = true ∧ s.plv ≠ 0#2) ∧
  TrapsIpe (.iocsrrdD rd rj) (fun s => s.cfg.la64 = true ∧ s.cfg.hasIocsr = true ∧ s.plv ≠ 0#2) ∧
  TrapsIpe (.iocsrwrB rd rj) (fun s => s.cfg.hasIocsr = true ∧ s.plv ≠ 0#2) ∧
  TrapsIpe (.iocsrwrH rd rj) (fun s => s.cfg.hasIocsr = true ∧ s.plv ≠ 0#2) ∧
  TrapsIpe (.iocsrwrW rd rj) (fun s => s.cfg.hasIocsr = true ∧ s.plv ≠ 0#2) ∧
  TrapsIpe (.iocsrwrD rd rj) (fun s => s.cfg.la64 = true ∧ s.cfg.hasIocsr = true ∧ s.plv ≠ 0#2) ∧
  TrapsIpe (.cacop op rj si12) (fun s => s.plv ≠ 0#2) ∧
  TrapsIpe .tlbsrch (fun s => s.cfg.hasPgmmu = true ∧ s.cfg.tlbType ≠ 0 ∧ s.plv ≠ 0#2) ∧
  TrapsIpe .tlbrd (fun s => s.cfg.hasPgmmu = true ∧ s.cfg.tlbType ≠ 0 ∧ s.plv ≠ 0#2) ∧
  TrapsIpe .tlbwr (fun s => s.cfg.hasPgmmu = true ∧ s.cfg.tlbType ≠ 0 ∧ s.plv ≠ 0#2) ∧
  TrapsIpe .tlbfill (fun s => s.cfg.hasPgmmu = true ∧ s.cfg.tlbType ≠ 0 ∧ s.plv ≠ 0#2) ∧
  TrapsIpe .tlbclr (fun s => s.cfg.hasPgmmu = true ∧ s.cfg.tlbType ≠ 0 ∧ s.plv ≠ 0#2) ∧
  TrapsIpe .tlbflush (fun s => s.cfg.hasPgmmu = true ∧ s.cfg.tlbType ≠ 0 ∧ s.plv ≠ 0#2) ∧
  TrapsIpe (.invtlb op rj rk) (fun s => s.cfg.hasPgmmu = true ∧ s.cfg.tlbType ≠ 0 ∧ s.plv ≠ 0#2) ∧
  TrapsIpe (.lddir rd rj i8) (fun s => s.cfg.hasLspw = true ∧ s.plv ≠ 0#2) ∧
  TrapsIpe (.ldpte rj seq) (fun s => s.cfg.hasLspw = true ∧ s.plv ≠ 0#2) ∧
  TrapsIpe .ertn (fun s => s.plv ≠ 0#2) ∧
  TrapsIpe (.dbcl code) (fun s => s.cfg.dbclPrivileged = true ∧ s.plv ≠ 0#2) ∧
  TrapsIpe (.idle code) (fun s => s.plv ≠ 0#2) ∧
  TrapsIpe (.csrrd rd csr) (fun s => s.plv ≠ 0#2 ∧ (s.csr.misc.getLsbD (8 + s.plv.toNat) = false ∨
    ∀ k < s.cfg.pmCount, csr.toNat ≠ 0x201 + 2 * k))

/-- Every floating-point instruction takes FPD while EUEN.FPE is 0. With EUEN.FPE = 0 each floating-point instruction
the instance has takes FPD (0xF): no register, flag, FCSR0 bit or byte of memory changes, and no memory address is
looked at. R644, R836. The entry of an exception is R851 and R846: with VS other than 0 by decision D76 (log 63),
the debug registers log 44. -/
def Obligations.FloatingPointDisabledTakesFpd : Prop :=
  ∀ (fd rd fj rj fk rk fa : Reg) (cd : BitVec 3) (cond : BitVec 5) (ca : BitVec 3) (fcsr : BitVec 5) (cj : BitVec 3)
    (offs : BitVec 21) (i12 : BitVec 12),
  TrapsFpd (.faddS fd fj fk) (fun s => s.cfg.hasFp = true ∧ s.csr.euen.getLsbD 0 = false) ∧
  TrapsFpd (.faddD fd fj fk) (fun s => s.cfg.hasFp = true ∧ s.cfg.hasFpDp = true ∧ s.csr.euen.getLsbD 0 = false) ∧
  TrapsFpd (.fsubS fd fj fk) (fun s => s.cfg.hasFp = true ∧ s.csr.euen.getLsbD 0 = false) ∧
  TrapsFpd (.fsubD fd fj fk) (fun s => s.cfg.hasFp = true ∧ s.cfg.hasFpDp = true ∧ s.csr.euen.getLsbD 0 = false) ∧
  TrapsFpd (.fmulS fd fj fk) (fun s => s.cfg.hasFp = true ∧ s.csr.euen.getLsbD 0 = false) ∧
  TrapsFpd (.fmulD fd fj fk) (fun s => s.cfg.hasFp = true ∧ s.cfg.hasFpDp = true ∧ s.csr.euen.getLsbD 0 = false) ∧
  TrapsFpd (.fdivS fd fj fk) (fun s => s.cfg.hasFp = true ∧ s.csr.euen.getLsbD 0 = false) ∧
  TrapsFpd (.fdivD fd fj fk) (fun s => s.cfg.hasFp = true ∧ s.cfg.hasFpDp = true ∧ s.csr.euen.getLsbD 0 = false) ∧
  TrapsFpd (.fmaddS fd fj fk fa) (fun s => s.cfg.hasFp = true ∧ s.csr.euen.getLsbD 0 = false) ∧
  TrapsFpd (.fmaddD fd fj fk fa) (fun s => s.cfg.hasFp = true ∧ s.cfg.hasFpDp = true ∧ s.csr.euen.getLsbD 0 = false) ∧
  TrapsFpd (.fmsubS fd fj fk fa) (fun s => s.cfg.hasFp = true ∧ s.csr.euen.getLsbD 0 = false) ∧
  TrapsFpd (.fmsubD fd fj fk fa) (fun s => s.cfg.hasFp = true ∧ s.cfg.hasFpDp = true ∧ s.csr.euen.getLsbD 0 = false) ∧
  TrapsFpd (.fnmaddS fd fj fk fa) (fun s => s.cfg.hasFp = true ∧ s.csr.euen.getLsbD 0 = false) ∧
  TrapsFpd (.fnmaddD fd fj fk fa) (fun s => s.cfg.hasFp = true ∧ s.cfg.hasFpDp = true ∧
    s.csr.euen.getLsbD 0 = false) ∧
  TrapsFpd (.fnmsubS fd fj fk fa) (fun s => s.cfg.hasFp = true ∧ s.csr.euen.getLsbD 0 = false) ∧
  TrapsFpd (.fnmsubD fd fj fk fa) (fun s => s.cfg.hasFp = true ∧ s.cfg.hasFpDp = true ∧
    s.csr.euen.getLsbD 0 = false) ∧
  TrapsFpd (.fmaxS fd fj fk) (fun s => s.cfg.hasFp = true ∧ s.csr.euen.getLsbD 0 = false) ∧
  TrapsFpd (.fmaxD fd fj fk) (fun s => s.cfg.hasFp = true ∧ s.cfg.hasFpDp = true ∧ s.csr.euen.getLsbD 0 = false) ∧
  TrapsFpd (.fminS fd fj fk) (fun s => s.cfg.hasFp = true ∧ s.csr.euen.getLsbD 0 = false) ∧
  TrapsFpd (.fminD fd fj fk) (fun s => s.cfg.hasFp = true ∧ s.cfg.hasFpDp = true ∧ s.csr.euen.getLsbD 0 = false) ∧
  TrapsFpd (.fmaxaS fd fj fk) (fun s => s.cfg.hasFp = true ∧ s.csr.euen.getLsbD 0 = false) ∧
  TrapsFpd (.fmaxaD fd fj fk) (fun s => s.cfg.hasFp = true ∧ s.cfg.hasFpDp = true ∧ s.csr.euen.getLsbD 0 = false) ∧
  TrapsFpd (.fminaS fd fj fk) (fun s => s.cfg.hasFp = true ∧ s.csr.euen.getLsbD 0 = false) ∧
  TrapsFpd (.fminaD fd fj fk) (fun s => s.cfg.hasFp = true ∧ s.cfg.hasFpDp = true ∧ s.csr.euen.getLsbD 0 = false) ∧
  TrapsFpd (.fabsS fd fj) (fun s => s.cfg.hasFp = true ∧ s.csr.euen.getLsbD 0 = false) ∧
  TrapsFpd (.fabsD fd fj) (fun s => s.cfg.hasFp = true ∧ s.cfg.hasFpDp = true ∧ s.csr.euen.getLsbD 0 = false) ∧
  TrapsFpd (.fnegS fd fj) (fun s => s.cfg.hasFp = true ∧ s.csr.euen.getLsbD 0 = false) ∧
  TrapsFpd (.fnegD fd fj) (fun s => s.cfg.hasFp = true ∧ s.cfg.hasFpDp = true ∧ s.csr.euen.getLsbD 0 = false) ∧
  TrapsFpd (.fsqrtS fd fj) (fun s => s.cfg.hasFp = true ∧ s.csr.euen.getLsbD 0 = false) ∧
  TrapsFpd (.fsqrtD fd fj) (fun s => s.cfg.hasFp = true ∧ s.cfg.hasFpDp = true ∧ s.csr.euen.getLsbD 0 = false) ∧
  TrapsFpd (.frecipS fd fj) (fun s => s.cfg.hasFp = true ∧ s.csr.euen.getLsbD 0 = false) ∧
  TrapsFpd (.frecipD fd fj) (fun s => s.cfg.hasFp = true ∧ s.cfg.hasFpDp = true ∧ s.csr.euen.getLsbD 0 = false) ∧
  TrapsFpd (.frsqrtS fd fj) (fun s => s.cfg.hasFp = true ∧ s.csr.euen.getLsbD 0 = false) ∧
  TrapsFpd (.frsqrtD fd fj) (fun s => s.cfg.hasFp = true ∧ s.cfg.hasFpDp = true ∧ s.csr.euen.getLsbD 0 = false) ∧
  TrapsFpd (.fscalebS fd fj fk) (fun s => s.cfg.hasFp = true ∧ s.csr.euen.getLsbD 0 = false) ∧
  TrapsFpd (.fscalebD fd fj fk) (fun s => s.cfg.hasFp = true ∧ s.cfg.hasFpDp = true ∧ s.csr.euen.getLsbD 0 = false) ∧
  TrapsFpd (.flogbS fd fj) (fun s => s.cfg.hasFp = true ∧ s.csr.euen.getLsbD 0 = false) ∧
  TrapsFpd (.flogbD fd fj) (fun s => s.cfg.hasFp = true ∧ s.cfg.hasFpDp = true ∧ s.csr.euen.getLsbD 0 = false) ∧
  TrapsFpd (.fcopysignS fd fj fk) (fun s => s.cfg.hasFp = true ∧ s.csr.euen.getLsbD 0 = false) ∧
  TrapsFpd (.fcopysignD fd fj fk) (fun s => s.cfg.hasFp = true ∧ s.cfg.hasFpDp = true ∧
    s.csr.euen.getLsbD 0 = false) ∧
  TrapsFpd (.fclassS fd fj) (fun s => s.cfg.hasFp = true ∧ s.csr.euen.getLsbD 0 = false) ∧
  TrapsFpd (.fclassD fd fj) (fun s => s.cfg.hasFp = true ∧ s.cfg.hasFpDp = true ∧ s.csr.euen.getLsbD 0 = false) ∧
  TrapsFpd (.fcmpCondS cd fj fk cond) (fun s => cond ∉
    ([0x12#5, 0x13#5, 0x16#5, 0x17#5, 0x1A#5, 0x1B#5, 0x1C#5, 0x1D#5, 0x1E#5, 0x1F#5] : List (BitVec 5)) ∧
      s.cfg.hasFp = true ∧ s.csr.euen.getLsbD 0 = false) ∧
  TrapsFpd (.fcmpCondD cd fj fk cond) (fun s => cond ∉
    ([0x12#5, 0x13#5, 0x16#5, 0x17#5, 0x1A#5, 0x1B#5, 0x1C#5, 0x1D#5, 0x1E#5, 0x1F#5] : List (BitVec 5)) ∧
      s.cfg.hasFp = true ∧ s.cfg.hasFpDp = true ∧ s.csr.euen.getLsbD 0 = false) ∧
  TrapsFpd (.fcvtSD fd fj) (fun s => s.cfg.hasFp = true ∧ s.cfg.hasFpDp = true ∧ s.csr.euen.getLsbD 0 = false) ∧
  TrapsFpd (.fcvtDS fd fj) (fun s => s.cfg.hasFp = true ∧ s.cfg.hasFpDp = true ∧ s.csr.euen.getLsbD 0 = false) ∧
  TrapsFpd (.ffintSW fd fj) (fun s => s.cfg.hasFp = true ∧ s.csr.euen.getLsbD 0 = false) ∧
  TrapsFpd (.ffintSL fd fj) (fun s => s.cfg.hasFp = true ∧ s.cfg.hasFpDp = true ∧ s.csr.euen.getLsbD 0 = false) ∧
  TrapsFpd (.ffintDW fd fj) (fun s => s.cfg.hasFp = true ∧ s.cfg.hasFpDp = true ∧ s.csr.euen.getLsbD 0 = false) ∧
  TrapsFpd (.ffintDL fd fj) (fun s => s.cfg.hasFp = true ∧ s.cfg.hasFpDp = true ∧ s.csr.euen.getLsbD 0 = false) ∧
  TrapsFpd (.ftintWS fd fj) (fun s => s.cfg.hasFp = true ∧ s.csr.euen.getLsbD 0 = false) ∧
  TrapsFpd (.ftintWD fd fj) (fun s => s.cfg.hasFp = true ∧ s.cfg.hasFpDp = true ∧ s.csr.euen.getLsbD 0 = false) ∧
  TrapsFpd (.ftintLS fd fj) (fun s => s.cfg.hasFp = true ∧ s.cfg.hasFpDp = true ∧ s.csr.euen.getLsbD 0 = false) ∧
  TrapsFpd (.ftintLD fd fj) (fun s => s.cfg.hasFp = true ∧ s.cfg.hasFpDp = true ∧ s.csr.euen.getLsbD 0 = false) ∧
  TrapsFpd (.ftintrmWS fd fj) (fun s => s.cfg.hasFp = true ∧ s.csr.euen.getLsbD 0 = false) ∧
  TrapsFpd (.ftintrmWD fd fj) (fun s => s.cfg.hasFp = true ∧ s.cfg.hasFpDp = true ∧ s.csr.euen.getLsbD 0 = false) ∧
  TrapsFpd (.ftintrmLS fd fj) (fun s => s.cfg.hasFp = true ∧ s.cfg.hasFpDp = true ∧ s.csr.euen.getLsbD 0 = false) ∧
  TrapsFpd (.ftintrmLD fd fj) (fun s => s.cfg.hasFp = true ∧ s.cfg.hasFpDp = true ∧ s.csr.euen.getLsbD 0 = false) ∧
  TrapsFpd (.ftintrpWS fd fj) (fun s => s.cfg.hasFp = true ∧ s.csr.euen.getLsbD 0 = false) ∧
  TrapsFpd (.ftintrpWD fd fj) (fun s => s.cfg.hasFp = true ∧ s.cfg.hasFpDp = true ∧ s.csr.euen.getLsbD 0 = false) ∧
  TrapsFpd (.ftintrpLS fd fj) (fun s => s.cfg.hasFp = true ∧ s.cfg.hasFpDp = true ∧ s.csr.euen.getLsbD 0 = false) ∧
  TrapsFpd (.ftintrpLD fd fj) (fun s => s.cfg.hasFp = true ∧ s.cfg.hasFpDp = true ∧ s.csr.euen.getLsbD 0 = false) ∧
  TrapsFpd (.ftintrzWS fd fj) (fun s => s.cfg.hasFp = true ∧ s.csr.euen.getLsbD 0 = false) ∧
  TrapsFpd (.ftintrzWD fd fj) (fun s => s.cfg.hasFp = true ∧ s.cfg.hasFpDp = true ∧ s.csr.euen.getLsbD 0 = false) ∧
  TrapsFpd (.ftintrzLS fd fj) (fun s => s.cfg.hasFp = true ∧ s.cfg.hasFpDp = true ∧ s.csr.euen.getLsbD 0 = false) ∧
  TrapsFpd (.ftintrzLD fd fj) (fun s => s.cfg.hasFp = true ∧ s.cfg.hasFpDp = true ∧ s.csr.euen.getLsbD 0 = false) ∧
  TrapsFpd (.ftintrneWS fd fj) (fun s => s.cfg.hasFp = true ∧ s.csr.euen.getLsbD 0 = false) ∧
  TrapsFpd (.ftintrneWD fd fj) (fun s => s.cfg.hasFp = true ∧ s.cfg.hasFpDp = true ∧ s.csr.euen.getLsbD 0 = false) ∧
  TrapsFpd (.ftintrneLS fd fj) (fun s => s.cfg.hasFp = true ∧ s.cfg.hasFpDp = true ∧ s.csr.euen.getLsbD 0 = false) ∧
  TrapsFpd (.ftintrneLD fd fj) (fun s => s.cfg.hasFp = true ∧ s.cfg.hasFpDp = true ∧ s.csr.euen.getLsbD 0 = false) ∧
  TrapsFpd (.frintS fd fj) (fun s => s.cfg.hasFp = true ∧ s.csr.euen.getLsbD 0 = false) ∧
  TrapsFpd (.frintD fd fj) (fun s => s.cfg.hasFp = true ∧ s.cfg.hasFpDp = true ∧ s.csr.euen.getLsbD 0 = false) ∧
  TrapsFpd (.fmovS fd fj) (fun s => s.cfg.hasFp = true ∧ s.csr.euen.getLsbD 0 = false) ∧
  TrapsFpd (.fmovD fd fj) (fun s => s.cfg.hasFp = true ∧ s.cfg.hasFpDp = true ∧ s.csr.euen.getLsbD 0 = false) ∧
  TrapsFpd (.fsel fd fj fk ca) (fun s => s.cfg.hasFp = true ∧ s.csr.euen.getLsbD 0 = false) ∧
  TrapsFpd (.movgr2frW fd rj) (fun s => s.cfg.hasFp = true ∧ s.csr.euen.getLsbD 0 = false) ∧
  TrapsFpd (.movgr2frD fd rj) (fun s => s.cfg.la64 = true ∧ s.cfg.hasFp = true ∧ s.cfg.hasFpDp = true ∧
    s.csr.euen.getLsbD 0 = false) ∧
  TrapsFpd (.movgr2frhW fd rj) (fun s => s.cfg.hasFp = true ∧ s.cfg.hasFpDp = true ∧ s.csr.euen.getLsbD 0 = false) ∧
  TrapsFpd (.movfr2grS rd fj) (fun s => s.cfg.hasFp = true ∧ s.csr.euen.getLsbD 0 = false) ∧
  TrapsFpd (.movfr2grD rd fj) (fun s => s.cfg.la64 = true ∧ s.cfg.hasFp = true ∧ s.cfg.hasFpDp = true ∧
    s.csr.euen.getLsbD 0 = false) ∧
  TrapsFpd (.movfrh2grS rd fj) (fun s => s.cfg.hasFp = true ∧ s.cfg.hasFpDp = true ∧ s.csr.euen.getLsbD 0 = false) ∧
  TrapsFpd (.movgr2fcsr fcsr rj) (fun s => s.cfg.hasFp = true ∧ s.csr.euen.getLsbD 0 = false) ∧
  TrapsFpd (.movfcsr2gr rd fcsr) (fun s => s.cfg.hasFp = true ∧ s.csr.euen.getLsbD 0 = false) ∧
  TrapsFpd (.movfr2cf cd fj) (fun s => s.cfg.hasFp = true ∧ s.csr.euen.getLsbD 0 = false) ∧
  TrapsFpd (.movcf2fr fd cj) (fun s => s.cfg.hasFp = true ∧ s.csr.euen.getLsbD 0 = false) ∧
  TrapsFpd (.movgr2cf cd rj) (fun s => s.cfg.hasFp = true ∧ s.csr.euen.getLsbD 0 = false) ∧
  TrapsFpd (.movcf2gr rd cj) (fun s => s.cfg.hasFp = true ∧ s.csr.euen.getLsbD 0 = false) ∧
  TrapsFpd (.bceqz cj offs) (fun s => s.cfg.hasFp = true ∧ s.csr.euen.getLsbD 0 = false) ∧
  TrapsFpd (.bcnez cj offs) (fun s => s.cfg.hasFp = true ∧ s.csr.euen.getLsbD 0 = false) ∧
  TrapsFpd (.fldS fd rj i12) (fun s => s.cfg.hasFp = true ∧ s.csr.euen.getLsbD 0 = false) ∧
  TrapsFpd (.fldD fd rj i12) (fun s => s.cfg.hasFp = true ∧ s.cfg.hasFpDp = true ∧ s.csr.euen.getLsbD 0 = false) ∧
  TrapsFpd (.fstS fd rj i12) (fun s => s.cfg.hasFp = true ∧ s.csr.euen.getLsbD 0 = false) ∧
  TrapsFpd (.fstD fd rj i12) (fun s => s.cfg.hasFp = true ∧ s.cfg.hasFpDp = true ∧ s.csr.euen.getLsbD 0 = false) ∧
  TrapsFpd (.fldxS fd rj rk) (fun s => s.cfg.la64 = true ∧ s.cfg.hasFp = true ∧ s.csr.euen.getLsbD 0 = false) ∧
  TrapsFpd (.fldxD fd rj rk) (fun s => s.cfg.la64 = true ∧ s.cfg.hasFp = true ∧ s.cfg.hasFpDp = true ∧
    s.csr.euen.getLsbD 0 = false) ∧
  TrapsFpd (.fstxS fd rj rk) (fun s => s.cfg.la64 = true ∧ s.cfg.hasFp = true ∧ s.csr.euen.getLsbD 0 = false) ∧
  TrapsFpd (.fstxD fd rj rk) (fun s => s.cfg.la64 = true ∧ s.cfg.hasFp = true ∧ s.cfg.hasFpDp = true ∧
    s.csr.euen.getLsbD 0 = false) ∧
  TrapsFpd (.fldgtS fd rj rk) (fun s => s.cfg.la64 = true ∧ s.cfg.hasFp = true ∧ s.csr.euen.getLsbD 0 = false) ∧
  TrapsFpd (.fldgtD fd rj rk) (fun s => s.cfg.la64 = true ∧ s.cfg.hasFp = true ∧ s.cfg.hasFpDp = true ∧
    s.csr.euen.getLsbD 0 = false) ∧
  TrapsFpd (.fldleS fd rj rk) (fun s => s.cfg.la64 = true ∧ s.cfg.hasFp = true ∧ s.csr.euen.getLsbD 0 = false) ∧
  TrapsFpd (.fldleD fd rj rk) (fun s => s.cfg.la64 = true ∧ s.cfg.hasFp = true ∧ s.cfg.hasFpDp = true ∧
    s.csr.euen.getLsbD 0 = false) ∧
  TrapsFpd (.fstgtS fd rj rk) (fun s => s.cfg.la64 = true ∧ s.cfg.hasFp = true ∧ s.csr.euen.getLsbD 0 = false) ∧
  TrapsFpd (.fstgtD fd rj rk) (fun s => s.cfg.la64 = true ∧ s.cfg.hasFp = true ∧ s.cfg.hasFpDp = true ∧
    s.csr.euen.getLsbD 0 = false) ∧
  TrapsFpd (.fstleS fd rj rk) (fun s => s.cfg.la64 = true ∧ s.cfg.hasFp = true ∧ s.csr.euen.getLsbD 0 = false) ∧
  TrapsFpd (.fstleD fd rj rk) (fun s => s.cfg.la64 = true ∧ s.cfg.hasFp = true ∧ s.cfg.hasFpDp = true ∧
    s.csr.euen.getLsbD 0 = false)

/-- Which operation each floating-point arithmetic instruction applies, what it gives for special operands, and what it
changes. With the unit present and enabled, where no exception it signals is enabled, each of FADD, FSUB, FMUL,
FDIV, the FMA forms, FMAX(A), FMIN(A), FSQRT, FRECIP, FRSQRT, FSCALEB, FLOGB, FCVT, FFINT, FRINT in both formats
completes and delivers its operation on its source registers in FCSR0.RM to FR[fd] (a single result leaves the upper
half open); Cause becomes the exceptions signalled, Flags gain them, and nothing else changes but the pc. For every
mode, the operations give on special operands: the NaN of highest priority (a signaling one quieted, with V); the
default QNaN with V for inf - inf, 0 times inf, 0/0, inf/inf and a negative root; an infinity with Z for x/0, 1/0,
1/sqrt(0) and logB(0); the infinities and signed zeros of the sum, product, quotient, fused sum, root, reciprocal,
scaling and rounding; the sign of an exact zero sum; the maximum and minimum of two numbers, by value or by
magnitude, +0 above -0, the number beside a quiet NaN. Where both operands are finite the value is the subject of
the statement on rounding. R645-R652, R657-R681, R686-R695, R704-R709, R731, R732. The IEEE 754 content of the
special cases is the spec's general knowledge G6 (log 27); a NaN beside 0 times inf, the zeros of maximum and
minimum, the composed FRSQRT and the negated NaN are decisions D58-D61 (log 29). -/
def Obligations.FpArithmeticDelivers : Prop :=
  ∀ (fd fj fk fa : Reg),
  DeliversFp (.faddS fd fj fk) (FpReady false) .s fd
    (fun s => Fmt.add .s s.fpCtl (s.getFmt .s fj) (s.getFmt .s fk)) ∧
  DeliversFp (.faddD fd fj fk) (FpReady true) .d fd
    (fun s => Fmt.add .d s.fpCtl (s.getFmt .d fj) (s.getFmt .d fk)) ∧
  DeliversFp (.fsubS fd fj fk) (FpReady false) .s fd
    (fun s => Fmt.sub .s s.fpCtl (s.getFmt .s fj) (s.getFmt .s fk)) ∧
  DeliversFp (.fsubD fd fj fk) (FpReady true) .d fd
    (fun s => Fmt.sub .d s.fpCtl (s.getFmt .d fj) (s.getFmt .d fk)) ∧
  DeliversFp (.fmulS fd fj fk) (FpReady false) .s fd
    (fun s => Fmt.mul .s s.fpCtl (s.getFmt .s fj) (s.getFmt .s fk)) ∧
  DeliversFp (.fmulD fd fj fk) (FpReady true) .d fd
    (fun s => Fmt.mul .d s.fpCtl (s.getFmt .d fj) (s.getFmt .d fk)) ∧
  DeliversFp (.fdivS fd fj fk) (FpReady false) .s fd
    (fun s => Fmt.div .s s.fpCtl (s.getFmt .s fj) (s.getFmt .s fk)) ∧
  DeliversFp (.fdivD fd fj fk) (FpReady true) .d fd
    (fun s => Fmt.div .d s.fpCtl (s.getFmt .d fj) (s.getFmt .d fk)) ∧
  DeliversFp (.fmaddS fd fj fk fa) (FpReady false) .s fd
    (fun s => Fmt.fma .s s.fpCtl false (s.getFmt .s fj) (s.getFmt .s fk) (s.getFmt .s fa)) ∧
  DeliversFp (.fmaddD fd fj fk fa) (FpReady true) .d fd
    (fun s => Fmt.fma .d s.fpCtl false (s.getFmt .d fj) (s.getFmt .d fk) (s.getFmt .d fa)) ∧
  DeliversFp (.fmsubS fd fj fk fa) (FpReady false) .s fd
    (fun s => Fmt.fma .s s.fpCtl true (s.getFmt .s fj) (s.getFmt .s fk) (s.getFmt .s fa)) ∧
  DeliversFp (.fmsubD fd fj fk fa) (FpReady true) .d fd
    (fun s => Fmt.fma .d s.fpCtl true (s.getFmt .d fj) (s.getFmt .d fk) (s.getFmt .d fa)) ∧
  DeliversFp (.fnmaddS fd fj fk fa) (FpReady false) .s fd
    (fun s => Fmt.negateResult .s s.cfg.fnmNegatesNan (Fmt.fma .s s.fpCtl false (s.getFmt .s fj) (s.getFmt .s fk)
      (s.getFmt .s fa))) ∧
  DeliversFp (.fnmaddD fd fj fk fa) (FpReady true) .d fd
    (fun s => Fmt.negateResult .d s.cfg.fnmNegatesNan (Fmt.fma .d s.fpCtl false (s.getFmt .d fj) (s.getFmt .d fk)
      (s.getFmt .d fa))) ∧
  DeliversFp (.fnmsubS fd fj fk fa) (FpReady false) .s fd
    (fun s => Fmt.negateResult .s s.cfg.fnmNegatesNan (Fmt.fma .s s.fpCtl true (s.getFmt .s fj) (s.getFmt .s fk)
      (s.getFmt .s fa))) ∧
  DeliversFp (.fnmsubD fd fj fk fa) (FpReady true) .d fd
    (fun s => Fmt.negateResult .d s.cfg.fnmNegatesNan (Fmt.fma .d s.fpCtl true (s.getFmt .d fj) (s.getFmt .d fk)
      (s.getFmt .d fa))) ∧
  DeliversFp (.fmaxS fd fj fk) (FpReady false) .s fd
    (fun s => Fmt.select .s (Fmt.maxNum .s) (s.getFmt .s fj) (s.getFmt .s fk)) ∧
  DeliversFp (.fmaxD fd fj fk) (FpReady true) .d fd
    (fun s => Fmt.select .d (Fmt.maxNum .d) (s.getFmt .d fj) (s.getFmt .d fk)) ∧
  DeliversFp (.fminS fd fj fk) (FpReady false) .s fd
    (fun s => Fmt.select .s (Fmt.minNum .s) (s.getFmt .s fj) (s.getFmt .s fk)) ∧
  DeliversFp (.fminD fd fj fk) (FpReady true) .d fd
    (fun s => Fmt.select .d (Fmt.minNum .d) (s.getFmt .d fj) (s.getFmt .d fk)) ∧
  DeliversFp (.fmaxaS fd fj fk) (FpReady false) .s fd
    (fun s => Fmt.select .s (Fmt.maxMag .s) (s.getFmt .s fj) (s.getFmt .s fk)) ∧
  DeliversFp (.fmaxaD fd fj fk) (FpReady true) .d fd
    (fun s => Fmt.select .d (Fmt.maxMag .d) (s.getFmt .d fj) (s.getFmt .d fk)) ∧
  DeliversFp (.fminaS fd fj fk) (FpReady false) .s fd
    (fun s => Fmt.select .s (Fmt.minMag .s) (s.getFmt .s fj) (s.getFmt .s fk)) ∧
  DeliversFp (.fminaD fd fj fk) (FpReady true) .d fd
    (fun s => Fmt.select .d (Fmt.minMag .d) (s.getFmt .d fj) (s.getFmt .d fk)) ∧
  DeliversFp (.fsqrtS fd fj) (FpReady false) .s fd
    (fun s => Fmt.sqrt .s s.fpCtl (s.getFmt .s fj)) ∧
  DeliversFp (.fsqrtD fd fj) (FpReady true) .d fd
    (fun s => Fmt.sqrt .d s.fpCtl (s.getFmt .d fj)) ∧
  DeliversFp (.frecipS fd fj) (FpReady false) .s fd
    (fun s => Fmt.recip .s s.fpCtl (s.getFmt .s fj)) ∧
  DeliversFp (.frecipD fd fj) (FpReady true) .d fd
    (fun s => Fmt.recip .d s.fpCtl (s.getFmt .d fj)) ∧
  DeliversFp (.flogbS fd fj) (FpReady false) .s fd
    (fun s => Fmt.logB .s s.fpCtl (s.getFmt .s fj)) ∧
  DeliversFp (.flogbD fd fj) (FpReady true) .d fd
    (fun s => Fmt.logB .d s.fpCtl (s.getFmt .d fj)) ∧
  DeliversFp (.frsqrtS fd fj) (FpReady false) .s fd
    (fun s => Fmt.rsqrt .s s.fpCtl s.cfg.frsqrtDoubleRounding (s.getFmt .s fj)) ∧
  DeliversFp (.frintS fd fj) (FpReady false) .s fd
    (fun s => Fmt.rint .s s.fpCtl s.reportInexact (s.getFmt .s fj)) ∧
  DeliversFp (.frsqrtD fd fj) (FpReady true) .d fd
    (fun s => Fmt.rsqrt .d s.fpCtl s.cfg.frsqrtDoubleRounding (s.getFmt .d fj)) ∧
  DeliversFp (.frintD fd fj) (FpReady true) .d fd
    (fun s => Fmt.rint .d s.fpCtl s.reportInexact (s.getFmt .d fj)) ∧
  DeliversFp (.fscalebS fd fj fk) (FpReady false) .s fd
    (fun s => Fmt.scaleB .s s.fpCtl (s.getFmt .s fj) (s.getFrS fk).toInt) ∧
  DeliversFp (.fscalebD fd fj fk) (FpReady true) .d fd
    (fun s => Fmt.scaleB .d s.fpCtl (s.getFmt .d fj) (s.getFr fk).toInt) ∧
  DeliversFp (.fcvtSD fd fj) (FpReady true) .s fd
    (fun s => cvtSD s.fpCtl (s.getFmt .d fj)) ∧
  DeliversFp (.fcvtDS fd fj) (FpReady true) .d fd
    (fun s => cvtDS s.fpCtl (s.getFmt .s fj)) ∧
  DeliversFp (.ffintSW fd fj) (FpReady false) .s fd
    (fun s => Fmt.fromInt .s s.fpCtl (s.getFrS fj).toInt) ∧
  DeliversFp (.ffintSL fd fj) (FpReady true) .s fd
    (fun s => Fmt.fromInt .s s.fpCtl (s.getFr fj).toInt) ∧
  DeliversFp (.ffintDW fd fj) (FpReady true) .d fd
    (fun s => Fmt.fromInt .d s.fpCtl (s.getFrS fj).toInt) ∧
  DeliversFp (.ffintDL fd fj) (FpReady true) .d fd
    (fun s => Fmt.fromInt .d s.fpCtl (s.getFr fj).toInt) ∧
  (∀ (f : Fmt) (c : FpCtl) (a b z : Word) (twice report : Bool) (n : Int),
    f.Propagates [a, b] (f.add c a b) ∧ f.Propagates [a, b] (f.sub c a b) ∧ f.Propagates [a, b] (f.mul c a b) ∧
    f.Propagates [a, b] (f.div c a b) ∧ f.Propagates [a] (f.sqrt c a) ∧ f.Propagates [a] (f.recip c a) ∧
    f.Propagates [a] (f.rsqrt c twice a) ∧ f.Propagates [a] (f.scaleB c a n) ∧ f.Propagates [a] (f.logB c a) ∧
    f.Propagates [a] (f.rint c report a) ∧
    (∀ neg, (¬f.ZeroTimesInf a b → f.Propagates [z, a, b] (f.fma c neg a b z)) ∧
      (f.ZeroTimesInf a b → f.Propagates [z] (⟨(f.fma c neg a b z).bits, if f.isSNaN z then excV else excNone⟩) ∧
        (f.fma c neg a b z).exc = excV ∧ (f.isNaN z = false → (f.fma c neg a b z).bits = f.dNaN))) ∧
    (∀ (r : FpRes) (also : Bool), (f.isNaN r.bits = true → also = false → f.negateResult also r = r) ∧
      ((f.isNaN r.bits = true → also = true) → f.negateResult also r = ⟨f.flipped r.bits, r.exc⟩))) ∧
  (∀ (f : Fmt) (c : FpCtl) (a b z : Word), f.isNaN a = false → f.isNaN b = false → f.isNaN z = false →
    (f.isInf a = true → f.isInf b = true → f.sign a ≠ f.sign b → f.add c a b = ⟨f.dNaN, excV⟩) ∧
    (f.isInf a = true → (f.isInf b = true → f.sign a = f.sign b) → f.add c a b = ⟨a, excNone⟩) ∧
    (f.isInf a = false → f.isInf b = true → f.add c a b = ⟨b, excNone⟩) ∧
    (f.isInf a = true → f.isInf b = true → f.sign a = f.sign b → f.sub c a b = ⟨f.dNaN, excV⟩) ∧
    (f.isInf a = true → (f.isInf b = true → f.sign a ≠ f.sign b) → f.sub c a b = ⟨a, excNone⟩) ∧
    (f.isInf a = false → f.isInf b = true → f.sub c a b = ⟨f.flipped b, excNone⟩) ∧
    (f.isInf a = false → f.isInf b = false → f.value a + f.value b = 0 → f.add c a b =
      ⟨f.zero (if f.isZero a ∧ f.isZero b ∧ f.sign a = f.sign b then f.sign a else decide (c.rm = .down)), excNone⟩) ∧
    (f.isInf a = false → f.isInf b = false → f.value a - f.value b = 0 → f.sub c a b =
      ⟨f.zero (if f.isZero a ∧ f.isZero b ∧ f.sign a ≠ f.sign b then f.sign a else decide (c.rm = .down)), excNone⟩) ∧
    (f.ZeroTimesInf a b → f.mul c a b = ⟨f.dNaN, excV⟩) ∧
    (¬f.ZeroTimesInf a b → (f.isInf a = true ∨ f.isInf b = true) →
      f.mul c a b = ⟨f.inf (f.sign a ^^ f.sign b), excNone⟩) ∧
    (¬f.ZeroTimesInf a b → (f.isZero a = true ∨ f.isZero b = true) →
      f.mul c a b = ⟨f.zero (f.sign a ^^ f.sign b), excNone⟩) ∧
    (f.isInf a = true → f.isInf b = true → f.div c a b = ⟨f.dNaN, excV⟩) ∧
    (f.isInf a = true → f.isInf b = false → f.div c a b = ⟨f.inf (f.sign a ^^ f.sign b), excNone⟩) ∧
    (f.isInf a = false → f.isInf b = true → f.div c a b = ⟨f.zero (f.sign a ^^ f.sign b), excNone⟩) ∧
    (f.isZero a = true → f.isZero b = true → f.div c a b = ⟨f.dNaN, excV⟩) ∧
    (f.isInf a = false → f.isZero a = false → f.isZero b = true →
      f.div c a b = ⟨f.inf (f.sign a ^^ f.sign b), excZ⟩) ∧
    (f.isZero a = true → f.isInf b = false → f.isZero b = false →
      f.div c a b = ⟨f.zero (f.sign a ^^ f.sign b), excNone⟩) ∧
    (∀ (neg p q : Bool), p = (f.sign a ^^ f.sign b) → q = (f.sign z ^^ neg) → ¬f.ZeroTimesInf a b →
      ((f.isInf a = true ∨ f.isInf b = true) → f.isInf z = true → p ≠ q → f.fma c neg a b z = ⟨f.dNaN, excV⟩) ∧
      ((f.isInf a = true ∨ f.isInf b = true) → (f.isInf z = true → p = q) →
        f.fma c neg a b z = ⟨f.inf p, excNone⟩) ∧
      (f.isInf a = false → f.isInf b = false → f.isInf z = true →
        f.fma c neg a b z = ⟨if neg then f.flipped z else z, excNone⟩) ∧
      (f.isInf a = false → f.isInf b = false → f.isInf z = false →
        f.value a * f.value b + (if neg then -f.value z else f.value z) = 0 → f.fma c neg a b z =
          ⟨f.zero (if (f.isZero a ∨ f.isZero b) ∧ f.isZero z ∧ p = q then p else decide (c.rm = .down)), excNone⟩)) ∧
    (f.isZero a = true → f.sqrt c a = ⟨a, excNone⟩ ∧ f.recip c a = ⟨f.inf (f.sign a), excZ⟩ ∧
      (∀ twice, f.rsqrt c twice a = ⟨f.inf (f.sign a), excZ⟩) ∧ (∀ n, f.scaleB c a n = ⟨a, excNone⟩) ∧
      f.logB c a = ⟨f.inf true, excZ⟩ ∧ ∀ report, f.rint c report a = ⟨a, excNone⟩) ∧
    (f.isZero a = false → f.sign a = true →
      f.sqrt c a = ⟨f.dNaN, excV⟩ ∧ ∀ twice, f.rsqrt c twice a = ⟨f.dNaN, excV⟩) ∧
    (f.isInf a = true → f.recip c a = ⟨f.zero (f.sign a), excNone⟩ ∧ (∀ n, f.scaleB c a n = ⟨a, excNone⟩) ∧
      f.logB c a = ⟨f.inf false, excNone⟩ ∧ (∀ report, f.rint c report a = ⟨a, excNone⟩) ∧
      (f.sign a = false → f.sqrt c a = ⟨a, excNone⟩ ∧ ∀ twice, f.rsqrt c twice a = ⟨f.zero false, excNone⟩)) ∧
    (f.ext b < f.ext a → f.select f.maxNum a b = ⟨a, excNone⟩ ∧ f.select f.minNum a b = ⟨b, excNone⟩) ∧
    (f.ext a < f.ext b → f.select f.maxNum a b = ⟨b, excNone⟩ ∧ f.select f.minNum a b = ⟨a, excNone⟩) ∧
    (f.ext a = f.ext b → f.select f.maxNum a b = ⟨if f.sign a then b else a, excNone⟩ ∧
      f.select f.minNum a b = ⟨if f.sign a then a else b, excNone⟩) ∧
    (f.ext (f.unsigned b) < f.ext (f.unsigned a) →
      f.select f.maxMag a b = ⟨a, excNone⟩ ∧ f.select f.minMag a b = ⟨b, excNone⟩) ∧
    (f.ext (f.unsigned a) < f.ext (f.unsigned b) →
      f.select f.maxMag a b = ⟨b, excNone⟩ ∧ f.select f.minMag a b = ⟨a, excNone⟩) ∧
    (f.ext (f.unsigned a) = f.ext (f.unsigned b) → f.select f.maxMag a b = f.select f.maxNum a b ∧
      f.select f.minMag a b = f.select f.minNum a b)) ∧
  (∀ (f : Fmt) (pick : Word → Word → Word) (a b : Word),
    ((f.isSNaN a = true ∨ f.isSNaN b = true) → f.Propagates [a, b] (f.select pick a b)) ∧
    (f.isSNaN a = false → f.isSNaN b = false →
      (f.isNaN a = true → f.isNaN b = false → f.select pick a b = ⟨b, excNone⟩) ∧
      (f.isNaN b = true → f.select pick a b = ⟨a, excNone⟩))) ∧
  (∀ (c : FpCtl) (x : Word),
    (Fmt.isNaN .d x = true → cvtSD c x = ⟨BitVec.ofNat 64 ((if Fmt.sign .d x then 2 ^ 31 else 0) + 0x7FC00000 +
      Fmt.fraction .d x / 2 ^ 29 % 2 ^ 22), if Fmt.isSNaN .d x then excV else excNone⟩) ∧
    (Fmt.isNaN .s x = true →
      cvtDS c x = ⟨BitVec.ofNat 64 ((if Fmt.sign .s x then 2 ^ 63 else 0) + 0x7FF8000000000000 +
      Fmt.fraction .s x % 2 ^ 22 * 2 ^ 29), if Fmt.isSNaN .s x then excV else excNone⟩) ∧
    (Fmt.isInf .d x = true → cvtSD c x = ⟨Fmt.inf .s (Fmt.sign .d x), excNone⟩) ∧
    (Fmt.isInf .s x = true → cvtDS c x = ⟨Fmt.inf .d (Fmt.sign .s x), excNone⟩) ∧
    (Fmt.isZero .d x = true → cvtSD c x = ⟨Fmt.zero .s (Fmt.sign .d x), excNone⟩) ∧
    (Fmt.isZero .s x = true → cvtDS c x = ⟨Fmt.zero .d (Fmt.sign .s x), excNone⟩) ∧
    ∀ f : Fmt, f.fromInt c 0 = ⟨0#64, excNone⟩)

/-- A signalled exception whose enable is 1 takes FPE and leaves the destination alone, and Flags too (decision D57, log
68). With the unit present and enabled, where an exception the instruction signals is enabled, each arithmetic,
conversion and rounding instruction takes FPE (0x12, 0): Cause records what is signalled, Flags, RM, Enables, every
FR, flag, register and byte of memory stay. (FFINT.D.W is exact on every operand, signals nothing, and never traps.)
R650, R657, R842. That Flags stay untouched, also for an exception that is signalled beside the enabled one and is
itself not enabled, is decision D57 (log 68): the model's choice to follow it. The entry is R851, with decision D76
(log 63) for VS other than 0 and log 44 for the debug registers. -/
def Obligations.EnabledFpExceptionsTrap : Prop :=
  ∀ (fd fj fk fa : Reg),
  TrapsFpe (.faddS fd fj fk) (FpReady false)
    (fun s => (Fmt.add .s s.fpCtl (s.getFmt .s fj) (s.getFmt .s fk)).exc) ∧
  TrapsFpe (.faddD fd fj fk) (FpReady true)
    (fun s => (Fmt.add .d s.fpCtl (s.getFmt .d fj) (s.getFmt .d fk)).exc) ∧
  TrapsFpe (.fsubS fd fj fk) (FpReady false)
    (fun s => (Fmt.sub .s s.fpCtl (s.getFmt .s fj) (s.getFmt .s fk)).exc) ∧
  TrapsFpe (.fsubD fd fj fk) (FpReady true)
    (fun s => (Fmt.sub .d s.fpCtl (s.getFmt .d fj) (s.getFmt .d fk)).exc) ∧
  TrapsFpe (.fmulS fd fj fk) (FpReady false)
    (fun s => (Fmt.mul .s s.fpCtl (s.getFmt .s fj) (s.getFmt .s fk)).exc) ∧
  TrapsFpe (.fmulD fd fj fk) (FpReady true)
    (fun s => (Fmt.mul .d s.fpCtl (s.getFmt .d fj) (s.getFmt .d fk)).exc) ∧
  TrapsFpe (.fdivS fd fj fk) (FpReady false)
    (fun s => (Fmt.div .s s.fpCtl (s.getFmt .s fj) (s.getFmt .s fk)).exc) ∧
  TrapsFpe (.fdivD fd fj fk) (FpReady true)
    (fun s => (Fmt.div .d s.fpCtl (s.getFmt .d fj) (s.getFmt .d fk)).exc) ∧
  TrapsFpe (.fmaddS fd fj fk fa) (FpReady false)
    (fun s => (Fmt.fma .s s.fpCtl false (s.getFmt .s fj) (s.getFmt .s fk) (s.getFmt .s fa)).exc) ∧
  TrapsFpe (.fmaddD fd fj fk fa) (FpReady true)
    (fun s => (Fmt.fma .d s.fpCtl false (s.getFmt .d fj) (s.getFmt .d fk) (s.getFmt .d fa)).exc) ∧
  TrapsFpe (.fmsubS fd fj fk fa) (FpReady false)
    (fun s => (Fmt.fma .s s.fpCtl true (s.getFmt .s fj) (s.getFmt .s fk) (s.getFmt .s fa)).exc) ∧
  TrapsFpe (.fmsubD fd fj fk fa) (FpReady true)
    (fun s => (Fmt.fma .d s.fpCtl true (s.getFmt .d fj) (s.getFmt .d fk) (s.getFmt .d fa)).exc) ∧
  TrapsFpe (.fnmaddS fd fj fk fa) (FpReady false)
    (fun s => (Fmt.negateResult .s s.cfg.fnmNegatesNan (Fmt.fma .s s.fpCtl false (s.getFmt .s fj) (s.getFmt .s fk)
      (s.getFmt .s fa))).exc) ∧
  TrapsFpe (.fnmaddD fd fj fk fa) (FpReady true)
    (fun s => (Fmt.negateResult .d s.cfg.fnmNegatesNan (Fmt.fma .d s.fpCtl false (s.getFmt .d fj) (s.getFmt .d fk)
      (s.getFmt .d fa))).exc) ∧
  TrapsFpe (.fnmsubS fd fj fk fa) (FpReady false)
    (fun s => (Fmt.negateResult .s s.cfg.fnmNegatesNan (Fmt.fma .s s.fpCtl true (s.getFmt .s fj) (s.getFmt .s fk)
      (s.getFmt .s fa))).exc) ∧
  TrapsFpe (.fnmsubD fd fj fk fa) (FpReady true)
    (fun s => (Fmt.negateResult .d s.cfg.fnmNegatesNan (Fmt.fma .d s.fpCtl true (s.getFmt .d fj) (s.getFmt .d fk)
      (s.getFmt .d fa))).exc) ∧
  TrapsFpe (.fmaxS fd fj fk) (FpReady false)
    (fun s => (Fmt.select .s (Fmt.maxNum .s) (s.getFmt .s fj) (s.getFmt .s fk)).exc) ∧
  TrapsFpe (.fmaxD fd fj fk) (FpReady true)
    (fun s => (Fmt.select .d (Fmt.maxNum .d) (s.getFmt .d fj) (s.getFmt .d fk)).exc) ∧
  TrapsFpe (.fminS fd fj fk) (FpReady false)
    (fun s => (Fmt.select .s (Fmt.minNum .s) (s.getFmt .s fj) (s.getFmt .s fk)).exc) ∧
  TrapsFpe (.fminD fd fj fk) (FpReady true)
    (fun s => (Fmt.select .d (Fmt.minNum .d) (s.getFmt .d fj) (s.getFmt .d fk)).exc) ∧
  TrapsFpe (.fmaxaS fd fj fk) (FpReady false)
    (fun s => (Fmt.select .s (Fmt.maxMag .s) (s.getFmt .s fj) (s.getFmt .s fk)).exc) ∧
  TrapsFpe (.fmaxaD fd fj fk) (FpReady true)
    (fun s => (Fmt.select .d (Fmt.maxMag .d) (s.getFmt .d fj) (s.getFmt .d fk)).exc) ∧
  TrapsFpe (.fminaS fd fj fk) (FpReady false)
    (fun s => (Fmt.select .s (Fmt.minMag .s) (s.getFmt .s fj) (s.getFmt .s fk)).exc) ∧
  TrapsFpe (.fminaD fd fj fk) (FpReady true)
    (fun s => (Fmt.select .d (Fmt.minMag .d) (s.getFmt .d fj) (s.getFmt .d fk)).exc) ∧
  TrapsFpe (.fsqrtS fd fj) (FpReady false)
    (fun s => (Fmt.sqrt .s s.fpCtl (s.getFmt .s fj)).exc) ∧
  TrapsFpe (.fsqrtD fd fj) (FpReady true)
    (fun s => (Fmt.sqrt .d s.fpCtl (s.getFmt .d fj)).exc) ∧
  TrapsFpe (.frecipS fd fj) (FpReady false)
    (fun s => (Fmt.recip .s s.fpCtl (s.getFmt .s fj)).exc) ∧
  TrapsFpe (.frecipD fd fj) (FpReady true)
    (fun s => (Fmt.recip .d s.fpCtl (s.getFmt .d fj)).exc) ∧
  TrapsFpe (.flogbS fd fj) (FpReady false)
    (fun s => (Fmt.logB .s s.fpCtl (s.getFmt .s fj)).exc) ∧
  TrapsFpe (.flogbD fd fj) (FpReady true)
    (fun s => (Fmt.logB .d s.fpCtl (s.getFmt .d fj)).exc) ∧
  TrapsFpe (.frsqrtS fd fj) (FpReady false)
    (fun s => (Fmt.rsqrt .s s.fpCtl s.cfg.frsqrtDoubleRounding (s.getFmt .s fj)).exc) ∧
  TrapsFpe (.frintS fd fj) (FpReady false)
    (fun s => (Fmt.rint .s s.fpCtl s.reportInexact (s.getFmt .s fj)).exc) ∧
  TrapsFpe (.frsqrtD fd fj) (FpReady true)
    (fun s => (Fmt.rsqrt .d s.fpCtl s.cfg.frsqrtDoubleRounding (s.getFmt .d fj)).exc) ∧
  TrapsFpe (.frintD fd fj) (FpReady true)
    (fun s => (Fmt.rint .d s.fpCtl s.reportInexact (s.getFmt .d fj)).exc) ∧
  TrapsFpe (.fscalebS fd fj fk) (FpReady false)
    (fun s => (Fmt.scaleB .s s.fpCtl (s.getFmt .s fj) (s.getFrS fk).toInt).exc) ∧
  TrapsFpe (.fscalebD fd fj fk) (FpReady true)
    (fun s => (Fmt.scaleB .d s.fpCtl (s.getFmt .d fj) (s.getFr fk).toInt).exc) ∧
  TrapsFpe (.fcvtSD fd fj) (FpReady true)
    (fun s => (cvtSD s.fpCtl (s.getFmt .d fj)).exc) ∧
  TrapsFpe (.fcvtDS fd fj) (FpReady true)
    (fun s => (cvtDS s.fpCtl (s.getFmt .s fj)).exc) ∧
  TrapsFpe (.ffintSW fd fj) (FpReady false)
    (fun s => (Fmt.fromInt .s s.fpCtl (s.getFrS fj).toInt).exc) ∧
  TrapsFpe (.ffintSL fd fj) (FpReady true)
    (fun s => (Fmt.fromInt .s s.fpCtl (s.getFr fj).toInt).exc) ∧
  TrapsFpe (.ffintDL fd fj) (FpReady true)
    (fun s => (Fmt.fromInt .d s.fpCtl (s.getFr fj).toInt).exc)

/-- The twenty FTINT forms deliver the rounded value as an integer, or the invalid result. With the unit present and
enabled, each FTINT form delivers to FR[fd] a result that is: for a finite operand, the integer its value rounds to
in FCSR0.RM or the fixed direction of the mnemonic (ties to even), inexact signalled when it differs and reporting
is on, if that fits the signed width; otherwise V with the nearest representable extreme; 0 with V for a NaN; the
extreme of the sign with V for an infinity (on an instance whose FTINT_INVALID_RESULT is not the default, its
function of the operand with V in all these cases). It traps with FPE exactly where an exception signalled is
enabled. R710-R730. The invalid results are decision D64, reporting D62, both parameters (log 28); that a trap
leaves Flags is D57 (log 68). The entry of an exception is R851 and R846: with VS other than 0 by decision D76 (log
63), the debug registers log 44. -/
def Obligations.ConversionsToIntegerRoundTheValue : Prop :=
  ∀ (fd fj : Reg),
  (∃ r : State → FpRes, DeliversFp (.ftintWS fd fj) (FpReady false) .s fd r ∧
    TrapsFpe (.ftintWS fd fj) (FpReady false) (fun s => (r s).exc) ∧
    ∀ s, Fmt.ToInteger .s s.fpCtl.rm 32 (s.fcsr0.getLsbD 0 || s.cfg.ftintInexactAlways)
      s.cfg.ftintInvalidSaturates (s.getFmt .s fj) (r s)) ∧
  (∃ r : State → FpRes, DeliversFp (.ftintWD fd fj) (FpReady true) .s fd r ∧
    TrapsFpe (.ftintWD fd fj) (FpReady true) (fun s => (r s).exc) ∧
    ∀ s, Fmt.ToInteger .d s.fpCtl.rm 32 (s.fcsr0.getLsbD 0 || s.cfg.ftintInexactAlways)
      s.cfg.ftintInvalidSaturates (s.getFmt .d fj) (r s)) ∧
  (∃ r : State → FpRes, DeliversFp (.ftintLS fd fj) (FpReady true) .d fd r ∧
    TrapsFpe (.ftintLS fd fj) (FpReady true) (fun s => (r s).exc) ∧
    ∀ s, Fmt.ToInteger .s s.fpCtl.rm 64 (s.fcsr0.getLsbD 0 || s.cfg.ftintInexactAlways)
      s.cfg.ftintInvalidSaturates (s.getFmt .s fj) (r s)) ∧
  (∃ r : State → FpRes, DeliversFp (.ftintLD fd fj) (FpReady true) .d fd r ∧
    TrapsFpe (.ftintLD fd fj) (FpReady true) (fun s => (r s).exc) ∧
    ∀ s, Fmt.ToInteger .d s.fpCtl.rm 64 (s.fcsr0.getLsbD 0 || s.cfg.ftintInexactAlways)
      s.cfg.ftintInvalidSaturates (s.getFmt .d fj) (r s)) ∧
  (∃ r : State → FpRes, DeliversFp (.ftintrmWS fd fj) (FpReady false) .s fd r ∧
    TrapsFpe (.ftintrmWS fd fj) (FpReady false) (fun s => (r s).exc) ∧
    ∀ s, Fmt.ToInteger .s .down 32 (s.fcsr0.getLsbD 0 || s.cfg.ftintInexactAlways)
      s.cfg.ftintInvalidSaturates (s.getFmt .s fj) (r s)) ∧
  (∃ r : State → FpRes, DeliversFp (.ftintrmWD fd fj) (FpReady true) .s fd r ∧
    TrapsFpe (.ftintrmWD fd fj) (FpReady true) (fun s => (r s).exc) ∧
    ∀ s, Fmt.ToInteger .d .down 32 (s.fcsr0.getLsbD 0 || s.cfg.ftintInexactAlways)
      s.cfg.ftintInvalidSaturates (s.getFmt .d fj) (r s)) ∧
  (∃ r : State → FpRes, DeliversFp (.ftintrmLS fd fj) (FpReady true) .d fd r ∧
    TrapsFpe (.ftintrmLS fd fj) (FpReady true) (fun s => (r s).exc) ∧
    ∀ s, Fmt.ToInteger .s .down 64 (s.fcsr0.getLsbD 0 || s.cfg.ftintInexactAlways)
      s.cfg.ftintInvalidSaturates (s.getFmt .s fj) (r s)) ∧
  (∃ r : State → FpRes, DeliversFp (.ftintrmLD fd fj) (FpReady true) .d fd r ∧
    TrapsFpe (.ftintrmLD fd fj) (FpReady true) (fun s => (r s).exc) ∧
    ∀ s, Fmt.ToInteger .d .down 64 (s.fcsr0.getLsbD 0 || s.cfg.ftintInexactAlways)
      s.cfg.ftintInvalidSaturates (s.getFmt .d fj) (r s)) ∧
  (∃ r : State → FpRes, DeliversFp (.ftintrpWS fd fj) (FpReady false) .s fd r ∧
    TrapsFpe (.ftintrpWS fd fj) (FpReady false) (fun s => (r s).exc) ∧
    ∀ s, Fmt.ToInteger .s .up 32 (s.fcsr0.getLsbD 0 || s.cfg.ftintInexactAlways)
      s.cfg.ftintInvalidSaturates (s.getFmt .s fj) (r s)) ∧
  (∃ r : State → FpRes, DeliversFp (.ftintrpWD fd fj) (FpReady true) .s fd r ∧
    TrapsFpe (.ftintrpWD fd fj) (FpReady true) (fun s => (r s).exc) ∧
    ∀ s, Fmt.ToInteger .d .up 32 (s.fcsr0.getLsbD 0 || s.cfg.ftintInexactAlways)
      s.cfg.ftintInvalidSaturates (s.getFmt .d fj) (r s)) ∧
  (∃ r : State → FpRes, DeliversFp (.ftintrpLS fd fj) (FpReady true) .d fd r ∧
    TrapsFpe (.ftintrpLS fd fj) (FpReady true) (fun s => (r s).exc) ∧
    ∀ s, Fmt.ToInteger .s .up 64 (s.fcsr0.getLsbD 0 || s.cfg.ftintInexactAlways)
      s.cfg.ftintInvalidSaturates (s.getFmt .s fj) (r s)) ∧
  (∃ r : State → FpRes, DeliversFp (.ftintrpLD fd fj) (FpReady true) .d fd r ∧
    TrapsFpe (.ftintrpLD fd fj) (FpReady true) (fun s => (r s).exc) ∧
    ∀ s, Fmt.ToInteger .d .up 64 (s.fcsr0.getLsbD 0 || s.cfg.ftintInexactAlways)
      s.cfg.ftintInvalidSaturates (s.getFmt .d fj) (r s)) ∧
  (∃ r : State → FpRes, DeliversFp (.ftintrzWS fd fj) (FpReady false) .s fd r ∧
    TrapsFpe (.ftintrzWS fd fj) (FpReady false) (fun s => (r s).exc) ∧
    ∀ s, Fmt.ToInteger .s .zero 32 (s.fcsr0.getLsbD 0 || s.cfg.ftintInexactAlways)
      s.cfg.ftintInvalidSaturates (s.getFmt .s fj) (r s)) ∧
  (∃ r : State → FpRes, DeliversFp (.ftintrzWD fd fj) (FpReady true) .s fd r ∧
    TrapsFpe (.ftintrzWD fd fj) (FpReady true) (fun s => (r s).exc) ∧
    ∀ s, Fmt.ToInteger .d .zero 32 (s.fcsr0.getLsbD 0 || s.cfg.ftintInexactAlways)
      s.cfg.ftintInvalidSaturates (s.getFmt .d fj) (r s)) ∧
  (∃ r : State → FpRes, DeliversFp (.ftintrzLS fd fj) (FpReady true) .d fd r ∧
    TrapsFpe (.ftintrzLS fd fj) (FpReady true) (fun s => (r s).exc) ∧
    ∀ s, Fmt.ToInteger .s .zero 64 (s.fcsr0.getLsbD 0 || s.cfg.ftintInexactAlways)
      s.cfg.ftintInvalidSaturates (s.getFmt .s fj) (r s)) ∧
  (∃ r : State → FpRes, DeliversFp (.ftintrzLD fd fj) (FpReady true) .d fd r ∧
    TrapsFpe (.ftintrzLD fd fj) (FpReady true) (fun s => (r s).exc) ∧
    ∀ s, Fmt.ToInteger .d .zero 64 (s.fcsr0.getLsbD 0 || s.cfg.ftintInexactAlways)
      s.cfg.ftintInvalidSaturates (s.getFmt .d fj) (r s)) ∧
  (∃ r : State → FpRes, DeliversFp (.ftintrneWS fd fj) (FpReady false) .s fd r ∧
    TrapsFpe (.ftintrneWS fd fj) (FpReady false) (fun s => (r s).exc) ∧
    ∀ s, Fmt.ToInteger .s .even 32 (s.fcsr0.getLsbD 0 || s.cfg.ftintInexactAlways)
      s.cfg.ftintInvalidSaturates (s.getFmt .s fj) (r s)) ∧
  (∃ r : State → FpRes, DeliversFp (.ftintrneWD fd fj) (FpReady true) .s fd r ∧
    TrapsFpe (.ftintrneWD fd fj) (FpReady true) (fun s => (r s).exc) ∧
    ∀ s, Fmt.ToInteger .d .even 32 (s.fcsr0.getLsbD 0 || s.cfg.ftintInexactAlways)
      s.cfg.ftintInvalidSaturates (s.getFmt .d fj) (r s)) ∧
  (∃ r : State → FpRes, DeliversFp (.ftintrneLS fd fj) (FpReady true) .d fd r ∧
    TrapsFpe (.ftintrneLS fd fj) (FpReady true) (fun s => (r s).exc) ∧
    ∀ s, Fmt.ToInteger .s .even 64 (s.fcsr0.getLsbD 0 || s.cfg.ftintInexactAlways)
      s.cfg.ftintInvalidSaturates (s.getFmt .s fj) (r s)) ∧
  (∃ r : State → FpRes, DeliversFp (.ftintrneLD fd fj) (FpReady true) .d fd r ∧
    TrapsFpe (.ftintrneLD fd fj) (FpReady true) (fun s => (r s).exc) ∧
    ∀ s, Fmt.ToInteger .d .even 64 (s.fcsr0.getLsbD 0 || s.cfg.ftintInexactAlways)
      s.cfg.ftintInvalidSaturates (s.getFmt .d fj) (r s))

/-- FCMP sets the flag exactly when the values stand in the relation the condition names. With the unit present and
enabled, for each of the 22 conditions FCMP.S and FCMP.D complete and set CFR[cd] exactly when the operands are
unordered, equal, less or greater as the condition asks (zeros of both signs equal, infinities at the ends); V is
signalled for a NaN under an S condition and for an SNaN under a C condition, FCSR0 updated, nothing else changed;
where V is enabled FPE is taken instead and the flag stays. R700-R703. The comparison and what it signals are IEEE
754 content (G6; log 27); that an undefined condition is no such instruction is decision D63 (log 51); that a trap
leaves Flags is D57 (log 68). The entry of an exception is R851 and R846: with VS other than 0 by decision D76 (log
63), the debug registers log 44. -/
def Obligations.FpComparisonsSetTheFlag : Prop :=
  ∀ (cd : BitVec 3) (fj fk : Reg) (cond : BitVec 5),
  (∀ s : State, cond ∉ ([0x12#5, 0x13#5, 0x16#5, 0x17#5, 0x1A#5, 0x1B#5, 0x1C#5, 0x1D#5, 0x1E#5, 0x1F#5] : List
    (BitVec 5)) → FpReady false s → ∃ e : FpExc,
    e = (if (if cond.getLsbD 0 then Fmt.isNaN .s (s.getFmt .s fj) = true ∨ Fmt.isNaN .s (s.getFmt .s fk) = true
        else Fmt.isSNaN .s (s.getFmt .s fj) = true ∨ Fmt.isSNaN .s (s.getFmt .s fk) = true) then excV else excNone) ∧
    (e &&& s.fpEnables = 0#5 → ∃ t, exec (.fcmpCondS cd fj fk cond) s = .next t ∧
      (t.getCf cd = true ↔ Fmt.CondHolds .s cond (s.getFmt .s fj) (s.getFmt .s fk)) ∧
      FcsrAfter s t e ∧ AtNext s t ∧ OnlyCfFcsr cd s t)) ∧
  TrapsFpe (.fcmpCondS cd fj fk cond) (fun s => cond ∉
    ([0x12#5, 0x13#5, 0x16#5, 0x17#5, 0x1A#5, 0x1B#5, 0x1C#5, 0x1D#5, 0x1E#5, 0x1F#5] : List (BitVec 5)) ∧
      FpReady false s)
    (fun s => (if (if cond.getLsbD 0 then Fmt.isNaN .s (s.getFmt .s fj) = true ∨
      Fmt.isNaN .s (s.getFmt .s fk) = true else Fmt.isSNaN .s (s.getFmt .s fj) = true ∨
        Fmt.isSNaN .s (s.getFmt .s fk) = true) then excV else excNone)) ∧
  (∀ s : State, cond ∉ ([0x12#5, 0x13#5, 0x16#5, 0x17#5, 0x1A#5, 0x1B#5, 0x1C#5, 0x1D#5, 0x1E#5, 0x1F#5] : List
    (BitVec 5)) → FpReady true s → ∃ e : FpExc,
    e = (if (if cond.getLsbD 0 then Fmt.isNaN .d (s.getFmt .d fj) = true ∨ Fmt.isNaN .d (s.getFmt .d fk) = true
        else Fmt.isSNaN .d (s.getFmt .d fj) = true ∨ Fmt.isSNaN .d (s.getFmt .d fk) = true) then excV else excNone) ∧
    (e &&& s.fpEnables = 0#5 → ∃ t, exec (.fcmpCondD cd fj fk cond) s = .next t ∧
      (t.getCf cd = true ↔ Fmt.CondHolds .d cond (s.getFmt .d fj) (s.getFmt .d fk)) ∧
      FcsrAfter s t e ∧ AtNext s t ∧ OnlyCfFcsr cd s t)) ∧
  TrapsFpe (.fcmpCondD cd fj fk cond) (fun s => cond ∉
    ([0x12#5, 0x13#5, 0x16#5, 0x17#5, 0x1A#5, 0x1B#5, 0x1C#5, 0x1D#5, 0x1E#5, 0x1F#5] : List (BitVec 5)) ∧
      FpReady true s)
    (fun s => (if (if cond.getLsbD 0 then Fmt.isNaN .d (s.getFmt .d fj) = true ∨
      Fmt.isNaN .d (s.getFmt .d fk) = true else Fmt.isSNaN .d (s.getFmt .d fj) = true ∨
        Fmt.isSNaN .d (s.getFmt .d fk) = true) then excV else excNone))

/-- FABS, FNEG, FCOPYSIGN, FCLASS, FMOV, FSEL: bit for bit, and FCSR0 untouched. With the unit present and enabled, each
completes: FABS clears, FNEG inverts and FCOPYSIGN takes from fk the sign bit, every other bit as in fj; FCLASS
delivers the one bit of the class of fj; FMOV copies fj; FSEL copies all of fk or fj by CFR[ca]. No exception is
signalled, FCSR0 and everything else stays but the pc (the upper half of a single result is open). R682-R685,
R696-R699, R733-R735; that they leave FCSR0 alone is decision D56. -/
def Obligations.FpSignClassAndSelect : Prop :=
  ∀ (fd fj fk : Reg) (ca : BitVec 3),
  WritesFrSome (.fabsS fd fj) (FpReady false) .s fd (fun s x => ∀ i < 32, x.getLsbD i = (decide (i ≠ 31) &&
    (s.getFr fj).getLsbD i)) ∧
  WritesFrSome (.fnegS fd fj) (FpReady false) .s fd (fun s x => ∀ i < 32, x.getLsbD i = (decide (i = 31) ^^
    (s.getFr fj).getLsbD i)) ∧
  WritesFrSome (.fcopysignS fd fj fk) (FpReady false) .s fd
    (fun s x => ∀ i < 32, x.getLsbD i = (if i = 31 then (s.getFr fk).getLsbD i else (s.getFr fj).getLsbD i)) ∧
  WritesFr (.fclassS fd fj) (FpReady false) .s fd (fun s => BitVec.twoPow 64 (Fmt.classBit .s (s.getFmt .s fj))) ∧
  WritesFr (.fmovS fd fj) (FpReady false) .s fd (fun s => s.getFr fj) ∧
  WritesFrSome (.fabsD fd fj) (FpReady true) .d fd (fun s x => ∀ i < 64, x.getLsbD i = (decide (i ≠ 63) &&
    (s.getFr fj).getLsbD i)) ∧
  WritesFrSome (.fnegD fd fj) (FpReady true) .d fd (fun s x => ∀ i < 64, x.getLsbD i = (decide (i = 63) ^^
    (s.getFr fj).getLsbD i)) ∧
  WritesFrSome (.fcopysignD fd fj fk) (FpReady true) .d fd
    (fun s x => ∀ i < 64, x.getLsbD i = (if i = 63 then (s.getFr fk).getLsbD i else (s.getFr fj).getLsbD i)) ∧
  WritesFr (.fclassD fd fj) (FpReady true) .d fd (fun s => BitVec.twoPow 64 (Fmt.classBit .d (s.getFmt .d fj))) ∧
  WritesFr (.fmovD fd fj) (FpReady true) .d fd (fun s => s.getFr fj) ∧
  WritesFr (.fsel fd fj fk ca) (FpReady false) .d fd (fun s => if s.getCf ca then s.getFr fk else s.getFr fj)

/-- The moves between general, floating-point, flag and FCSR registers. With the unit present and enabled each move
completes: MOVGR2FR.W/D and MOVGR2FRH.W write the low word, all or the high word of FR[fd]; MOVFR2GR.S/D and
MOVFRH2GR.S deliver the low word (sign-extended), all, or the high word (sign-extended); the flag moves copy bit 0
(zero-extended back); MOVFCSR2GR and MOVGR2FCSR read and write the bits of FCSR0 that FCSR 0 to 3 show and no other;
a higher FCSR number reads 0 and ignores writes. On an instance whose CF2R_UPPER or FCSR_ABSENT is any value, only
bit 0 of a flag move is stated, a higher FCSR number reads as some value, and a write of it leaves some value in the
existing bits of FCSR0. Nothing else changes but the pc. R736-R750. Zero extension from a flag is decision D67,
absent FCSRs D66, both parameters (log 47). -/
def Obligations.FpMoves : Prop :=
  ∀ (fd rd fj rj : Reg) (cj : BitVec 3) (cd : BitVec 3) (fcsr : BitVec 5),
  WritesFr (.movgr2frW fd rj) (FpReady false) .s fd (fun s => s.getGr rj) ∧
  WritesFr (.movgr2frD fd rj) (fun s => s.cfg.la64 = true ∧ FpReady true s) .d fd (fun s => s.getGr rj) ∧
  WritesFr (.movgr2frhW fd rj) (FpReady true) .d fd
    (fun s => BitVec.ofNat 64 ((s.getGr rj).toNat % 2 ^ 32 * 2 ^ 32 + (s.getFr fd).toNat % 2 ^ 32)) ∧
  WritesGr (.movfr2grS rd fj) (FpReady false) rd (fun s => BitVec.ofInt 64 (s.getFrS fj).toInt) ∧
  WritesGr (.movfr2grD rd fj) (fun s => s.cfg.la64 = true ∧ FpReady true s) rd (fun s => s.getFr fj) ∧
  WritesGr (.movfrh2grS rd fj) (FpReady true) rd (fun s => wordOf (((s.getFr fj).toNat / 2 ^ 32 : Nat) : Int)) ∧
  WritesFr (.movcf2fr fd cj) (fun s => FpReady false s ∧ s.cfg.cf2rUpperZero = true) .d fd
    (fun s => if s.getCf cj then 1#64 else 0#64) ∧
  WritesFrSome (.movcf2fr fd cj) (fun s => FpReady false s ∧ s.cfg.cf2rUpperZero = false) .d fd
    (fun s x => x.getLsbD 0 = s.getCf cj) ∧
  WritesGr (.movcf2gr rd cj) (fun s => FpReady false s ∧ s.cfg.cf2rUpperZero = true) rd
    (fun s => if s.getCf cj then 1#64 else 0#64) ∧
  WritesGrSome (.movcf2gr rd cj) (fun s => FpReady false s ∧ s.cfg.cf2rUpperZero = false) rd
    (fun s v => v.getLsbD 0 = s.getCf cj) ∧
  (∀ s, FpReady false s → ∃ t, exec (.movfr2cf cd fj) s = .next t ∧ t.getCf cd = (s.getFr fj).getLsbD 0 ∧
    t.fcsr0 = s.fcsr0 ∧ AtNext s t ∧ OnlyCfFcsr cd s t) ∧
  (∀ s, FpReady false s → ∃ t, exec (.movgr2cf cd rj) s = .next t ∧ t.getCf cd = (s.getGr rj).getLsbD 0 ∧
    t.fcsr0 = s.fcsr0 ∧ AtNext s t ∧ OnlyCfFcsr cd s t) ∧
  (∀ m : BitVec 32, (fcsr, m) ∈ [(0#5, 0x1F1F031F#32), (1#5, 0x1F#32), (2#5, 0x1F1F0000#32), (3#5, 0x300#32)] →
    WritesGrSome (.movfcsr2gr rd fcsr) (FpReady false) rd (fun s v => v = BitVec.ofInt 64 (s.fcsr0 &&& m).toInt) ∧
    ∀ s, FpReady false s → ∃ t, exec (.movgr2fcsr fcsr rj) s = .next t ∧ AtNext s t ∧
      OnlyPc { s with fcsr0 := t.fcsr0 } t ∧
      ∀ i < 32, t.fcsr0.getLsbD i = if m.getLsbD i then (s.getGr rj).getLsbD i else s.fcsr0.getLsbD i) ∧
  (3 < fcsr.toNat →
    WritesGr (.movfcsr2gr rd fcsr) (fun s => FpReady false s ∧ s.cfg.fcsrAbsentNoop = true) rd (fun _ => 0#64) ∧
    GoesTo (.movgr2fcsr fcsr rj) (fun s => FpReady false s ∧ s.cfg.fcsrAbsentNoop = true) (fun s => s.pc + 4) ∧
    WritesGrSome (.movfcsr2gr rd fcsr) (fun s => FpReady false s ∧
      s.cfg.fcsrAbsentNoop = false) rd (fun _ _ => True) ∧
    ∀ s, FpReady false s → s.cfg.fcsrAbsentNoop = false → ∃ t, exec (.movgr2fcsr fcsr rj) s = .next t ∧ AtNext s t ∧
      OnlyPc { s with fcsr0 := t.fcsr0 } t ∧
      ∀ i < 32, (0x1F1F031F#32).getLsbD i = false → t.fcsr0.getLsbD i = s.fcsr0.getLsbD i)

/-- The sixteen floating-point loads and stores and the two flag branches. With the unit present and enabled: a load
whose access passes every check delivers the little-endian number to FR[fd] (the upper half after a word load is
open), a store puts the low word or all of FR[fd] there, the bound-check forms where their bound holds (compared
signed, D48), and BCE is taken where it does not; nothing else changes but the pc and MWPS. BCEQZ and BCNEZ go to pc
plus four times the offset when the flag is 0 or 1, else to pc + 4, and change nothing else. R760-R778. The signed
bound comparison is decision D48 (log 31); the little-endian order of the bytes is decision D2 (log 22). The entry
of an exception is R851 and R846: with VS other than 0 by decision D76 (log 63), the debug registers log 44. -/
def Obligations.FpLoadsStoresAndBranches : Prop :=
  ∀ (fd rj rk : Reg) (i12 : BitVec 12) (cj : BitVec 3) (offs : BitVec 21),
  LoadsFr (.fldS fd rj i12) (FpReady false) (fun s => s.ordinary .load
    (s.getGr rj + BitVec.ofInt 64 i12.toInt) 4) .s fd ∧
  LoadsFr (.fldD fd rj i12) (FpReady true) (fun s => s.ordinary .load
    (s.getGr rj + BitVec.ofInt 64 i12.toInt) 8) .d fd ∧
  LoadsFr (.fldxS fd rj rk) (fun s => s.cfg.la64 = true ∧
    FpReady false s) (fun s => s.ordinary .load (s.getGr rj + s.getGr rk) 4) .s fd ∧
  LoadsFr (.fldxD fd rj rk) (fun s => s.cfg.la64 = true ∧
    FpReady true s) (fun s => s.ordinary .load (s.getGr rj + s.getGr rk) 8) .d fd ∧
  StoresMem (.fstS fd rj i12) (FpReady false) (fun s => s.ordinary .store
    (s.getGr rj + BitVec.ofInt 64 i12.toInt) 4) (fun s => s.getFr fd) ∧
  StoresMem (.fstD fd rj i12) (FpReady true) (fun s => s.ordinary .store (s.getGr rj + BitVec.ofInt 64 i12.toInt) 8)
    (fun s => s.getFr fd) ∧
  StoresMem (.fstxS fd rj rk) (fun s => s.cfg.la64 = true ∧
    FpReady false s) (fun s => s.ordinary .store (s.getGr rj + s.getGr rk) 4) (fun s => s.getFr fd) ∧
  StoresMem (.fstxD fd rj rk) (fun s => s.cfg.la64 = true ∧
    FpReady true s) (fun s => s.ordinary .store (s.getGr rj + s.getGr rk) 8) (fun s => s.getFr fd) ∧
  LoadsFr (.fldgtS fd rj rk) (fun s => s.cfg.la64 = true ∧ FpReady false s ∧ s.cfg.boundCmpSigned = true ∧
    s.sd rk < s.sd rj)
    (fun s => s.aligned .load (s.getGr rj) 4) .s fd ∧
  LoadsFr (.fldgtD fd rj rk) (fun s => s.cfg.la64 = true ∧ FpReady true s ∧ s.cfg.boundCmpSigned = true ∧
    s.sd rk < s.sd rj)
    (fun s => s.aligned .load (s.getGr rj) 8) .d fd ∧
  LoadsFr (.fldleS fd rj rk) (fun s => s.cfg.la64 = true ∧ FpReady false s ∧ s.cfg.boundCmpSigned = true ∧
    s.sd rj ≤ s.sd rk)
    (fun s => s.aligned .load (s.getGr rj) 4) .s fd ∧
  LoadsFr (.fldleD fd rj rk) (fun s => s.cfg.la64 = true ∧ FpReady true s ∧ s.cfg.boundCmpSigned = true ∧
    s.sd rj ≤ s.sd rk)
    (fun s => s.aligned .load (s.getGr rj) 8) .d fd ∧
  StoresMem (.fstgtS fd rj rk) (fun s => s.cfg.la64 = true ∧ FpReady false s ∧ s.cfg.boundCmpSigned = true ∧
    s.sd rk < s.sd rj)
    (fun s => s.aligned .store (s.getGr rj) 4) (fun s => s.getFr fd) ∧
  StoresMem (.fstgtD fd rj rk) (fun s => s.cfg.la64 = true ∧ FpReady true s ∧ s.cfg.boundCmpSigned = true ∧
    s.sd rk < s.sd rj)
    (fun s => s.aligned .store (s.getGr rj) 8) (fun s => s.getFr fd) ∧
  StoresMem (.fstleS fd rj rk) (fun s => s.cfg.la64 = true ∧ FpReady false s ∧ s.cfg.boundCmpSigned = true ∧
    s.sd rj ≤ s.sd rk)
    (fun s => s.aligned .store (s.getGr rj) 4) (fun s => s.getFr fd) ∧
  StoresMem (.fstleD fd rj rk) (fun s => s.cfg.la64 = true ∧ FpReady true s ∧ s.cfg.boundCmpSigned = true ∧
    s.sd rj ≤ s.sd rk)
    (fun s => s.aligned .store (s.getGr rj) 8) (fun s => s.getFr fd) ∧
  MemTraps (.fldgtS fd rj rk) (fun s => s.bounded .load (s.getGr rj) 4 (s.boundGt rj rk))
    (fun s => s.cfg.la64 = true ∧ FpReady false s ∧ s.cfg.boundCmpSigned = true ∧ s.sd rj ≤ s.sd rk ∧
      (s.watchMem (s.bounded .load (s.getGr rj) 4 (s.boundGt rj rk))).2 = false ∧
        (s.vaddr (s.getGr rj)).toNat % 4 = 0 ∧
      s.addressError .load (s.vaddr (s.getGr rj)) = false) 0xA#6 0#9 (fun s => s.vaddr (s.getGr rj)) ∧
  MemTraps (.fldgtD fd rj rk) (fun s => s.bounded .load (s.getGr rj) 8 (s.boundGt rj rk))
    (fun s => s.cfg.la64 = true ∧ FpReady true s ∧ s.cfg.boundCmpSigned = true ∧ s.sd rj ≤ s.sd rk ∧
      (s.watchMem (s.bounded .load (s.getGr rj) 8 (s.boundGt rj rk))).2 = false ∧
        (s.vaddr (s.getGr rj)).toNat % 8 = 0 ∧
      s.addressError .load (s.vaddr (s.getGr rj)) = false) 0xA#6 0#9 (fun s => s.vaddr (s.getGr rj)) ∧
  MemTraps (.fldleS fd rj rk) (fun s => s.bounded .load (s.getGr rj) 4 (s.boundLe rj rk))
    (fun s => s.cfg.la64 = true ∧ FpReady false s ∧ s.cfg.boundCmpSigned = true ∧ s.sd rk < s.sd rj ∧
      (s.watchMem (s.bounded .load (s.getGr rj) 4 (s.boundLe rj rk))).2 = false ∧
        (s.vaddr (s.getGr rj)).toNat % 4 = 0 ∧
      s.addressError .load (s.vaddr (s.getGr rj)) = false) 0xA#6 0#9 (fun s => s.vaddr (s.getGr rj)) ∧
  MemTraps (.fldleD fd rj rk) (fun s => s.bounded .load (s.getGr rj) 8 (s.boundLe rj rk))
    (fun s => s.cfg.la64 = true ∧ FpReady true s ∧ s.cfg.boundCmpSigned = true ∧ s.sd rk < s.sd rj ∧
      (s.watchMem (s.bounded .load (s.getGr rj) 8 (s.boundLe rj rk))).2 = false ∧
        (s.vaddr (s.getGr rj)).toNat % 8 = 0 ∧
      s.addressError .load (s.vaddr (s.getGr rj)) = false) 0xA#6 0#9 (fun s => s.vaddr (s.getGr rj)) ∧
  MemTraps (.fstgtS fd rj rk) (fun s => s.bounded .store (s.getGr rj) 4 (s.boundGt rj rk))
    (fun s => s.cfg.la64 = true ∧ FpReady false s ∧ s.cfg.boundCmpSigned = true ∧ s.sd rj ≤ s.sd rk ∧
      (s.watchMem (s.bounded .store (s.getGr rj) 4 (s.boundGt rj rk))).2 = false ∧
        (s.vaddr (s.getGr rj)).toNat % 4 = 0 ∧
      s.addressError .store (s.vaddr (s.getGr rj)) = false) 0xA#6 0#9 (fun s => s.vaddr (s.getGr rj)) ∧
  MemTraps (.fstgtD fd rj rk) (fun s => s.bounded .store (s.getGr rj) 8 (s.boundGt rj rk))
    (fun s => s.cfg.la64 = true ∧ FpReady true s ∧ s.cfg.boundCmpSigned = true ∧ s.sd rj ≤ s.sd rk ∧
      (s.watchMem (s.bounded .store (s.getGr rj) 8 (s.boundGt rj rk))).2 = false ∧
        (s.vaddr (s.getGr rj)).toNat % 8 = 0 ∧
      s.addressError .store (s.vaddr (s.getGr rj)) = false) 0xA#6 0#9 (fun s => s.vaddr (s.getGr rj)) ∧
  MemTraps (.fstleS fd rj rk) (fun s => s.bounded .store (s.getGr rj) 4 (s.boundLe rj rk))
    (fun s => s.cfg.la64 = true ∧ FpReady false s ∧ s.cfg.boundCmpSigned = true ∧ s.sd rk < s.sd rj ∧
      (s.watchMem (s.bounded .store (s.getGr rj) 4 (s.boundLe rj rk))).2 = false ∧
        (s.vaddr (s.getGr rj)).toNat % 4 = 0 ∧
      s.addressError .store (s.vaddr (s.getGr rj)) = false) 0xA#6 0#9 (fun s => s.vaddr (s.getGr rj)) ∧
  MemTraps (.fstleD fd rj rk) (fun s => s.bounded .store (s.getGr rj) 8 (s.boundLe rj rk))
    (fun s => s.cfg.la64 = true ∧ FpReady true s ∧ s.cfg.boundCmpSigned = true ∧ s.sd rk < s.sd rj ∧
      (s.watchMem (s.bounded .store (s.getGr rj) 8 (s.boundLe rj rk))).2 = false ∧
        (s.vaddr (s.getGr rj)).toNat % 8 = 0 ∧
      s.addressError .store (s.vaddr (s.getGr rj)) = false) 0xA#6 0#9 (fun s => s.vaddr (s.getGr rj)) ∧
  GoesTo (.bceqz cj offs) (FpReady false)
    (fun s => if s.getCf cj = false then s.pc + BitVec.ofInt 64 (offs.toInt * 4) else s.pc + 4) ∧
  GoesTo (.bcnez cj offs) (FpReady false)
    (fun s => if s.getCf cj = true then s.pc + BitVec.ofInt 64 (offs.toInt * 4) else s.pc + 4)

/-- Sums, products, quotients, fused sums, roots, reciprocals, scalings, conversions and roundings are the exact value
rounded once. For both formats, every rounding mode and all finite operands: FADD, FSUB, FMUL, FDIV (divisor not
zero), the fused multiply-add and its FMSUB form, FRECIP (operand not zero), FSCALEB, the conversion from integers
and between formats signal neither V nor Z; they signal overflow (with inexact) exactly where the value rounded with
unbounded exponent exceeds every finite datum, and then deliver the infinity or the largest finite datum of Table 7;
otherwise they deliver the finite datum that is the rounding of the exact rational result in that mode (largest not
above, smallest not below, toward zero, nearest with ties to even), with its sign, signalling inexact exactly when
it differs, and underflow exactly when the exact result is not 0, its rounding with unbounded exponent is below the
smallest normal magnitude (tininess after rounding), and either the delivered datum differs from it or Enables.U is
1. FSQRT and FRSQRT of a positive finite operand deliver the rounding of the root in the same sense (FRSQRT in its
one-rounding form; the composed form of the parameter is the division of 1 by the rounded root with the exceptions
of both), signalling at most inexact. FLOGB of a nonzero finite operand delivers the integer e with 2^e <= |value| <
2^(e+1), FRINT of a finite operand the integer its value rounds to, with its sign, inexact signalled where they
differ and reporting is on. R647, R649, R653, R654, R655, R658-R665, R686-R695, R704-R709, R731, R732, stated on
rationals, without the algorithm. That the operations are those of IEEE 754 is the spec's general knowledge G6 (log
27); the one rounding of FRSQRT is decision D60 (log 29), the reporting of FRINT D62 (log 28). -/
def Obligations.FpResultsAreCorrectlyRounded : Prop :=
  ∀ (f : Fmt) (c : FpCtl) (a b z : Word), f.Finite a → f.Finite b → f.Finite z →
  f.Delivers c (f.value a + f.value b) (f.add c a b) ∧
  f.Delivers c (f.value a - f.value b) (f.sub c a b) ∧
  f.Delivers c (f.value a * f.value b) (f.mul c a b) ∧
  (f.value b ≠ 0 → f.Delivers c (f.value a / f.value b) (f.div c a b)) ∧
  f.Delivers c (f.value a * f.value b + f.value z) (f.fma c false a b z) ∧
  f.Delivers c (f.value a * f.value b - f.value z) (f.fma c true a b z) ∧
  (f.value a ≠ 0 → f.Delivers c (1 / f.value a) (f.recip c a)) ∧
  (∀ n : Int, f.Delivers c (f.value a * (2 : ℚ) ^ n) (f.scaleB c a n)) ∧
  (∀ n : Int, -2 ^ 63 ≤ n → n < 2 ^ 63 → f.Delivers c n (f.fromInt c n)) ∧
  (∀ x, Fmt.Finite .d x → Fmt.Delivers .s c (Fmt.value .d x) (cvtSD c x)) ∧
  (∀ x, Fmt.Finite .s x → Fmt.Delivers .d c (Fmt.value .s x) (cvtDS c x)) ∧
  (0 < f.value a → f.DeliversRoot c.rm (fun y => y ^ 2 ≤ f.value a) (fun y => f.value a ≤ y ^ 2) (f.sqrt c a) ∧
    f.DeliversRoot c.rm (fun y => y ^ 2 * f.value a ≤ 1) (fun y => 1 ≤ y ^ 2 * f.value a) (f.rsqrt c false a) ∧
    f.rsqrt c true a = ⟨(f.div c f.one (f.sqrt c a).bits).bits,
      (f.sqrt c a).exc ||| (f.div c f.one (f.sqrt c a).bits).exc⟩) ∧
  (f.value a ≠ 0 → ∃ (e : Int) (x : Word), (2 : ℚ) ^ e ≤ |f.value a| ∧ |f.value a| < 2 ^ (e + 1) ∧
    f.logB c a = ⟨x, excNone⟩ ∧ f.Finite x ∧ f.value x = e ∧ (e = 0 → f.sign x = false)) ∧
  (∀ report, f.Finite (f.rint c report a).bits ∧ f.value (f.rint c report a).bits = integerOf c.rm (f.value a) ∧
    f.sign (f.rint c report a).bits = f.sign a ∧
    (f.rint c report a).exc = excI (report && decide ((integerOf c.rm (f.value a) : ℚ) ≠ f.value a)))

/-- CSRRD, CSRWR, CSRXCHG at PLV0: what reaches GR[rd]; which register each number reads; counter reads below PLV0. At
PLV0 CSRRD delivers the value read (0 for a number the architecture does not define) to GR[rd] and changes nothing
else; at PLVn with MISC.RPCNTLn = 1 it delivers an implemented performance counter. CSRWR and CSRXCHG (all numbers
but ECFG and RVACFG, and those two with values that pass) complete, deliver the old value to GR[rd], and leave every
other general register, FR, flag, FCSR0, byte of memory, TLB entry and IOCSR byte as it was; with an undefined
number they change nothing else at all. Each number of the address map reads the register of its row, and 0 where
the instance lacks it: CRMD to EENTRY, the TLB and page-walk CSRs, RVACFG, CPUID, PRCFG1 to PRCFG3 field by field,
SAVEn, the timer CSRs, LLBCTL, the refill and machine error CSRs, DMWn, the performance monitors, the watchpoint
CSRs, DBG, DERA, DSAVE; a register of 32 bits sign-extended; the views of other state computed at the read: ALCL
constant 1 without UAL, ESTAT.IS the pending interrupts beside Ecode and EsubCode, ASIDBITS, PGD by the highest bit
of the bad address of the current context, TVAL the count of the timer, ROLLB the LLbit with WCLLB and TICLR reading
0, the numbers of watchpoints, DRev. R780-R783, R80-R85, R194 and the rule of each register. ECFG and RVACFG refuse
values beyond VMax and RVAMAX (U7, U9; log 18); that RBits is limited to 8 where HAS_RVA is 0 is log 53, the model's
choice; that numbers that are undefined or not implemented read 0 and ignore writes is decision D11, that TICLR and
WCLLB read 0 D10 (log 66), that IMPCTL1, IMPCTL2 and CTAG are not implemented log 39; 16 SAVE registers in PRCFG1
are log 55, DRev log 70. -/
def Obligations.CsrAccessCompletes : Prop :=
  ∀ (rd rj : Reg) (csr : BitVec 14),
  WritesGr (.csrrd rd csr) (fun s => s.plv = 0#2) rd (fun s => s.csrReadNum csr) ∧
  (∀ (s : State) (k : Nat) (h : k < 32), s.plv ≠ 0#2 → s.csr.misc.getLsbD (8 + s.plv.toNat) = true →
    k < s.cfg.pmCount →
    csr.toNat = 0x201 + 2 * k → ∃ t, exec (.csrrd rd csr) s = .next t ∧ GrIs s t rd s.pm.pmcnt[k] ∧ AtNext s t ∧
      OnlyGr rd s t) ∧
  (¬DefinedCsr csr.toNat → ∀ s : State, s.csrReadNum csr = 0#64 ∧
    (s.plv = 0#2 → (∃ t, exec (.csrwr rd csr) s = .next t ∧ GrIs s t rd 0#64 ∧ AtNext s t ∧ OnlyGr rd s t) ∧
      ∃ t, exec (.csrxchg rd rj csr) s = .next t ∧ GrIs s t rd 0#64 ∧ AtNext s t ∧ OnlyGr rd s t)) ∧
  (∀ (i : Instr) (m : State → Word), (i = .csrwr rd csr ∧ m = fun _ => BitVec.allOnes 64) ∨
      (i = .csrxchg rd rj csr ∧ m = fun s => s.getGr rj) →
    ∀ s : State, s.plv = 0#2 →
      (csr = 0x4#14 → ((mix s.csr.ecfg (low32 (s.getGr rd)) (low32 (m s))).extractLsb' 16 3) ≤ s.cfg.vMax) →
      (csr = 0x1F#14 → ((mix s.csr.rvacfg (low32 (s.getGr rd)) (low32 (m s))).extractLsb' 0 4).toNat ≤
        (if s.cfg.hasRva then min 8 (s.cfg.rvamaxMinus1.toNat + 1) else 8)) →
      ∃ t, exec i s = .next t ∧ GrIs s t rd (s.csrReadNum csr) ∧ AtNext s t ∧ SameGrBut rd s t ∧ SameFr s t ∧
        SameCf s t ∧ t.fcsr0 = s.fcsr0 ∧ SameMem s t ∧ t.tlb = s.tlb ∧ t.iocsr = s.iocsr ∧ t.lladdr = s.lladdr ∧
        t.idle = s.idle ∧ SameOutside s t) ∧
  ∀ s : State, ReadsCsrs s (fun n => s.csrReadNum (BitVec.ofNat 14 n))

/-- CSRWR and CSRXCHG write the masked writable bits of a CSR; which other CSRs read differently after it. At PLV0, for
each implemented CSR: after CSRWR (all bits) or CSRXCHG (the bits that are 1 in GR[rj]) GR[rd] has received the old
value and the CSR reads back, bit by bit, the new bit where the field exists and is writable and the mask is 1, the
old one elsewhere (a 32-bit register sign-extended): CRMD, PRMD, EUEN, MISC, ECFG and RVACFG with a value that is
accepted, ESTAT.IS[1:0], ERA, BADV, EENTRY, TLBIDX, TLBELO0/1, ASID, PGDL, PGDH, PWCL, PWCH, STLBPS, SAVE, TID,
TCFG, CNTC, TLBRENTRY, TLBRBADV, TLBRERA, TLBRSAVE, TLBRELO0/1, TLBRPRMD, MERRCTL, MERRENTRY, MERRERA, MERRSAVE,
DMW, PMCFG, PMCNT, the watchpoint configurations (DMOnly in debug mode only; a watchpoint whose DMOnly is 1 not at
all outside it), DERA, DSAVE. TLBEHI and TLBREHI keep VPPN, sign-extended from VALEN, and TLBREHI its PS; LLBCTL
keeps KLO, and a 1 written to WCLLB clears LLbit; a 1 written to a status bit of MWPS or FWPS clears it, Skip takes
what is written. The CSRs that are wholly read-only (BADI, PGD, CPUID, PRCFG1 to PRCFG3, TVAL, MERRINFO1 and
MERRINFO2, MWPC, FWPC, DBG) read as before. Every other CSR number reads as before, with four exceptions: PGD after
a write of PGDL, PGDH, BADV, TLBRBADV or TLBRERA; after a write of TCFG, TVAL reads the new TCFG with its two low
bits 0 where En is 1 and as before where En is 0; after a write of TICLR, which itself reads 0, ESTAT reads as
before but IS[11], which is 0 where a 1 was written to bit 0; after a write of a performance monitor, ESTAT reads as
before but for IS[10]. R782, R783, R81, R82, R85, R878 and the rule of each register. PGD (0x1B) is a view of PGDL,
PGDH and the bad address, ESTAT.IS[10] of the monitors; which register a number reads is in the statement on CSR
access. WE without watchpoints is log 33, EUEN log 34, NR, NX and RPLV log 35, the PPN field in LA32 decision D30
(log 64); values that ECFG and RVACFG do not accept are log 18. TVAL after TCFG is R161 and R876 (that every write
with En = 1 reloads it is decision D78, log 43), ESTAT.IS[11] after TICLR R164; what TI and the running timer do is
in the statement on the timer. -/
def Obligations.CsrExchangeReadsBack : Prop :=
  ∀ (rd rj : Reg) (csr : BitVec 14) (i : Instr) (m : State → Word),
  ((i = .csrwr rd csr ∧ m = fun _ => BitVec.allOnes 64) ∨ (i = .csrxchg rd rj csr ∧ m = fun s => s.getGr rj)) →
  ∀ s : State, s.plv = 0#2 → (csrOfNum s.cfg csr).isSome = true →
  (csr = 0x4#14 → ((mix s.csr.ecfg (low32 (s.getGr rd)) (low32 (m s))).extractLsb' 16 3) ≤ s.cfg.vMax) →
  (csr = 0x1F#14 → ((mix s.csr.rvacfg (low32 (s.getGr rd)) (low32 (m s))).extractLsb' 0 4).toNat ≤
    (if s.cfg.hasRva then min 8 (s.cfg.rvamaxMinus1.toNat + 1) else 8)) →
  ∃ t, exec i s = .next t ∧ GrIs s t rd (s.csrReadNum csr) ∧
    (csr ∈ [0x8#14, 0x1B#14, 0x20#14, 0x21#14, 0x22#14, 0x23#14, 0x42#14, 0x91#14, 0x92#14, 0x300#14, 0x380#14,
      0x500#14] → t.csrReadNum csr = s.csrReadNum csr) ∧
    (∀ n : BitVec 14, n ≠ csr → (n = 0x1B#14 → csr ∉ [0x7#14, 0x19#14, 0x1A#14, 0x89#14, 0x8A#14]) →
      (n = 0x5#14 → csr ≠ 0x44#14 ∧ (csr.toNat < 0x200 ∨ 0x240 ≤ csr.toNat)) → (n = 0x42#14 → csr ≠ 0x41#14) →
      t.csrReadNum n = s.csrReadNum n) ∧
    (csr = 0x41#14 → t.csrReadNum 0x42#14 =
      if (t.csrReadNum 0x41#14).getLsbD 0 then t.csrReadNum 0x41#14 &&& ~~~3#64 else s.csrReadNum 0x42#14) ∧
    (csr = 0x44#14 → t.csrReadNum 0x44#14 = 0#64 ∧ ∀ j < 64, (t.csrReadNum 0x5#14).getLsbD j =
      ((s.csrReadNum 0x5#14).getLsbD j && !(decide (j = 11) && (m s).getLsbD 0 && (s.getGr rd).getLsbD 0))) ∧
    (0x200 ≤ csr.toNat → csr.toNat < 0x240 → ∀ j < 64, j ≠ 10 →
      (t.csrReadNum 0x5#14).getLsbD j = (s.csrReadNum 0x5#14).getLsbD j) ∧
    ∀ new : Bool → Nat → Bool, new = (fun w j => exchanged w (s.csrReadNum csr) (s.getGr rd) (m s) j) →
    (∀ b32 w, (csr.toNat, b32, w) ∈ plainCsrs s →
      (∀ j < (if b32 = true then 32 else 64), (t.csrReadNum csr).getLsbD j = new (w j) j) ∧
      (b32 = true → ∀ j, 32 ≤ j → j < 64 → (t.csrReadNum csr).getLsbD j = (t.csrReadNum csr).getLsbD 31)) ∧
    (csr = 0x11#14 ∨ csr = 0x8E#14 → 14 ≤ s.cfg.valen → s.cfg.valen ≤ 64 →
      ∀ j < 64, (t.csrReadNum csr).getLsbD j =
        if j < 6 then csr == 0x8E#14 && new true j
        else decide (13 ≤ j) && (if s.cfg.la64 then new true (min j (s.cfg.valen - 1)) else decide
          (j < 32) && new true j)) ∧
    (csr = 0x60#14 → t.llbit = (s.llbit && !((m s).getLsbD 1 && (s.getGr rd).getLsbD 1)) ∧
      ∀ j < 32, (t.csrReadNum csr).getLsbD j =
        if j = 0 then t.llbit else if j = 1 then false else new (decide (j = 2)) j) ∧
    (∀ num, (csr = 0x301#14 ∧ num = s.cfg.mwpNum) ∨ (csr = 0x381#14 ∧ num = s.cfg.fwpNum) →
      ∀ j < 32, (t.csrReadNum csr).getLsbD j =
        if j = 16 then new true j
        else (s.csrReadNum csr).getLsbD j && !(decide (j < num) && (m s).getLsbD j && (s.getGr rd).getLsbD j))

/-- IOCSRRD and IOCSRWR read and write little-endian bytes of the IOCSR space. With IOCSR present and at PLV0, IOCSRRD
delivers the sign-extended little-endian number of the 1, 2, 4 or 8 bytes from GR[rj] (addresses modulo 2^GRLEN, no
translation, a byte the host map does not define reading 0); IOCSRWR stores the low bytes of GR[rd] at those bytes that
the host map defines and changes no other byte of the space; nothing else changes but the pc. The forms of 2, 4 and 8
bytes take ALE with BADV = the address where it is no multiple of the size, alignment is checked at PLV0 (UAL is 0 or
MISC.ALCL0 is 1) and the instance applies that rule to these instructions; they complete in every other case. R98, R243,
R784-R792. Which bytes exist, and that the others read 0 and ignore writes, is the host's map, decision D69 (log 36).
That these instructions have no alignment rule (R784, D69), or that of R98 and R243, whose footnote lists them, is a
parameter, by default the former: log 54, the model's choice between rules that contradict each other. The write form
asks for the canonical form that every step keeps. The entry of an exception is R851 and R846: with VS other than 0 by
decision D76 (log 63), the debug registers log 44. -/
def Obligations.IocsrAccess : Prop :=
  ∀ (rd rj : Reg),
  WritesGr (.iocsrrdB rd rj) (fun s => s.cfg.hasIocsr = true ∧ s.plv = 0#2) rd
    (fun s => signedBytes 1 (littleEndian ((s.cfg.iocsrAddrs (s.getGr rj) 1).map s.iocsrByte))) ∧
  WritesGr (.iocsrrdH rd rj) (fun s => s.cfg.hasIocsr = true ∧ s.plv = 0#2 ∧
      (s.cfg.alclCoversAll = true → s.cfg.ual = false ∨ s.csr.misc.getLsbD 12 = true →
      (s.cfg.wrap (s.getGr rj)).toNat % 2 = 0)) rd
    (fun s => signedBytes 2 (littleEndian ((s.cfg.iocsrAddrs (s.getGr rj) 2).map s.iocsrByte))) ∧
  WritesGr (.iocsrrdW rd rj) (fun s => s.cfg.hasIocsr = true ∧ s.plv = 0#2 ∧
      (s.cfg.alclCoversAll = true → s.cfg.ual = false ∨ s.csr.misc.getLsbD 12 = true →
      (s.cfg.wrap (s.getGr rj)).toNat % 4 = 0)) rd
    (fun s => signedBytes 4 (littleEndian ((s.cfg.iocsrAddrs (s.getGr rj) 4).map s.iocsrByte))) ∧
  WritesGr (.iocsrrdD rd rj) (fun s => s.cfg.la64 = true ∧ s.cfg.hasIocsr = true ∧ s.plv = 0#2 ∧
      (s.cfg.alclCoversAll = true → s.cfg.ual = false ∨ s.csr.misc.getLsbD 12 = true →
      (s.cfg.wrap (s.getGr rj)).toNat % 8 = 0)) rd
    (fun s => signedBytes 8 (littleEndian ((s.cfg.iocsrAddrs (s.getGr rj) 8).map s.iocsrByte))) ∧
  (∀ s : State, s.cfg.hasIocsr = true → s.plv = 0#2 → sparseWf 0#8 s.iocsr = true →
    ∃ t, exec (.iocsrwrB rd rj) s = .next t ∧ AtNext s t ∧
    OnlyPc { s with iocsr := t.iocsr } t ∧
    (∀ k < 1, ∀ a, a = (s.cfg.wrap (s.getGr rj + BitVec.ofNat 64 k)).toNat → iocsrDefined s.cfg a = true →
      t.iocsrByte a = (s.getGr rd).extractLsb' (8 * k) 8) ∧
    ∀ a, (a ∉ s.cfg.iocsrAddrs (s.getGr rj) 1 ∨ iocsrDefined s.cfg a = false) → t.iocsrByte a = s.iocsrByte a) ∧
  (∀ s : State, s.cfg.hasIocsr = true → s.plv = 0#2 → sparseWf 0#8 s.iocsr = true →
    (s.cfg.alclCoversAll = true → s.cfg.ual = false ∨ s.csr.misc.getLsbD 12 = true →
      (s.cfg.wrap (s.getGr rj)).toNat % 2 = 0) → ∃ t, exec (.iocsrwrH rd rj) s = .next t ∧ AtNext s t ∧
    OnlyPc { s with iocsr := t.iocsr } t ∧
    (∀ k < 2, ∀ a, a = (s.cfg.wrap (s.getGr rj + BitVec.ofNat 64 k)).toNat → iocsrDefined s.cfg a = true →
      t.iocsrByte a = (s.getGr rd).extractLsb' (8 * k) 8) ∧
    ∀ a, (a ∉ s.cfg.iocsrAddrs (s.getGr rj) 2 ∨ iocsrDefined s.cfg a = false) → t.iocsrByte a = s.iocsrByte a) ∧
  (∀ s : State, s.cfg.hasIocsr = true → s.plv = 0#2 → sparseWf 0#8 s.iocsr = true →
    (s.cfg.alclCoversAll = true → s.cfg.ual = false ∨ s.csr.misc.getLsbD 12 = true →
      (s.cfg.wrap (s.getGr rj)).toNat % 4 = 0) → ∃ t, exec (.iocsrwrW rd rj) s = .next t ∧ AtNext s t ∧
    OnlyPc { s with iocsr := t.iocsr } t ∧
    (∀ k < 4, ∀ a, a = (s.cfg.wrap (s.getGr rj + BitVec.ofNat 64 k)).toNat → iocsrDefined s.cfg a = true →
      t.iocsrByte a = (s.getGr rd).extractLsb' (8 * k) 8) ∧
    ∀ a, (a ∉ s.cfg.iocsrAddrs (s.getGr rj) 4 ∨ iocsrDefined s.cfg a = false) → t.iocsrByte a = s.iocsrByte a) ∧
  (∀ s : State, s.cfg.la64 = true → s.cfg.hasIocsr = true → s.plv = 0#2 → sparseWf 0#8 s.iocsr = true →
    (s.cfg.alclCoversAll = true → s.cfg.ual = false ∨ s.csr.misc.getLsbD 12 = true →
      (s.cfg.wrap (s.getGr rj)).toNat % 8 = 0) → ∃ t, exec (.iocsrwrD rd rj) s = .next t ∧ AtNext s t ∧
    OnlyPc { s with iocsr := t.iocsr } t ∧
    (∀ k < 8, ∀ a, a = (s.cfg.wrap (s.getGr rj + BitVec.ofNat 64 k)).toNat → iocsrDefined s.cfg a = true →
      t.iocsrByte a = (s.getGr rd).extractLsb' (8 * k) 8) ∧
    ∀ a, (a ∉ s.cfg.iocsrAddrs (s.getGr rj) 8 ∨ iocsrDefined s.cfg a = false) → t.iocsrByte a = s.iocsrByte a) ∧
  Traps (.iocsrrdH rd rj) (fun s => s.cfg.hasIocsr = true ∧ s.plv = 0#2 ∧ s.cfg.alclCoversAll = true ∧
      (s.cfg.ual = false ∨ s.csr.misc.getLsbD 12 = true) ∧ (s.cfg.wrap (s.getGr rj)).toNat % 2 ≠ 0)
    0x9#6 0#9 (fun s => s.cfg.wrap (s.getGr rj)) ∧
  Traps (.iocsrrdW rd rj) (fun s => s.cfg.hasIocsr = true ∧ s.plv = 0#2 ∧ s.cfg.alclCoversAll = true ∧
      (s.cfg.ual = false ∨ s.csr.misc.getLsbD 12 = true) ∧ (s.cfg.wrap (s.getGr rj)).toNat % 4 ≠ 0)
    0x9#6 0#9 (fun s => s.cfg.wrap (s.getGr rj)) ∧
  Traps (.iocsrrdD rd rj) (fun s => s.cfg.la64 = true ∧ s.cfg.hasIocsr = true ∧ s.plv = 0#2 ∧
    s.cfg.alclCoversAll = true ∧
      (s.cfg.ual = false ∨ s.csr.misc.getLsbD 12 = true) ∧ (s.cfg.wrap (s.getGr rj)).toNat % 8 ≠ 0)
    0x9#6 0#9 (fun s => s.cfg.wrap (s.getGr rj)) ∧
  Traps (.iocsrwrH rd rj) (fun s => s.cfg.hasIocsr = true ∧ s.plv = 0#2 ∧ s.cfg.alclCoversAll = true ∧
      (s.cfg.ual = false ∨ s.csr.misc.getLsbD 12 = true) ∧ (s.cfg.wrap (s.getGr rj)).toNat % 2 ≠ 0)
    0x9#6 0#9 (fun s => s.cfg.wrap (s.getGr rj)) ∧
  Traps (.iocsrwrW rd rj) (fun s => s.cfg.hasIocsr = true ∧ s.plv = 0#2 ∧ s.cfg.alclCoversAll = true ∧
      (s.cfg.ual = false ∨ s.csr.misc.getLsbD 12 = true) ∧ (s.cfg.wrap (s.getGr rj)).toNat % 4 ≠ 0)
    0x9#6 0#9 (fun s => s.cfg.wrap (s.getGr rj)) ∧
  Traps (.iocsrwrD rd rj) (fun s => s.cfg.la64 = true ∧ s.cfg.hasIocsr = true ∧ s.plv = 0#2 ∧
    s.cfg.alclCoversAll = true ∧
      (s.cfg.ual = false ∨ s.csr.misc.getLsbD 12 = true) ∧ (s.cfg.wrap (s.getGr rj)).toNat % 8 ≠ 0)
    0x9#6 0#9 (fun s => s.cfg.wrap (s.getGr rj)) ∧
  (∀ (s : State) (a : Nat), iocsrDefined s.cfg a = false → s.iocsrByte a = 0#8)

/-- IDLE waits, DBCL enters debug mode, CACOP by query runs the address part of a load. At PLV0: IDLE enters the wait
state, unless what would wake the core already holds (an interrupt pending and enabled in ECFG.LIE, with IE = 1 where
the parameter of D75 asks for it, or a pending machine error): then the core does not wait; the pc advances, nothing
else changes. DBCL (at PLV0, or anywhere where the parameter says so) outside debug mode sets DBG.DM and DBG.DCL, DERA =
pc and posts the host event, inside it keeps DERA; no register, memory or other CSR changes; where execution goes on is
open (log 21). CACOP with op[4:3] = 2 changes nothing but the pc where the address is legal and translates, takes ADEM
with BADV where it is illegal, and the exception of the translation where that fails, with no alignment or watchpoint
test. R793 (D70, log 37), R805 (D33, D74, log 21), R806, R874. What wakes the core is decision D75 (log 42). The entry
of an exception is R851 and R846: with VS other than 0 by decision D76 (log 63), the debug registers log 44. The refill
entry in 32-bit address mode is log 46. -/
def Obligations.IdleDebugCallAndCacheQuery : Prop :=
  ∀ (op : BitVec 5) (rj : Reg) (si12 : BitVec 12) (code : BitVec 15),
  (∀ s : State, s.plv = 0#2 → ∃ t, exec (.idle code) s = .next t ∧ AtNext s t ∧
    (t.idle = true ↔ ¬((s.cfg.idleWakeNeedsIe = true → s.csr.crmd.getLsbD 2 = true) ∧
      ∃ n < 13, s.isBits.getLsbD n = true ∧ s.csr.ecfg.getLsbD n = true) ∧ s.merrPending = none) ∧
    OnlyPc { s with idle := t.idle } t) ∧
  (∀ s : State, s.plv = 0#2 ∨ s.cfg.dbclPrivileged = false → ∃ t, exec (.dbcl code) s = .next t ∧
    t.debugCall = some code ∧ t.dbg.dbg.getLsbD 0 = true ∧
    (s.dbg.dbg.getLsbD 0 = false → t.dbg.dera = s.pc ∧ t.dbg.dbg.getLsbD 9 = true ∧
      ∀ i, i ≠ 0 → i ≠ 9 → t.dbg.dbg.getLsbD i = s.dbg.dbg.getLsbD i) ∧
    (s.dbg.dbg.getLsbD 0 = true → t.dbg.dera = s.dbg.dera) ∧ t.dbg.dsave = s.dbg.dsave ∧
    OnlyPc { s with dbg := t.dbg, debugCall := t.debugCall } t) ∧
  (∀ (s : State) (va : Word), va = s.vaddr (s.getGr rj + BitVec.ofInt 64 si12.toInt) → s.plv = 0#2 →
    op.toNat / 8 = 2 →
    (s.addressError .load va = true → ∃ t, exec (.cacop op rj si12) s = .next t ∧ GeneralEntry s t 0x8 0x8#6 1#9 ∧
      t.csr.badv = va ∧ t.csr.badi = s.curInsn ∧ t.mmu = s.mmu ∧ t.watch = s.watch ∧ t.fcsr0 = s.fcsr0) ∧
    (s.addressError .load va = false →
      (∀ p, s.translate .load va = .ok p → ∃ t, exec (.cacop op rj si12) s = .next t ∧ AtNext s t ∧ OnlyPc s t) ∧
      (∀ x, s.translate .load va = .trap x → exec (.cacop op rj si12) s = .next (s.takeExc false x)) ∧
      (∀ a, s.translate .load va = .trap (.tlbr a) → ∃ t, exec (.cacop op rj si12) s = .next t ∧ RefillEntry s t a ∧
        t.csr.badi = s.curInsn ∧ t.watch = s.watch)))

/-- TLBSRCH, TLBRD, TLBWR, TLBFILL complete: which entry and which CSR fields they touch, field by field. At PLV0 with a
TLB of at most 16 index bits: TLBSRCH looks up the page of TLBEHI (TLBREHI in the refill context): with no matching
entry it sets TLBIDX.NE, with exactly one at index i it clears NE and writes Index = i, and changes nothing else; two
matching entries stop. TLBRD of an index in range completes: a valid entry is copied to TLBEHI.VPPN (sign-extended from
VALEN), to TLBELO0 and TLBELO1 (V, D, PLV, MAT, G, PPN, NR, NX, RPLV, each in its place, every other bit 0), TLBIDX.PS
(STLBPS.PS for an entry of the STLB), NE = 0 and ASID.ASID; an invalid one clears TLBEHI, TLBELO0/1 and PS and sets NE,
ASID kept. TLBWR completes at an MTLB index, and at an STLB index whose set is that of the written VPPN and with PS =
STLBPS.PS: the entry there becomes the one the CSRs of the context describe (E by NE or 1 in the refill context, ASID,
PS, VPPN, G the AND of both, and V, D, PLV, MAT, PPN, NR, NX, RPLV of each half), and no other entry changes; a conflict
with the set or the page size, and an index beyond the TLB, stop. TLBFILL completes and writes that entry at some way of
its set when its PS is STLBPS.PS and there is an STLB, else at some MTLB index. No register or memory changes.
R794-R799, R130-R134, R145, R146, R290, R292-R295. ASID after an invalid entry is decision D71 (log 65), the victim of
TLBFILL D72 (log 12), the set D34 and the PPN field in LA32 D30 (log 64). Index out of range, set conflicts and multiple
hits stop (U15, U26, U27; log 19), as does an STLB page size that PRCFG2 does not list (U11) and a lookup or a valid
entry written there would use (an invalid one is written all the same: log 18, the model's choice), but for TLBRD, which
delivers it: log 72, the model's choice; the bits of VPPN that a page size below 4 KB names and no entry holds are 0 by
log 58. The canonical TLB form is the invariant every step keeps. -/
def Obligations.TlbSearchReadWriteFill : Prop :=
  ∀ (s : State) (idx : Nat) (key : Word) (ps : BitVec 6), s.plv = 0#2 → s.cfg.hasPgmmu = true → s.cfg.tlbType ≠ 0 →
  s.TlbOk → s.cfg.tlbidxN ≤ 16 → idx = s.mmu.tlbidx.toNat % 2 ^ s.cfg.tlbidxN →
  key = (if s.mmu.tlbrera.getLsbD 0 then s.mmu.tlbrehi else s.mmu.tlbehi) &&& ~~~0x1FFF#64 →
  ps = (if s.mmu.tlbrera.getLsbD 0 then s.mmu.tlbrehi.extractLsb' 0 6 else s.mmu.tlbidx.extractLsb' 24 6) →
  (s.StlbUsable →
    ((∀ i, ¬s.EntryMatches key i) →
      ∃ t, exec .tlbsrch s = .next t ∧ AtNext s t ∧ OnlyPc { s with mmu := { s.mmu with tlbidx := t.mmu.tlbidx } } t ∧
        t.mmu.tlbidx.getLsbD 31 = true ∧ ∀ j < 31, t.mmu.tlbidx.getLsbD j = s.mmu.tlbidx.getLsbD j) ∧
    (∀ i, s.EntryMatches key i → (∀ j, s.EntryMatches key j → j = i) → i < 2 ^ s.cfg.tlbidxN →
      ∃ t, exec .tlbsrch s = .next t ∧ AtNext s t ∧ OnlyPc { s with mmu := { s.mmu with tlbidx := t.mmu.tlbidx } } t ∧
        t.mmu.tlbidx.getLsbD 31 = false ∧ t.mmu.tlbidx.toNat % 2 ^ s.cfg.tlbidxN = i ∧
        ∀ j, s.cfg.tlbidxN ≤ j → j < 31 → t.mmu.tlbidx.getLsbD j = s.mmu.tlbidx.getLsbD j) ∧
    (∀ i j, i ≠ j → s.EntryMatches key i → s.EntryMatches key j → exec .tlbsrch s = .fault .multipleTlbHit)) ∧
  (¬s.StlbUsable → exec .tlbsrch s = .refused .pageSizeUnsupported) ∧
  (∀ e, e = s.tlbAt idx → idx < tlbEntries s.cfg →
    ∃ t, exec .tlbrd s = .next t ∧ AtNext s t ∧
      OnlyPc { s with mmu := { s.mmu with
        tlbidx := t.mmu.tlbidx, tlbehi := t.mmu.tlbehi, tlbelo0 := t.mmu.tlbelo0, tlbelo1 := t.mmu.tlbelo1,
        asid := t.mmu.asid } } t ∧
      (∀ j, j < 24 ∨ j = 30 → t.mmu.tlbidx.getLsbD j = s.mmu.tlbidx.getLsbD j) ∧
      (e.e = true → t.mmu.tlbidx.getLsbD 31 = false ∧
        t.mmu.tlbidx.extractLsb' 24 6 =
          (if idx < stlbEntries s.cfg then s.mmu.stlbps.extractLsb' 0 6 else e.ps) ∧
        t.mmu.asid.extractLsb' 0 10 = e.asid ∧ (∀ j, 10 ≤ j → t.mmu.asid.getLsbD j = s.mmu.asid.getLsbD j) ∧
        (14 ≤ s.cfg.valen → s.cfg.valen ≤ 64 → ∀ j < 64, t.mmu.tlbehi.getLsbD j = (decide (13 ≤ j) &&
          (if s.cfg.la64 then e.vppn.getLsbD (min j (s.cfg.valen - 1) - 13)
            else decide (j < 32) && e.vppn.getLsbD (j - 13)))) ∧
        ((s.cfg.la64 = true → s.cfg.palen ≤ 60) → (s.cfg.la64 = false → 7 ≤ s.cfg.la32PpnLsb) →
          EloIs s.cfg e.g e.page0 t.mmu.tlbelo0 ∧ EloIs s.cfg e.g e.page1 t.mmu.tlbelo1)) ∧
      (e.e = false → t.mmu.tlbidx.getLsbD 31 = true ∧ t.mmu.tlbidx.extractLsb' 24 6 = 0#6 ∧
        t.mmu.tlbehi = 0#64 ∧ t.mmu.tlbelo0 = 0#64 ∧ t.mmu.tlbelo1 = 0#64 ∧ t.mmu.asid = s.mmu.asid)) ∧
  (tlbEntries s.cfg ≤ idx → exec .tlbrd s = .fault .tlbIndexRange ∧ exec .tlbwr s = .fault .tlbIndexRange) ∧
  (idx < tlbEntries s.cfg →
    (stlbEntries s.cfg ≤ idx ∨ (ps = s.mmu.stlbps.extractLsb' 0 6 ∧ idx % 2 ^ s.cfg.stlbSets = s.stlbSet key ∧
      ((s.mmu.tlbrera.getLsbD 0 = false ∧ s.mmu.tlbidx.getLsbD 31 = true) ∨
        s.cfg.psavl.getLsbD (s.mmu.stlbps.extractLsb' 0 6).toNat = true)) →
      ∃ t, exec .tlbwr s = .next t ∧ AtNext s t ∧ OnlyPc { s with tlb := t.tlb } t ∧
        (∀ i, i ≠ idx → t.tlbAt i = s.tlbAt i) ∧ s.DescribesEntry (t.tlbAt idx)) ∧
    (idx < stlbEntries s.cfg → ps ≠ s.mmu.stlbps.extractLsb' 0 6 ∨ idx % 2 ^ s.cfg.stlbSets ≠ s.stlbSet key →
      exec .tlbwr s = .fault .stlbConflict)) ∧
  ((s.cfg.tlbType = 2 → ps = s.mmu.stlbps.extractLsb' 0 6 →
      (s.mmu.tlbrera.getLsbD 0 = false ∧ s.mmu.tlbidx.getLsbD 31 = true) ∨
        s.cfg.psavl.getLsbD (s.mmu.stlbps.extractLsb' 0 6).toNat = true) →
    ∃ t i, exec .tlbfill s = .next t ∧ AtNext s t ∧ OnlyPc { s with tlb := t.tlb } t ∧ i < tlbEntries s.cfg ∧
      (if s.cfg.tlbType = 2 ∧ ps = s.mmu.stlbps.extractLsb' 0 6 then
        i < stlbEntries s.cfg ∧ i % 2 ^ s.cfg.stlbSets = s.stlbSet key
       else stlbEntries s.cfg ≤ i) ∧
      (∀ j, j ≠ i → t.tlbAt j = s.tlbAt j) ∧ s.DescribesEntry (t.tlbAt i))

/-- TLBCLR, TLBFLUSH and INVTLB make exactly the entries of their condition invalid. At PLV0 with a TLB: TLBCLR clears E
of the non-global entries with the current ASID, TLBFLUSH of all entries, of the MTLB or of the STLB set that
TLBIDX.Index names; INVTLB 0 to 6 clears E of the entries its row of Table 13 names (all, all, G = 1, G = 0, G = 0 and
ASID, those also matching the address, global or ASID and address). Every other entry, and every other field of state
but the pc, stays. R795, R800-R802. That INVTLB 5 and 6 go on with an STLB page size that PRCFG2 does not list is log
72, the model's choice; the bits of VPPN that a page size below 4 KB names and no entry holds are 0 by log 58. The
canonical TLB form is the invariant every step keeps. -/
def Obligations.TlbInvalidation : Prop :=
  ∀ (rj rk : Reg) (op : BitVec 5) (s : State), s.plv = 0#2 → s.cfg.hasPgmmu = true → s.cfg.tlbType ≠ 0 →
  sparseWf TlbEntry.empty s.tlb = true →
  ∀ scope : Nat → Prop, scope = (fun i => if stlbEntries s.cfg ≤ s.tlbIndex then stlbEntries s.cfg ≤ i
      else i < stlbEntries s.cfg ∧ i % 2 ^ s.cfg.stlbSets = s.tlbIndex % 2 ^ s.cfg.stlbSets) →
  (∃ t, exec .tlbclr s = .next t ∧ AtNext s t ∧ OnlyPc { s with tlb := t.tlb } t ∧
    ∀ i, (scope i ∧ (s.tlbAt i).g = false ∧ (s.tlbAt i).asid = s.mmu.asid.extractLsb' 0 10 → (t.tlbAt i).e = false) ∧
      (¬(scope i ∧ (s.tlbAt i).g = false ∧ (s.tlbAt i).asid = s.mmu.asid.extractLsb' 0 10) → t.tlbAt i = s.tlbAt i)) ∧
  (∃ t, exec .tlbflush s = .next t ∧ AtNext s t ∧ OnlyPc { s with tlb := t.tlb } t ∧
    ∀ i, (scope i → (t.tlbAt i).e = false) ∧ (¬scope i → t.tlbAt i = s.tlbAt i)) ∧
  (op.toNat ≤ 6 → ∃ t, exec (.invtlb op rj rk) s = .next t ∧ AtNext s t ∧ OnlyPc { s with tlb := t.tlb } t ∧
    ∀ (i : Nat) (g own at' cond : Prop), (g ↔ (s.tlbAt i).g = true) →
      (own ↔ (s.tlbAt i).asid = (s.getGr rj).extractLsb' 0 10) →
      (at' ↔ (s.tlbAt i).vppn.toNat * 2 ^ 13 % 2 ^ s.cfg.valen / 2 ^ (s.entryPs i (s.tlbAt i) + 1) =
        (s.getGr rk).toNat % 2 ^ s.cfg.valen / 2 ^ (s.entryPs i (s.tlbAt i) + 1)) →
      (cond ↔ op.toNat = 0 ∨ op.toNat = 1 ∨ (op.toNat = 2 ∧ g) ∨ (op.toNat = 3 ∧ ¬g) ∨ (op.toNat = 4 ∧ ¬g ∧ own) ∨
        (op.toNat = 5 ∧ ¬g ∧ own ∧ at') ∨ (op.toNat = 6 ∧ (g ∨ own) ∧ at')) →
      (cond → (t.tlbAt i).e = false) ∧ (¬cond → t.tlbAt i = s.tlbAt i))

/-- LDDIR and LDPTE complete: they read the entry of the bad address, or pass a huge page on, in LA64 and LA32. With
LSPW and at PLV0: LDDIR delivers GR[rj] unchanged where its bit 6 is 1; otherwise, for levels 1 to 4 (1 and 2 in LA32),
the word of GRLEN bits at the physical address GR[rj] plus the index that the level's base and width take from the bad
address (TLBRBADV in the refill context, else BADV) times the entry size, modulo 2^PALEN, sign-extended in LA32. LDPTE
puts the writable TLBELO fields of the entry of the page pair half that seq[0] selects into TLBRELO0 or TLBRELO1, with
TLBREHI.PS = PTbase; for a huge page (bit 6 of GR[rj]) it puts there V, D, PLV and MAT of GR[rj], G from its bit 12, NR,
NX and RPLV, and its page number with the bits below hps = PTbase + PTwidth cleared and address bit ps, where PPN holds
it, set to seq[0], with TLBREHI.PS = ps = hps - 1 (some value where hps is 0). Nothing else changes but the pc. These
reads need memory that can be read there, DATM other than the reserved 3, and, where the instance applies the alignment
rule to them and it is checked at PLV0, an address that is a multiple of the size: otherwise ALE is taken with BADV =
the address. A level the page tables do not have stops, where GR[rj] is no huge-page entry. R807-R809, R312-R317, R12.
That the reads are physical and the entry size are decisions D39, D40 (log 41), the PPN field in LA32 D30 (log 64); bit
6 whatever HAS_HP says is log 59, hps = 0 log 60, a ps below 12 or past the top of PPN, which then sets no bit, log 75,
no alignment exception by R807 or the alignment rule of R98 and R243 log 54, by default the former, other levels U29 and
that a huge-page entry passes through there too log 20, the bits of an index field past the top of the bad address log
74, and that neither instruction depends on SPW_LVL and SPW_HP_HF of CPUCFG log 71: the model's choices. The entry of an
exception is R851 and R846: with VS other than 0 by decision D76 (log 63), the debug registers log 44. -/
def Obligations.PageWalk : Prop :=
  ∀ (rd rj : Reg) (i8 seq : BitVec 8) (s : State) (va : Word) (n stride lsb : Nat),
  va = (if s.mmu.tlbrera.getLsbD 0 then s.mmu.tlbrbadv else s.csr.badv) →
  n = (if s.cfg.la64 then 8 else 4) →
  stride = (if s.cfg.la64 then 8 * ((s.mmu.pwcl.extractLsb' 30 2).toNat + 1) else 4) →
  lsb = (if s.cfg.la64 then 12 else s.cfg.la32PpnLsb) →
  s.cfg.hasLspw = true → s.plv = 0#2 →
  ∀ (first : Nat → Nat) (bytes : Nat → List Nat) (checked : Prop) (reads : Nat → Prop),
  first = (fun index => ((s.cfg.wrap (s.getGr rj)).toNat + index * stride) % 2 ^ s.cfg.palen) →
  bytes = (fun index => (List.range n).map fun k => (first index + k) % 2 ^ s.cfg.palen) →
  (checked ↔ s.cfg.alclCoversAll = true ∧ (s.cfg.ual = false ∨ s.csr.misc.getLsbD 12 = true)) →
  reads = (fun index => (checked → first index % n = 0) ∧ s.csr.crmd.extractLsb' 7 2 ≠ 3#2 ∧
    ∀ a ∈ bytes index, byteRefusal s.cfg .load a = none) →
  ∀ level : Nat → Nat → Prop, level = (fun base width =>
      (i8.toNat = 1 ∧ base = (s.mmu.pwcl.extractLsb' 10 5).toNat ∧ width = (s.mmu.pwcl.extractLsb' 15 5).toNat) ∨
      (i8.toNat = 2 ∧ base = (s.mmu.pwcl.extractLsb' 20 5).toNat ∧ width = (s.mmu.pwcl.extractLsb' 25 5).toNat) ∨
      (s.cfg.la64 = true ∧ i8.toNat = 3 ∧ base = (s.mmu.pwch.extractLsb' 0 6).toNat ∧
        width = (s.mmu.pwch.extractLsb' 6 6).toNat) ∨
      (s.cfg.la64 = true ∧ i8.toNat = 4 ∧ base = (s.mmu.pwch.extractLsb' 12 6).toNat ∧
        width = (s.mmu.pwch.extractLsb' 18 6).toNat)) →
  ∀ (odd : Bool) (ptBase hps half : Nat), odd = seq.getLsbD 0 → ptBase = (s.mmu.pwcl.extractLsb' 0 5).toNat →
  hps = ptBase + (s.mmu.pwcl.extractLsb' 5 5).toNat →
  half = va.toNat / 2 ^ ptBase % 2 ^ (s.mmu.pwcl.extractLsb' 5 5).toNat / 2 * 2 + (if odd then 1 else 0) →
  ((s.getGr rj).getLsbD 6 = true →
    (∃ t, exec (.lddir rd rj i8) s = .next t ∧ GrIs s t rd (s.getGr rj) ∧ AtNext s t ∧ OnlyGr rd s t) ∧
    ∃ t ps, exec (.ldpte rj seq) s = .next t ∧ AtNext s t ∧
      OnlyPc { s with mmu := { s.mmu with
        tlbrehi := t.mmu.tlbrehi, tlbrelo0 := t.mmu.tlbrelo0, tlbrelo1 := t.mmu.tlbrelo1 } } t ∧
      (0 < hps → ps = hps - 1) ∧ ps < 64 ∧ t.mmu.tlbrehi.extractLsb' 0 6 = BitVec.ofNat 6 ps ∧
      (∀ j, 6 ≤ j → t.mmu.tlbrehi.getLsbD j = s.mmu.tlbrehi.getLsbD j) ∧
      (odd = true → t.mmu.tlbrelo0 = s.mmu.tlbrelo0) ∧ (odd = false → t.mmu.tlbrelo1 = s.mmu.tlbrelo1) ∧
      ((s.cfg.la64 = true → s.cfg.palen ≤ 60) → (s.cfg.la64 = false → 8 ≤ s.cfg.la32PpnLsb ∧ s.cfg.la32PpnLsb ≤ 12) →
        ∀ j < 64, (if odd then t.mmu.tlbrelo1 else t.mmu.tlbrelo0).getLsbD j =
          if j = 6 then (s.getGr rj).getLsbD 12
          else if ppnField s.cfg j then
            (if j + 12 = ps + lsb then odd else decide (hps + lsb ≤ j + 12) && (s.getGr rj).getLsbD j)
          else eloField s.cfg j && (s.getGr rj).getLsbD j)) ∧
  ((s.getGr rj).getLsbD 6 = false →
    (∀ base width index, level base width → index = va.toNat / 2 ^ base % 2 ^ width →
      (reads index → ∃ t, exec (.lddir rd rj i8) s = .next t ∧ AtNext s t ∧ OnlyGr rd s t ∧
        GrIs s t rd (BitVec.ofNat 64 (s.bytesAt (bytes index)))) ∧
      (checked → first index % n ≠ 0 → ∃ t, exec (.lddir rd rj i8) s = .next t ∧ GeneralEntry s t 0x9 0x9#6 0#9 ∧
        t.csr.badv = s.vaddr (BitVec.ofNat 64 (first index)) ∧ t.csr.badi = s.curInsn)) ∧
    ((∀ base width, ¬level base width) → exec (.lddir rd rj i8) s = .refused .lddirLevel) ∧
    (reads half → ∃ t, exec (.ldpte rj seq) s = .next t ∧ AtNext s t ∧
      OnlyPc { s with mmu := { s.mmu with
        tlbrehi := t.mmu.tlbrehi, tlbrelo0 := t.mmu.tlbrelo0, tlbrelo1 := t.mmu.tlbrelo1 } } t ∧
      t.mmu.tlbrehi.extractLsb' 0 6 = BitVec.ofNat 6 ptBase ∧
      (∀ j, 6 ≤ j → t.mmu.tlbrehi.getLsbD j = s.mmu.tlbrehi.getLsbD j) ∧
      (odd = true → t.mmu.tlbrelo0 = s.mmu.tlbrelo0) ∧ (odd = false → t.mmu.tlbrelo1 = s.mmu.tlbrelo1) ∧
      ∀ j < 64, (if odd then t.mmu.tlbrelo1 else t.mmu.tlbrelo0).getLsbD j =
        (eloField s.cfg j && (s.bytesAt (bytes half)).testBit j)) ∧
    (checked → first half % n ≠ 0 → ∃ t, exec (.ldpte rj seq) s = .next t ∧ GeneralEntry s t 0x9 0x9#6 0#9 ∧
      t.csr.badv = s.vaddr (BitVec.ofNat 64 (first half)) ∧ t.csr.badi = s.curInsn))

/-- ERTN restores the mode and the pc of the innermost context, and the LLbit rule. At PLV0 ERTN completes. In debug
mode it clears DM and goes to DERA; else with IsMERR it restores PLV, IE, WE, DA, PG, DATF, DATM from MERRCTL,
clears IsMERR and goes to MERRERA; else with IsTLBR it restores PLV, IE, WE from TLBRPRMD, sets DA 0 and PG 1,
clears IsTLBR and goes to TLBRERA.PC; else it restores PLV, IE, WE from PRMD and goes to ERA. Every other bit of
CRMD and every other CSR stays, but that KLO = 1 is cleared; LLbit becomes 0 unless KLO was 1. No register, flag or
byte changes. R803, R804. The order in which the four contexts are tried (debug, machine error, refill, general) is
marked [derived] inside R803: an inference of the spec, which the model follows. -/
def Obligations.ErtnReturnsByContext : Prop :=
  ∀ s : State, s.plv = 0#2 → ∃ t, exec .ertn s = .next t ∧
  (s.csr.llbctl.getLsbD 2 = true → t.llbit = s.llbit ∧ t.csr.llbctl.getLsbD 2 = false ∧
    ∀ i, i ≠ 2 → t.csr.llbctl.getLsbD i = s.csr.llbctl.getLsbD i) ∧
  (s.csr.llbctl.getLsbD 2 = false → t.llbit = false ∧ t.csr.llbctl = s.csr.llbctl) ∧
  OnlyPc { s with
    csr := { s.csr with crmd := t.csr.crmd, llbctl := t.csr.llbctl }
    ras := { s.ras with merrctl := t.ras.merrctl }
    mmu := { s.mmu with tlbrera := t.mmu.tlbrera }
    dbg := { s.dbg with dbg := t.dbg.dbg }
    llbit := t.llbit } t ∧
  t.csr.crmd.extractLsb' 10 22 = s.csr.crmd.extractLsb' 10 22 ∧
  (if s.dbg.dbg.getLsbD 0 then
    t.dbg.dbg.getLsbD 0 = false ∧ (∀ i, i ≠ 0 → t.dbg.dbg.getLsbD i = s.dbg.dbg.getLsbD i) ∧
    t.pc = s.cfg.wrap s.dbg.dera ∧ t.csr.crmd = s.csr.crmd ∧ t.ras = s.ras ∧ t.mmu = s.mmu
   else if s.ras.merrctl.getLsbD 0 then
    t.ras.merrctl.getLsbD 0 = false ∧ (∀ i, i ≠ 0 → t.ras.merrctl.getLsbD i = s.ras.merrctl.getLsbD i) ∧
    t.pc = s.cfg.wrap s.ras.merrera ∧ t.dbg = s.dbg ∧ t.mmu = s.mmu ∧
    t.csr.crmd.extractLsb' 0 3 = s.ras.merrctl.extractLsb' 2 3 ∧
    t.csr.crmd.getLsbD 9 = s.ras.merrctl.getLsbD 6 ∧ t.csr.crmd.extractLsb' 3 6 = s.ras.merrctl.extractLsb' 7 6
   else if s.mmu.tlbrera.getLsbD 0 then
    t.mmu.tlbrera.getLsbD 0 = false ∧ (∀ i, i ≠ 0 → t.mmu.tlbrera.getLsbD i = s.mmu.tlbrera.getLsbD i) ∧
    t.pc = s.cfg.wrap (s.mmu.tlbrera &&& ~~~3#64) ∧ t.dbg = s.dbg ∧ t.ras = s.ras ∧
    t.csr.crmd.extractLsb' 0 3 = s.mmu.tlbrprmd.extractLsb' 0 3 ∧
    t.csr.crmd.getLsbD 9 = s.mmu.tlbrprmd.getLsbD 4 ∧ t.csr.crmd.extractLsb' 3 2 = 0b10#2 ∧
    t.csr.crmd.extractLsb' 5 4 = s.csr.crmd.extractLsb' 5 4
   else
    t.pc = s.cfg.wrap s.csr.era ∧ t.dbg = s.dbg ∧ t.ras = s.ras ∧ t.mmu = s.mmu ∧
    t.csr.crmd.extractLsb' 0 3 = s.csr.prmd.extractLsb' 0 3 ∧ t.csr.crmd.getLsbD 9 = s.csr.prmd.getLsbD 3 ∧
    t.csr.crmd.extractLsb' 3 6 = s.csr.crmd.extractLsb' 3 6)

/-- Which exception an access raises, in one page or two, and what every load, store and atomic form leaves when its
address does not translate. The address part of an access of 1, 2, 4 or 8 bytes answers, in this order: ALE where the
address is no multiple of the size and the form requires alignment or it is checked (UAL is 0 or MISC.ALCL of the
current level is 1); ADEM with the address of the access where it, or the first byte in the next 4 KB page of an access
that reaches into it, is illegal; BCE where the bound fails; the exception of the translation of the address. Where the
access stands in one page it reaches the bytes from the translated address. Where an unaligned access crosses into the
next page, the bytes there are translated from their own first byte address: an exception of that translation is raised,
ALE with the address of the access where the two pages differ in memory access type, and otherwise it reaches the bytes
of both pages in order. A translation that fails raises TLBR or a page exception for exactly the address it was asked
for, so BADV (TLBRBADV) is the address of the access when its first page fails and the first byte address in the second
page when that one fails. Of LD, LDX, LDPTR, ST, STX, STPTR, LL, SC, the thirty-six AM*, the bound-check forms, and FLD,
FLDX, FST, FSTX with theirs: where the watchpoint test lets the access go on and its address part raises TLBR for va,
the form makes the refill entry (TLBRPRMD, TLBRERA, TLBRBADV, TLBREHI.VPPN written, PLV, IE, WE, PG 0 and DA 1, pc =
TLBRENTRY, every other CSR but BADI and MWPS untouched); where it raises PIL, PIS, PME, PNR, PPI, ADEM, ALE or BCE for
va, it makes the general entry with its code and BADV = va, the page exceptions also writing TLBEHI.VPPN and no other
TLB CSR. BADI = the word, MWPS as the watchpoint test left it; no register, flag or byte of memory changes, and no part
of a store is made. R830, R834, R839, R840, R845, R851-R853, R242-R244, R250, R520. Which exception the translation of
an address raises is the subject of the statement on mapped mode. The second page of an unaligned access and the BADV of
its TLB exceptions are decision D36 (log 48); ADEM for an illegal second page with BADV the address of the access is log
57, the model's choice; the wrap of the next page's address R231, R33 (log 61); that only a 4 KB boundary splits an
access, whatever the page size, log 58; an instance without a TLB log 73. What the entries record in 32-bit address mode
is log 46, the debug registers log 44, an entry with VS other than 0 decision D76 (log 63); that the watchpoint test
comes before all of this is log 48. -/
def Obligations.TranslationExceptionsOfAccesses : Prop :=
  (∀ (s : State) (a : Access) (checked : Prop) (room : Nat) (va2 : Word),
    a.kind ≠ .fetch → (a.size = 1 ∨ a.size = 2 ∨ a.size = 4 ∨ a.size = 8) →
    (checked ↔ a.strict = true ∨ s.cfg.ual = false ∨ s.csr.misc.getLsbD (12 + s.plv.toNat) = true) →
    room = 4096 - a.va.toNat % 4096 → va2 = s.vaddr (a.va + BitVec.ofNat 64 room) →
    (checked → a.va.toNat % a.size ≠ 0 → s.accessAddrs a = .trap (.ale a.va)) ∧
    ((checked → a.va.toNat % a.size = 0) →
      ((s.addressError a.kind a.va = true ∨ (room < a.size ∧ s.addressError a.kind va2 = true)) →
        s.accessAddrs a = .trap (.adem a.va)) ∧
      (s.addressError a.kind a.va = false → (room < a.size → s.addressError a.kind va2 = false) →
        (a.outOfBound = true → s.accessAddrs a = .trap (.bce a.va)) ∧
        (a.outOfBound = false →
          (∀ x, s.translate a.kind a.va = .trap x → s.accessAddrs a = .trap x) ∧
          (∀ pa mat, s.translate a.kind a.va = .ok (pa, mat) →
            (a.size ≤ room → s.accessAddrs a = .ok ((List.range a.size).map (pa + ·), mat)) ∧
            (room < a.size →
              (∀ x, s.translate a.kind va2 = .trap x → s.accessAddrs a = .trap x) ∧
              (∀ pb mat2, s.translate a.kind va2 = .ok (pb, mat2) →
                (mat2 ≠ mat → s.accessAddrs a = .trap (.ale a.va)) ∧
                (mat2 = mat → s.accessAddrs a =
                  .ok ((List.range room).map (pa + ·) ++ (List.range (a.size - room)).map (pb + ·), mat))))))))) ∧
  (∀ (s : State) (a : Access) as mat, s.accessAddrs a = .ok (as, mat) → mat ≠ 3#2 →
    (∀ b ∈ as, byteRefusal s.cfg a.kind b = none) → s.accessBytes a = .ok (as, mat)) ∧
  (∀ (s : State) (k : AccessKind) (va : Word) (x : Exc), s.translate k va = .trap x →
    x ∈ [Exc.tlbr va, .pil va, .pis va, .pif va, .pme va, .pnr va, .pnx va, .ppi va]) ∧
  (∀ va, (Exc.pil va).code = (0x1#6, 0#9) ∧ (Exc.pis va).code = (0x2#6, 0#9) ∧ (Exc.pif va).code = (0x3#6, 0#9) ∧
    (Exc.pme va).code = (0x4#6, 0#9) ∧ (Exc.pnr va).code = (0x5#6, 0#9) ∧ (Exc.pnx va).code = (0x6#6, 0#9) ∧
    (Exc.ppi va).code = (0x7#6, 0#9) ∧ (Exc.adef va).code = (0x8#6, 0#9) ∧ (Exc.adem va).code = (0x8#6, 1#9) ∧
    (Exc.ale va).code = (0x9#6, 0#9) ∧ (Exc.bce va).code = (0xA#6, 0#9)) ∧
  ∀ (fd rd rj rk : Reg) (i12 : BitVec 12) (i14 : BitVec 14),
  TakesAddressExceptions (.ldB rd rj i12) Always
    (fun s => s.ordinary .load (s.getGr rj + BitVec.ofInt 64 i12.toInt) 1) ∧
  TakesAddressExceptions (.ldH rd rj i12) Always
    (fun s => s.ordinary .load (s.getGr rj + BitVec.ofInt 64 i12.toInt) 2) ∧
  TakesAddressExceptions (.ldW rd rj i12) Always
    (fun s => s.ordinary .load (s.getGr rj + BitVec.ofInt 64 i12.toInt) 4) ∧
  TakesAddressExceptions (.ldD rd rj i12) InLa64
    (fun s => s.ordinary .load (s.getGr rj + BitVec.ofInt 64 i12.toInt) 8) ∧
  TakesAddressExceptions (.ldBu rd rj i12) Always
    (fun s => s.ordinary .load (s.getGr rj + BitVec.ofInt 64 i12.toInt) 1) ∧
  TakesAddressExceptions (.ldHu rd rj i12) Always
    (fun s => s.ordinary .load (s.getGr rj + BitVec.ofInt 64 i12.toInt) 2) ∧
  TakesAddressExceptions (.ldWu rd rj i12) InLa64
    (fun s => s.ordinary .load (s.getGr rj + BitVec.ofInt 64 i12.toInt) 4) ∧
  TakesAddressExceptions (.ldxB rd rj rk) InLa64
    (fun s => s.ordinary .load (s.getGr rj + s.getGr rk) 1) ∧
  TakesAddressExceptions (.ldxH rd rj rk) InLa64
    (fun s => s.ordinary .load (s.getGr rj + s.getGr rk) 2) ∧
  TakesAddressExceptions (.ldxW rd rj rk) InLa64
    (fun s => s.ordinary .load (s.getGr rj + s.getGr rk) 4) ∧
  TakesAddressExceptions (.ldxD rd rj rk) InLa64
    (fun s => s.ordinary .load (s.getGr rj + s.getGr rk) 8) ∧
  TakesAddressExceptions (.ldxBu rd rj rk) InLa64
    (fun s => s.ordinary .load (s.getGr rj + s.getGr rk) 1) ∧
  TakesAddressExceptions (.ldxHu rd rj rk) InLa64
    (fun s => s.ordinary .load (s.getGr rj + s.getGr rk) 2) ∧
  TakesAddressExceptions (.ldxWu rd rj rk) InLa64
    (fun s => s.ordinary .load (s.getGr rj + s.getGr rk) 4) ∧
  TakesAddressExceptions (.ldptrW rd rj i14) InLa64
    (fun s => s.ordinary .load (s.getGr rj + BitVec.ofInt 64 (i14.toInt * 4)) 4) ∧
  TakesAddressExceptions (.ldptrD rd rj i14) InLa64
    (fun s => s.ordinary .load (s.getGr rj + BitVec.ofInt 64 (i14.toInt * 4)) 8) ∧
  TakesAddressExceptions (.stB rd rj i12) Always
    (fun s => s.ordinary .store (s.getGr rj + BitVec.ofInt 64 i12.toInt) 1) ∧
  TakesAddressExceptions (.stH rd rj i12) Always
    (fun s => s.ordinary .store (s.getGr rj + BitVec.ofInt 64 i12.toInt) 2) ∧
  TakesAddressExceptions (.stW rd rj i12) Always
    (fun s => s.ordinary .store (s.getGr rj + BitVec.ofInt 64 i12.toInt) 4) ∧
  TakesAddressExceptions (.stD rd rj i12) InLa64
    (fun s => s.ordinary .store (s.getGr rj + BitVec.ofInt 64 i12.toInt) 8) ∧
  TakesAddressExceptions (.stxB rd rj rk) InLa64
    (fun s => s.ordinary .store (s.getGr rj + s.getGr rk) 1) ∧
  TakesAddressExceptions (.stxH rd rj rk) InLa64
    (fun s => s.ordinary .store (s.getGr rj + s.getGr rk) 2) ∧
  TakesAddressExceptions (.stxW rd rj rk) InLa64
    (fun s => s.ordinary .store (s.getGr rj + s.getGr rk) 4) ∧
  TakesAddressExceptions (.stxD rd rj rk) InLa64
    (fun s => s.ordinary .store (s.getGr rj + s.getGr rk) 8) ∧
  TakesAddressExceptions (.stptrW rd rj i14) InLa64
    (fun s => s.ordinary .store (s.getGr rj + BitVec.ofInt 64 (i14.toInt * 4)) 4) ∧
  TakesAddressExceptions (.stptrD rd rj i14) InLa64
    (fun s => s.ordinary .store (s.getGr rj + BitVec.ofInt 64 (i14.toInt * 4)) 8) ∧
  TakesAddressExceptions (.fldS fd rj i12) (fun s => FpReady false s)
    (fun s => s.ordinary .load (s.getGr rj + BitVec.ofInt 64 i12.toInt) 4) ∧
  TakesAddressExceptions (.fldD fd rj i12) (fun s => FpReady true s)
    (fun s => s.ordinary .load (s.getGr rj + BitVec.ofInt 64 i12.toInt) 8) ∧
  TakesAddressExceptions (.fstS fd rj i12) (fun s => FpReady false s)
    (fun s => s.ordinary .store (s.getGr rj + BitVec.ofInt 64 i12.toInt) 4) ∧
  TakesAddressExceptions (.fstD fd rj i12) (fun s => FpReady true s)
    (fun s => s.ordinary .store (s.getGr rj + BitVec.ofInt 64 i12.toInt) 8) ∧
  TakesAddressExceptions (.fldxS fd rj rk) (fun s => s.cfg.la64 = true ∧ FpReady false s)
    (fun s => s.ordinary .load (s.getGr rj + s.getGr rk) 4) ∧
  TakesAddressExceptions (.fldxD fd rj rk) (fun s => s.cfg.la64 = true ∧ FpReady true s)
    (fun s => s.ordinary .load (s.getGr rj + s.getGr rk) 8) ∧
  TakesAddressExceptions (.fstxS fd rj rk) (fun s => s.cfg.la64 = true ∧ FpReady false s)
    (fun s => s.ordinary .store (s.getGr rj + s.getGr rk) 4) ∧
  TakesAddressExceptions (.fstxD fd rj rk) (fun s => s.cfg.la64 = true ∧ FpReady true s)
    (fun s => s.ordinary .store (s.getGr rj + s.getGr rk) 8) ∧
  TakesAddressExceptions (.llW rd rj i14) Always
    (fun s => s.aligned .load (s.getGr rj + BitVec.ofInt 64 (i14.toInt * 4)) 4) ∧
  TakesAddressExceptions (.llD rd rj i14) InLa64
    (fun s => s.aligned .load (s.getGr rj + BitVec.ofInt 64 (i14.toInt * 4)) 8) ∧
  TakesAddressExceptions (.scW rd rj i14) Always
    (fun s => s.aligned .rmw (s.getGr rj + BitVec.ofInt 64 (i14.toInt * 4)) 4) ∧
  TakesAddressExceptions (.scD rd rj i14) InLa64
    (fun s => s.aligned .rmw (s.getGr rj + BitVec.ofInt 64 (i14.toInt * 4)) 8) ∧
  TakesAddressExceptions (.amswapW rd rj rk) (fun s => s.cfg.la64 = true ∧ s.cfg.hasLam = true ∧ rd ≠ rj)
    (fun s => s.aligned .rmw (s.getGr rj) 4) ∧
  TakesAddressExceptions (.amswapD rd rj rk) (fun s => s.cfg.la64 = true ∧ s.cfg.hasLam = true ∧ rd ≠ rj)
    (fun s => s.aligned .rmw (s.getGr rj) 8) ∧
  TakesAddressExceptions (.amaddW rd rj rk) (fun s => s.cfg.la64 = true ∧ s.cfg.hasLam = true ∧ rd ≠ rj)
    (fun s => s.aligned .rmw (s.getGr rj) 4) ∧
  TakesAddressExceptions (.amaddD rd rj rk) (fun s => s.cfg.la64 = true ∧ s.cfg.hasLam = true ∧ rd ≠ rj)
    (fun s => s.aligned .rmw (s.getGr rj) 8) ∧
  TakesAddressExceptions (.amandW rd rj rk) (fun s => s.cfg.la64 = true ∧ s.cfg.hasLam = true ∧ rd ≠ rj)
    (fun s => s.aligned .rmw (s.getGr rj) 4) ∧
  TakesAddressExceptions (.amandD rd rj rk) (fun s => s.cfg.la64 = true ∧ s.cfg.hasLam = true ∧ rd ≠ rj)
    (fun s => s.aligned .rmw (s.getGr rj) 8) ∧
  TakesAddressExceptions (.amorW rd rj rk) (fun s => s.cfg.la64 = true ∧ s.cfg.hasLam = true ∧ rd ≠ rj)
    (fun s => s.aligned .rmw (s.getGr rj) 4) ∧
  TakesAddressExceptions (.amorD rd rj rk) (fun s => s.cfg.la64 = true ∧ s.cfg.hasLam = true ∧ rd ≠ rj)
    (fun s => s.aligned .rmw (s.getGr rj) 8) ∧
  TakesAddressExceptions (.amxorW rd rj rk) (fun s => s.cfg.la64 = true ∧ s.cfg.hasLam = true ∧ rd ≠ rj)
    (fun s => s.aligned .rmw (s.getGr rj) 4) ∧
  TakesAddressExceptions (.amxorD rd rj rk) (fun s => s.cfg.la64 = true ∧ s.cfg.hasLam = true ∧ rd ≠ rj)
    (fun s => s.aligned .rmw (s.getGr rj) 8) ∧
  TakesAddressExceptions (.ammaxW rd rj rk) (fun s => s.cfg.la64 = true ∧ s.cfg.hasLam = true ∧ rd ≠ rj)
    (fun s => s.aligned .rmw (s.getGr rj) 4) ∧
  TakesAddressExceptions (.ammaxD rd rj rk) (fun s => s.cfg.la64 = true ∧ s.cfg.hasLam = true ∧ rd ≠ rj)
    (fun s => s.aligned .rmw (s.getGr rj) 8) ∧
  TakesAddressExceptions (.amminW rd rj rk) (fun s => s.cfg.la64 = true ∧ s.cfg.hasLam = true ∧ rd ≠ rj)
    (fun s => s.aligned .rmw (s.getGr rj) 4) ∧
  TakesAddressExceptions (.amminD rd rj rk) (fun s => s.cfg.la64 = true ∧ s.cfg.hasLam = true ∧ rd ≠ rj)
    (fun s => s.aligned .rmw (s.getGr rj) 8) ∧
  TakesAddressExceptions (.ammaxWu rd rj rk) (fun s => s.cfg.la64 = true ∧ s.cfg.hasLam = true ∧ rd ≠ rj)
    (fun s => s.aligned .rmw (s.getGr rj) 4) ∧
  TakesAddressExceptions (.ammaxDu rd rj rk) (fun s => s.cfg.la64 = true ∧ s.cfg.hasLam = true ∧ rd ≠ rj)
    (fun s => s.aligned .rmw (s.getGr rj) 8) ∧
  TakesAddressExceptions (.amminWu rd rj rk) (fun s => s.cfg.la64 = true ∧ s.cfg.hasLam = true ∧ rd ≠ rj)
    (fun s => s.aligned .rmw (s.getGr rj) 4) ∧
  TakesAddressExceptions (.amminDu rd rj rk) (fun s => s.cfg.la64 = true ∧ s.cfg.hasLam = true ∧ rd ≠ rj)
    (fun s => s.aligned .rmw (s.getGr rj) 8) ∧
  TakesAddressExceptions (.amswapDbW rd rj rk) (fun s => s.cfg.la64 = true ∧ s.cfg.hasLam = true ∧ rd ≠ rj)
    (fun s => s.aligned .rmw (s.getGr rj) 4) ∧
  TakesAddressExceptions (.amswapDbD rd rj rk) (fun s => s.cfg.la64 = true ∧ s.cfg.hasLam = true ∧ rd ≠ rj)
    (fun s => s.aligned .rmw (s.getGr rj) 8) ∧
  TakesAddressExceptions (.amaddDbW rd rj rk) (fun s => s.cfg.la64 = true ∧ s.cfg.hasLam = true ∧ rd ≠ rj)
    (fun s => s.aligned .rmw (s.getGr rj) 4) ∧
  TakesAddressExceptions (.amaddDbD rd rj rk) (fun s => s.cfg.la64 = true ∧ s.cfg.hasLam = true ∧ rd ≠ rj)
    (fun s => s.aligned .rmw (s.getGr rj) 8) ∧
  TakesAddressExceptions (.amandDbW rd rj rk) (fun s => s.cfg.la64 = true ∧ s.cfg.hasLam = true ∧ rd ≠ rj)
    (fun s => s.aligned .rmw (s.getGr rj) 4) ∧
  TakesAddressExceptions (.amandDbD rd rj rk) (fun s => s.cfg.la64 = true ∧ s.cfg.hasLam = true ∧ rd ≠ rj)
    (fun s => s.aligned .rmw (s.getGr rj) 8) ∧
  TakesAddressExceptions (.amorDbW rd rj rk) (fun s => s.cfg.la64 = true ∧ s.cfg.hasLam = true ∧ rd ≠ rj)
    (fun s => s.aligned .rmw (s.getGr rj) 4) ∧
  TakesAddressExceptions (.amorDbD rd rj rk) (fun s => s.cfg.la64 = true ∧ s.cfg.hasLam = true ∧ rd ≠ rj)
    (fun s => s.aligned .rmw (s.getGr rj) 8) ∧
  TakesAddressExceptions (.amxorDbW rd rj rk) (fun s => s.cfg.la64 = true ∧ s.cfg.hasLam = true ∧ rd ≠ rj)
    (fun s => s.aligned .rmw (s.getGr rj) 4) ∧
  TakesAddressExceptions (.amxorDbD rd rj rk) (fun s => s.cfg.la64 = true ∧ s.cfg.hasLam = true ∧ rd ≠ rj)
    (fun s => s.aligned .rmw (s.getGr rj) 8) ∧
  TakesAddressExceptions (.ammaxDbW rd rj rk) (fun s => s.cfg.la64 = true ∧ s.cfg.hasLam = true ∧ rd ≠ rj)
    (fun s => s.aligned .rmw (s.getGr rj) 4) ∧
  TakesAddressExceptions (.ammaxDbD rd rj rk) (fun s => s.cfg.la64 = true ∧ s.cfg.hasLam = true ∧ rd ≠ rj)
    (fun s => s.aligned .rmw (s.getGr rj) 8) ∧
  TakesAddressExceptions (.amminDbW rd rj rk) (fun s => s.cfg.la64 = true ∧ s.cfg.hasLam = true ∧ rd ≠ rj)
    (fun s => s.aligned .rmw (s.getGr rj) 4) ∧
  TakesAddressExceptions (.amminDbD rd rj rk) (fun s => s.cfg.la64 = true ∧ s.cfg.hasLam = true ∧ rd ≠ rj)
    (fun s => s.aligned .rmw (s.getGr rj) 8) ∧
  TakesAddressExceptions (.ammaxDbWu rd rj rk) (fun s => s.cfg.la64 = true ∧ s.cfg.hasLam = true ∧ rd ≠ rj)
    (fun s => s.aligned .rmw (s.getGr rj) 4) ∧
  TakesAddressExceptions (.ammaxDbDu rd rj rk) (fun s => s.cfg.la64 = true ∧ s.cfg.hasLam = true ∧ rd ≠ rj)
    (fun s => s.aligned .rmw (s.getGr rj) 8) ∧
  TakesAddressExceptions (.amminDbWu rd rj rk) (fun s => s.cfg.la64 = true ∧ s.cfg.hasLam = true ∧ rd ≠ rj)
    (fun s => s.aligned .rmw (s.getGr rj) 4) ∧
  TakesAddressExceptions (.amminDbDu rd rj rk) (fun s => s.cfg.la64 = true ∧ s.cfg.hasLam = true ∧ rd ≠ rj)
    (fun s => s.aligned .rmw (s.getGr rj) 8) ∧
  TakesAddressExceptions (.ldgtB rd rj rk) InLa64
    (fun s => s.bounded .load (s.getGr rj) 1 (s.boundGt rj rk)) ∧
  TakesAddressExceptions (.ldgtH rd rj rk) InLa64
    (fun s => s.bounded .load (s.getGr rj) 2 (s.boundGt rj rk)) ∧
  TakesAddressExceptions (.ldgtW rd rj rk) InLa64
    (fun s => s.bounded .load (s.getGr rj) 4 (s.boundGt rj rk)) ∧
  TakesAddressExceptions (.ldgtD rd rj rk) InLa64
    (fun s => s.bounded .load (s.getGr rj) 8 (s.boundGt rj rk)) ∧
  TakesAddressExceptions (.ldleB rd rj rk) InLa64
    (fun s => s.bounded .load (s.getGr rj) 1 (s.boundLe rj rk)) ∧
  TakesAddressExceptions (.ldleH rd rj rk) InLa64
    (fun s => s.bounded .load (s.getGr rj) 2 (s.boundLe rj rk)) ∧
  TakesAddressExceptions (.ldleW rd rj rk) InLa64
    (fun s => s.bounded .load (s.getGr rj) 4 (s.boundLe rj rk)) ∧
  TakesAddressExceptions (.ldleD rd rj rk) InLa64
    (fun s => s.bounded .load (s.getGr rj) 8 (s.boundLe rj rk)) ∧
  TakesAddressExceptions (.stgtB rd rj rk) InLa64
    (fun s => s.bounded .store (s.getGr rj) 1 (s.boundGt rj rk)) ∧
  TakesAddressExceptions (.stgtH rd rj rk) InLa64
    (fun s => s.bounded .store (s.getGr rj) 2 (s.boundGt rj rk)) ∧
  TakesAddressExceptions (.stgtW rd rj rk) InLa64
    (fun s => s.bounded .store (s.getGr rj) 4 (s.boundGt rj rk)) ∧
  TakesAddressExceptions (.stgtD rd rj rk) InLa64
    (fun s => s.bounded .store (s.getGr rj) 8 (s.boundGt rj rk)) ∧
  TakesAddressExceptions (.stleB rd rj rk) InLa64
    (fun s => s.bounded .store (s.getGr rj) 1 (s.boundLe rj rk)) ∧
  TakesAddressExceptions (.stleH rd rj rk) InLa64
    (fun s => s.bounded .store (s.getGr rj) 2 (s.boundLe rj rk)) ∧
  TakesAddressExceptions (.stleW rd rj rk) InLa64
    (fun s => s.bounded .store (s.getGr rj) 4 (s.boundLe rj rk)) ∧
  TakesAddressExceptions (.stleD rd rj rk) InLa64
    (fun s => s.bounded .store (s.getGr rj) 8 (s.boundLe rj rk)) ∧
  TakesAddressExceptions (.fldgtS fd rj rk) (fun s => s.cfg.la64 = true ∧ FpReady false s)
    (fun s => s.bounded .load (s.getGr rj) 4 (s.boundGt rj rk)) ∧
  TakesAddressExceptions (.fldgtD fd rj rk) (fun s => s.cfg.la64 = true ∧ FpReady true s)
    (fun s => s.bounded .load (s.getGr rj) 8 (s.boundGt rj rk)) ∧
  TakesAddressExceptions (.fldleS fd rj rk) (fun s => s.cfg.la64 = true ∧ FpReady false s)
    (fun s => s.bounded .load (s.getGr rj) 4 (s.boundLe rj rk)) ∧
  TakesAddressExceptions (.fldleD fd rj rk) (fun s => s.cfg.la64 = true ∧ FpReady true s)
    (fun s => s.bounded .load (s.getGr rj) 8 (s.boundLe rj rk)) ∧
  TakesAddressExceptions (.fstgtS fd rj rk) (fun s => s.cfg.la64 = true ∧ FpReady false s)
    (fun s => s.bounded .store (s.getGr rj) 4 (s.boundGt rj rk)) ∧
  TakesAddressExceptions (.fstgtD fd rj rk) (fun s => s.cfg.la64 = true ∧ FpReady true s)
    (fun s => s.bounded .store (s.getGr rj) 8 (s.boundGt rj rk)) ∧
  TakesAddressExceptions (.fstleS fd rj rk) (fun s => s.cfg.la64 = true ∧ FpReady false s)
    (fun s => s.bounded .store (s.getGr rj) 4 (s.boundLe rj rk)) ∧
  TakesAddressExceptions (.fstleD fd rj rk) (fun s => s.cfg.la64 = true ∧ FpReady true s)
    (fun s => s.bounded .store (s.getGr rj) 8 (s.boundLe rj rk))

/-- When a fetch watchpoint hits; watchpoint, address error, page and refill exceptions and machine errors at the fetch.
For every state (in debug mode too, where it is the model's choice) and address the fetch watchpoint test changes
nothing but FWPS: a watchpoint hits where CRMD.WE is 1, DMOnly only in debug mode, PLVn of the current level is 1, the
ASIDs agree where LCL asks for it, and every address bit that the mask does not exclude agrees; where no implemented one
hits nothing changes; where one hits and FWPS.Skip is 1, Skip is cleared and nothing is raised; where one hits and Skip
is 0, the status bits of those that hit are set and WPEF is raised. In a step that neither waits nor takes an interrupt:
where it raises, WPEF is taken; otherwise a pc that is not a multiple of 4 or is illegal takes ADEF with BADV = pc; a
fetch whose translation raises TLBR or a page exception takes it with the pc as bad address, PIF, PNX and PPI writing
TLBEHI.VPPN with the bits of the pc from 13 to VALEN-1 and no other CSR of the TLB; and where the address translates and
a machine error is pending, the machine error entry is made and the event consumed, whatever stands at the physical
address. The instruction does not execute. R833, R838, R845, R849 items 4 and 8, R852, R853, R860, R861, R216, R217.
What the entries record, 32-bit address mode: logs 50, 46; BADI is open: log 11; Skip: log 32; that a hit with DBG.DM =
1, which R217 calls a debug exception (DBG.DFW, out of scope), sets the status bits and raises WPEF like any other is
the model's choice (log 32); the debug registers: log 44. The entry of an exception is R851 and R846: with VS other than
0 by decision D76 (log 63), the debug registers log 44. The refill entry in 32-bit address mode is log 46, on an
instance without a TLB log 73. -/
def Obligations.FetchStageExceptions : Prop :=
  (∀ (s : State) (a : Word), (s.watchFetch a).1 =
      { s with watch := { s.watch with fwps := (s.watchFetch a).1.watch.fwps } } ∧
    ((∀ (n : Nat) (h : n < 8), n < s.cfg.fwpNum → ¬s.WatchHits s.watch.fwp[n] a) → s.watchFetch a = (s, false)) ∧
    ((∃ (n : Nat) (h : n < 8), n < s.cfg.fwpNum ∧ s.WatchHits s.watch.fwp[n] a) →
      (s.watch.fwps.getLsbD 16 = true → (s.watchFetch a).2 = false ∧
        ∀ i, (s.watchFetch a).1.watch.fwps.getLsbD i = (s.watch.fwps.getLsbD i && decide (i ≠ 16))) ∧
      (s.watch.fwps.getLsbD 16 = false → (s.watchFetch a).2 = true ∧
        ∀ i, (s.watchFetch a).1.watch.fwps.getLsbD i = true ↔ s.watch.fwps.getLsbD i = true ∨
          ∃ h : i < 8, i < s.cfg.fwpNum ∧ s.WatchHits s.watch.fwp[i] a))) ∧
  (∀ (s u : State), u = { s.applyInput with idle := false } → (s.applyInput.idle = true →
    s.applyInput.wakes = true) → u.irqTaken = false →
  ∀ w : State, w = (u.watchFetch (u.vaddr u.pc)).1 →
  ((u.watchFetch (u.vaddr u.pc)).2 = true → ∃ t, step s = .next t ∧ GeneralEntry u t 0x13 0x13#6 0#9 ∧
    t.csr.badv = u.csr.badv ∧ t.watch = w.watch ∧ t.mmu = u.mmu ∧ t.fcsr0 = u.fcsr0) ∧
  ((u.watchFetch (u.vaddr u.pc)).2 = false →
    (((u.vaddr u.pc).toNat % 4 ≠ 0 ∨ u.addressError .fetch (u.vaddr u.pc) = true) → ∃ t, step s = .next t ∧
      GeneralEntry u t 0x8 0x8#6 0#9 ∧ t.csr.badv = u.vaddr u.pc ∧ t.watch = w.watch ∧ t.mmu = u.mmu ∧
      t.fcsr0 = u.fcsr0) ∧
    ((u.vaddr u.pc).toNat % 4 = 0 → u.addressError .fetch (u.vaddr u.pc) = false →
      (∀ va, u.translate .fetch (u.vaddr u.pc) = .trap (.tlbr va) → ∃ t, step s = .next t ∧ RefillEntry u t va ∧
        t.watch = w.watch) ∧
      (∀ x va, u.translate .fetch (u.vaddr u.pc) = .trap x →
        (x, va) ∈ [(Exc.pif va, va), (.pnx va, va), (.ppi va, va)] → ∃ t, step s = .next t ∧
        GeneralEntry u t x.code.1.toNat x.code.1 x.code.2 ∧ t.csr.badv = u.vaddr va ∧ t.watch = w.watch ∧
        t.fcsr0 = u.fcsr0 ∧ t.mmu = { u.mmu with tlbehi := t.mmu.tlbehi } ∧
        (u.cfg.valen ≤ 64 → ∀ j, 13 ≤ j → j < u.cfg.valen → t.mmu.tlbehi.getLsbD j = (u.vaddr u.pc).getLsbD j)) ∧
      (∀ p ev, u.translate .fetch (u.vaddr u.pc) = .ok p → u.merrPending = some ev → ∃ t, step s = .next t ∧
        MerrEntry u t ev ∧ t.watch = w.watch))))

/-- An enabled pending interrupt is taken before the instruction; a core that nothing wakes only takes the inputs of the
step; what these change and leave. Where CRMD.IE = 1 and a pending interrupt is enabled in ECFG.LIE after the inputs of
the step, the step makes the general entry with Ecode 0 and the exception number 64 + n, n the highest such interrupt,
ERA = pc, BADV, BADI, FCSR0 and the TLB CSRs unchanged, without fetching. A core in the wait state that nothing wakes
takes the inputs of the step and changes nothing else; it wakes when an enabled interrupt is pending (whatever IE,
unless the parameter of D75 asks for IE = 1) or a machine error is. The pending bits are SWI1-0 of ESTAT, the eight
lines, PMI (an implemented monitor whose interrupt is enabled and whose highest count bit is 1), TI and IPI. The inputs
of a step advance the clock and the timer by their ticks where the instance has LLFTP (else these stand still), set the
lines and a reported machine error, put the bytes other agents store into memory and the IOCSR space (the last one at an
address counts, where something holds it) and no other byte, and clear LLbit exactly when such a store falls in the
granule of LLaddr; the pc, the general and floating-point registers, flags and FCSR0, every other CSR, the TLB, LLaddr,
the wait state and the configuration stay. A step for which no input is listed advances the clock by the parameter's
ticks and changes nothing else before it goes on. R849 items 1 to 3, R865, R867-R872, R874, R875, R806, R193, R41, R42,
R44, R54, R590. Taken at the earliest boundary: decision D77 (log 42); waking: D75 (log 42); the inputs of a step: log
16; one tick of the timer for each of the clock: D78 (log 43); the granule of LLaddr: decision D50 (log 62); unbacked
and undefined bytes: logs 18, 36; that a store of another agent lands in a ROM or device range as in RAM is log 69, the
model's choice. The entry of an exception is R851 and R846: with VS other than 0 by decision D76 (log 63), the debug
registers log 44. -/
def Obligations.InterruptsAndTheWaitState : Prop :=
  (∀ (s u : State), u = { s.applyInput with idle := false } → u.irqTaken = true →
    ∃ t n, step s = .next t ∧ n < 13 ∧ u.isBits.getLsbD n = true ∧ u.csr.ecfg.getLsbD n = true ∧
      (∀ m, n < m → m < 13 → (u.isBits.getLsbD m && u.csr.ecfg.getLsbD m) = false) ∧
      GeneralEntry u t (64 + n) 0#6 0#9 ∧ t.csr.badv = u.csr.badv ∧ t.csr.badi = u.csr.badi ∧ t.fcsr0 = u.fcsr0 ∧
      t.mmu = u.mmu ∧ t.watch = u.watch) ∧
  (∀ s : State, s.irqTaken = true ↔ s.csr.crmd.getLsbD 2 = true ∧
    ∃ n < 13, s.isBits.getLsbD n = true ∧ s.csr.ecfg.getLsbD n = true) ∧
  (∀ s : State, s.isBits.getLsbD 0 = s.csr.estat.getLsbD 0 ∧ s.isBits.getLsbD 1 = s.csr.estat.getLsbD 1 ∧
    (∀ k < 8, s.isBits.getLsbD (2 + k) = s.extIrq.getLsbD k) ∧ s.isBits.getLsbD 11 = s.timer.ti ∧
    s.isBits.getLsbD 12 = s.extIrq.getLsbD 8 ∧
    (s.isBits.getLsbD 10 = true ↔ ∃ (n : Nat) (h : n < 32), n < s.cfg.pmCount ∧ s.pm.pmcfg[n].getLsbD 20 = true ∧
      s.pm.pmcnt[n].getLsbD (if s.cfg.la64 then 63 else 31) = true)) ∧
  (∀ s : State, s.applyInput.idle = true → s.applyInput.wakes = false → step s = .next s.applyInput) ∧
  (∀ s : State, s.wakes = true ↔
    ((s.cfg.idleWakeNeedsIe = true → s.csr.crmd.getLsbD 2 = true) ∧
      ∃ n < 13, s.isBits.getLsbD n = true ∧ s.csr.ecfg.getLsbD n = true) ∨ s.merrPending.isSome = true) ∧
  (∀ s : State, SameUnderInputs s s.applyInput) ∧
  (∀ s : State, s.inputs = [] → s.applyInput = { s with timer := s.clockAfter s.cfg.stableStep }) ∧
  (∀ (s : State) (i : StepInput) (rest : List StepInput), s.inputs = i :: rest →
    s.applyInput.inputs = rest ∧ s.applyInput.extIrq = i.lines ∧ s.applyInput.timer = s.clockAfter i.ticks ∧
    s.applyInput.merrPending = (if i.merr.isSome then i.merr else s.merrPending) ∧
    (s.applyInput.llbit = true ↔ s.llbit = true ∧
      ∀ c ∈ i.stores, c.1 / 2 ^ s.cfg.llGranuleLog2 ≠ s.lladdr / 2 ^ s.cfg.llGranuleLog2) ∧
    (s.Canonical → ∀ a,
      ((∀ c ∈ i.stores, c.1 ≠ a) ∨ backed s.cfg a = false → s.applyInput.memByte a = s.memByte a) ∧
      ((∀ c ∈ i.iocsrStores, c.1 ≠ a) ∨ iocsrDefined s.cfg a = false → s.applyInput.iocsrByte a = s.iocsrByte a) ∧
      (∀ pre b post, (∀ c ∈ post, c.1 ≠ a) →
        (i.stores = pre ++ (a, b) :: post → backed s.cfg a = true → s.applyInput.memByte a = b) ∧
        (i.iocsrStores = pre ++ (a, b) :: post → iocsrDefined s.cfg a = true → s.applyInput.iocsrByte a = b))))

/-- The clock of every step, timer ticks, TCFG writes and TICLR. Every step that answers a next state, of whatever
instruction, exception, interrupt or wait, adds to the Stable Counter exactly the ticks that its input brings (the
parameter's where no input is listed), modulo 2^64, where the instance has LLFTP, and otherwise leaves it; the clock and
timer that the step goes on with are those after so many single ticks. A tick of an enabled running timer with TimeVal
above 1 decrements it; from 1 or 0 it sets TI and reloads {InitVal, 00} when periodic, else stops at 0; a stopped or
disabled timer keeps TimeVal and TI; the Stable Counter gains 1 at every tick. So an enabled one-shot timer with TimeVal
V above 0 has TI set after V ticks and not before. In LA64 at PLV0 with LLFTP, CSRWR of TCFG with En = 1 loads {InitVal,
00} and starts the timer, with En = 0 stops it and keeps TimeVal, TI kept; CSRWR of TICLR clears TI exactly when bit 0
is 1. R44, R849 item 1, R875-R878. How many ticks a step brings is the host's (D20; log 16); the exact tick is decision
D78 (log 43). -/
def Obligations.TimerCountsDown : Prop :=
  (∀ s t : State, step s = .next t → t.timer.stableCounter =
    s.timer.stableCounter + (if s.cfg.hasLlftp then BitVec.ofNat 64 s.comingTicks else 0#64)) ∧
  (∀ (s : State) (n : Nat), s.applyInput.timer = s.clockAfter s.comingTicks ∧
    (s.cfg.hasLlftp = false → s.clockAfter n = s.timer) ∧
    (s.cfg.hasLlftp = true → s.clockAfter 0 = s.timer ∧ s.clockAfter (n + 1) = (s.clockAfter n).tick)) ∧
  (∀ t : TimerState, t.tick.stableCounter = t.stableCounter + 1 ∧
    (t.tcfg.getLsbD 0 = true → t.running = true →
      (1 < t.timeVal.toNat → t.tick.timeVal = t.timeVal - 1 ∧ t.tick.ti = t.ti ∧ t.tick.running = true) ∧
      (t.timeVal.toNat ≤ 1 → t.tick.ti = true ∧
        (t.tcfg.getLsbD 1 = true → t.tick.timeVal = t.tcfg &&& ~~~3#64 ∧ t.tick.running = true) ∧
        (t.tcfg.getLsbD 1 = false → t.tick.timeVal = 0#64 ∧ t.tick.running = false))) ∧
    (t.tcfg.getLsbD 0 = false ∨ t.running = false → t.tick = { t with stableCounter := t.stableCounter + 1 }) ∧
    t.tick.tcfg = t.tcfg ∧ t.tick.tid = t.tid ∧ t.tick.cntc = t.cntc) ∧
  (∀ (t : TimerState) (n : Nat), t.tcfg.getLsbD 0 = true → t.tcfg.getLsbD 1 = false → t.running = true →
    0 < t.timeVal.toNat → t.ti = false → ((TimerState.ticks n t).ti = true ↔ t.timeVal.toNat ≤ n)) ∧
  (∀ (rd : Reg) (s : State), s.cfg.la64 = true → s.plv = 0#2 → s.cfg.hasLlftp = true →
    (∃ t, exec (.csrwr rd 0x41#14) s = .next t ∧ GrIs s t rd s.timer.tcfg ∧ t.timer.ti = s.timer.ti ∧
      (∀ i < 64, i < s.cfg.timerBits → t.timer.tcfg.getLsbD i = (s.getGr rd).getLsbD i) ∧
      (t.timer.tcfg.getLsbD 0 = true → t.timer.running = true ∧ t.timer.timeVal = t.timer.tcfg &&& ~~~3#64) ∧
      (t.timer.tcfg.getLsbD 0 = false → t.timer.running = false ∧ t.timer.timeVal = s.timer.timeVal)) ∧
    (∃ t, exec (.csrwr rd 0x44#14) s = .next t ∧ GrIs s t rd 0#64 ∧ t.csr = s.csr ∧
      t.timer = { s.timer with ti := s.timer.ti && !(s.getGr rd).getLsbD 0 }))

/-- Every step keeps memory, the IOCSR space and the TLB in canonical form. From every state whose memory, IOCSR space
and TLB are in canonical form (addresses strictly rising, no entry equal to the default), a step that answers a next
state leaves them so: equal contents stay equal data. The canonical form is the model's representation (log 4, 7,
36) of the memories of R41, R43, R53. -/
def Obligations.StepKeepsCanonicalForm : Prop :=
  ∀ s t : State, s.Canonical → step s = .next t → t.Canonical

/-- Every step keeps the pc and the general registers within the register width, and the configuration. A step that
answers a next state leaves the implementation parameters as they were; and if the pc and every general register
were values of GRLEN bits (in LA32 the pc below 2^32 and each register the sign extension of its low word), they are
so after it. r0 reads 0 in every state. R30-R32; the LA32 representation is log 2. -/
def Obligations.StepKeepsRegisterWidth : Prop :=
  (∀ s t : State, step s = .next t → t.cfg = s.cfg ∧ (s.FitsWidth → t.FitsWidth)) ∧ ∀ s : State, s.getGr 0#5 = 0#64

/-- Every step keeps the bits of CSRs and FCSR0 that do not exist at 0. From every state in which the reserved (R0) bits
of CRMD, PRMD, EUEN, MISC, ECFG, ESTAT, EENTRY, RVACFG, LLBCTL, ASID, STLBPS, PGDL, PGDH, PWCH, TLBRENTRY, TLBRERA,
TLBRPRMD, MERRCTL, MERRENTRY and FCSR0 are 0, a step that answers a next state leaves them 0, whatever is written or
saved. R81: an R0 field reads 0 and keeps 0. EUEN has FPE alone (log 34). -/
def Obligations.StepKeepsReservedBitsZero : Prop :=
  ∀ s t : State, s.ReservedZero → step s = .next t → t.ReservedZero

/-- Below PLV0 an instruction changes privileged state only by taking an exception. On an instance where DBCL is
privileged (D74), an instruction executed at PLV1, PLV2 or PLV3 that answers a next state either has taken an
exception (the next state is at PLV0 and is the entry of some exception from the state with, at most, MWPS and FCSR0
changed) or has changed no CSR, no TLB entry, no IOCSR byte, nothing of timer, counters, RAS or debug registers, no
watchpoint configuration, and has not set the wait state; MWPS, LLbit and LLaddr excepted. R780, R851, R853. That
DBCL is privileged is decision D74 (log 21). -/
def Obligations.UserModeKeepsPrivilegedState : Prop :=
  ∀ (i : Instr) (s t : State), s.cfg.dbclPrivileged = true → s.plv ≠ 0#2 → exec i s = .next t →
  (t.plv = 0#2 ∧ ∃ (x : Exc) (u : State), t = u.takeExc false x ∧
    u = { s with watch := { s.watch with mwps := u.watch.mwps }, fcsr0 := u.fcsr0 }) ∨
  (t.csr = s.csr ∧ t.mmu = s.mmu ∧ t.timer = s.timer ∧ t.ras = s.ras ∧ t.pm = s.pm ∧ t.dbg = s.dbg ∧
    t.tlb = s.tlb ∧ t.iocsr = s.iocsr ∧ t.idle = s.idle ∧ t.cfg = s.cfg ∧
    { t.watch with mwps := s.watch.mwps } = s.watch)
end

