-- ==== Sys2Proof/Laws/State.lean ====
section
/-!
SUPPORT. What each named update of the state leaves as it was: one lemma per update and field, so that no proof has
to unfold a record update.
-/

namespace Sys2Proof.Machine

/-! ### setPc -/

@[simp] theorem setPc_cfg (s : State) (t : Word) : (s.setPc t).cfg = s.cfg := rfl
@[simp] theorem setPc_gr (s : State) (t : Word) : (s.setPc t).gr = s.gr := rfl
@[simp] theorem setPc_fr (s : State) (t : Word) : (s.setPc t).fr = s.fr := rfl
@[simp] theorem setPc_cfr (s : State) (t : Word) : (s.setPc t).cfr = s.cfr := rfl
@[simp] theorem setPc_fcsr0 (s : State) (t : Word) : (s.setPc t).fcsr0 = s.fcsr0 := rfl
@[simp] theorem setPc_csr (s : State) (t : Word) : (s.setPc t).csr = s.csr := rfl
@[simp] theorem setPc_mmu (s : State) (t : Word) : (s.setPc t).mmu = s.mmu := rfl
@[simp] theorem setPc_timer (s : State) (t : Word) : (s.setPc t).timer = s.timer := rfl
@[simp] theorem setPc_ras (s : State) (t : Word) : (s.setPc t).ras = s.ras := rfl
@[simp] theorem setPc_pm (s : State) (t : Word) : (s.setPc t).pm = s.pm := rfl
@[simp] theorem setPc_watch (s : State) (t : Word) : (s.setPc t).watch = s.watch := rfl
@[simp] theorem setPc_dbg (s : State) (t : Word) : (s.setPc t).dbg = s.dbg := rfl
@[simp] theorem setPc_llbit (s : State) (t : Word) : (s.setPc t).llbit = s.llbit := rfl
@[simp] theorem setPc_lladdr (s : State) (t : Word) : (s.setPc t).lladdr = s.lladdr := rfl
@[simp] theorem setPc_tlb (s : State) (t : Word) : (s.setPc t).tlb = s.tlb := rfl
@[simp] theorem setPc_extIrq (s : State) (t : Word) : (s.setPc t).extIrq = s.extIrq := rfl
@[simp] theorem setPc_idle (s : State) (t : Word) : (s.setPc t).idle = s.idle := rfl
@[simp] theorem setPc_merrPending (s : State) (t : Word) : (s.setPc t).merrPending = s.merrPending := rfl
@[simp] theorem setPc_mem (s : State) (t : Word) : (s.setPc t).mem = s.mem := rfl
@[simp] theorem setPc_iocsr (s : State) (t : Word) : (s.setPc t).iocsr = s.iocsr := rfl
@[simp] theorem setPc_freeCount (s : State) (t : Word) : (s.setPc t).freeCount = s.freeCount := rfl
@[simp] theorem setPc_inputs (s : State) (t : Word) : (s.setPc t).inputs = s.inputs := rfl
@[simp] theorem setPc_debugCall (s : State) (t : Word) : (s.setPc t).debugCall = s.debugCall := rfl
@[simp] theorem setPc_curInsn (s : State) (t : Word) : (s.setPc t).curInsn = s.curInsn := rfl

/-! ### advance -/

@[simp] theorem advance_cfg (s : State) : s.advance.cfg = s.cfg := rfl
@[simp] theorem advance_gr (s : State) : s.advance.gr = s.gr := rfl
@[simp] theorem advance_fr (s : State) : s.advance.fr = s.fr := rfl
@[simp] theorem advance_cfr (s : State) : s.advance.cfr = s.cfr := rfl
@[simp] theorem advance_fcsr0 (s : State) : s.advance.fcsr0 = s.fcsr0 := rfl
@[simp] theorem advance_csr (s : State) : s.advance.csr = s.csr := rfl
@[simp] theorem advance_mmu (s : State) : s.advance.mmu = s.mmu := rfl
@[simp] theorem advance_timer (s : State) : s.advance.timer = s.timer := rfl
@[simp] theorem advance_ras (s : State) : s.advance.ras = s.ras := rfl
@[simp] theorem advance_pm (s : State) : s.advance.pm = s.pm := rfl
@[simp] theorem advance_watch (s : State) : s.advance.watch = s.watch := rfl
@[simp] theorem advance_dbg (s : State) : s.advance.dbg = s.dbg := rfl
@[simp] theorem advance_llbit (s : State) : s.advance.llbit = s.llbit := rfl
@[simp] theorem advance_lladdr (s : State) : s.advance.lladdr = s.lladdr := rfl
@[simp] theorem advance_tlb (s : State) : s.advance.tlb = s.tlb := rfl
@[simp] theorem advance_extIrq (s : State) : s.advance.extIrq = s.extIrq := rfl
@[simp] theorem advance_idle (s : State) : s.advance.idle = s.idle := rfl
@[simp] theorem advance_merrPending (s : State) : s.advance.merrPending = s.merrPending := rfl
@[simp] theorem advance_mem (s : State) : s.advance.mem = s.mem := rfl
@[simp] theorem advance_iocsr (s : State) : s.advance.iocsr = s.iocsr := rfl
@[simp] theorem advance_freeCount (s : State) : s.advance.freeCount = s.freeCount := rfl
@[simp] theorem advance_inputs (s : State) : s.advance.inputs = s.inputs := rfl
@[simp] theorem advance_debugCall (s : State) : s.advance.debugCall = s.debugCall := rfl
@[simp] theorem advance_curInsn (s : State) : s.advance.curInsn = s.curInsn := rfl

/-! ### setGr -/

@[simp] theorem setGr_cfg (s : State) (r : Reg) (x : Word) : (s.setGr r x).cfg = s.cfg := by unfold State.setGr; split <;> rfl
@[simp] theorem setGr_pc (s : State) (r : Reg) (x : Word) : (s.setGr r x).pc = s.pc := by unfold State.setGr; split <;> rfl
@[simp] theorem setGr_fr (s : State) (r : Reg) (x : Word) : (s.setGr r x).fr = s.fr := by unfold State.setGr; split <;> rfl
@[simp] theorem setGr_cfr (s : State) (r : Reg) (x : Word) : (s.setGr r x).cfr = s.cfr := by unfold State.setGr; split <;> rfl
@[simp] theorem setGr_fcsr0 (s : State) (r : Reg) (x : Word) : (s.setGr r x).fcsr0 = s.fcsr0 := by unfold State.setGr; split <;> rfl
@[simp] theorem setGr_csr (s : State) (r : Reg) (x : Word) : (s.setGr r x).csr = s.csr := by unfold State.setGr; split <;> rfl
@[simp] theorem setGr_mmu (s : State) (r : Reg) (x : Word) : (s.setGr r x).mmu = s.mmu := by unfold State.setGr; split <;> rfl
@[simp] theorem setGr_timer (s : State) (r : Reg) (x : Word) : (s.setGr r x).timer = s.timer := by unfold State.setGr; split <;> rfl
@[simp] theorem setGr_ras (s : State) (r : Reg) (x : Word) : (s.setGr r x).ras = s.ras := by unfold State.setGr; split <;> rfl
@[simp] theorem setGr_pm (s : State) (r : Reg) (x : Word) : (s.setGr r x).pm = s.pm := by unfold State.setGr; split <;> rfl
@[simp] theorem setGr_watch (s : State) (r : Reg) (x : Word) : (s.setGr r x).watch = s.watch := by unfold State.setGr; split <;> rfl
@[simp] theorem setGr_dbg (s : State) (r : Reg) (x : Word) : (s.setGr r x).dbg = s.dbg := by unfold State.setGr; split <;> rfl
@[simp] theorem setGr_llbit (s : State) (r : Reg) (x : Word) : (s.setGr r x).llbit = s.llbit := by unfold State.setGr; split <;> rfl
@[simp] theorem setGr_lladdr (s : State) (r : Reg) (x : Word) : (s.setGr r x).lladdr = s.lladdr := by unfold State.setGr; split <;> rfl
@[simp] theorem setGr_tlb (s : State) (r : Reg) (x : Word) : (s.setGr r x).tlb = s.tlb := by unfold State.setGr; split <;> rfl
@[simp] theorem setGr_extIrq (s : State) (r : Reg) (x : Word) : (s.setGr r x).extIrq = s.extIrq := by unfold State.setGr; split <;> rfl
@[simp] theorem setGr_idle (s : State) (r : Reg) (x : Word) : (s.setGr r x).idle = s.idle := by unfold State.setGr; split <;> rfl
@[simp] theorem setGr_merrPending (s : State) (r : Reg) (x : Word) : (s.setGr r x).merrPending = s.merrPending := by unfold State.setGr; split <;> rfl
@[simp] theorem setGr_mem (s : State) (r : Reg) (x : Word) : (s.setGr r x).mem = s.mem := by unfold State.setGr; split <;> rfl
@[simp] theorem setGr_iocsr (s : State) (r : Reg) (x : Word) : (s.setGr r x).iocsr = s.iocsr := by unfold State.setGr; split <;> rfl
@[simp] theorem setGr_freeCount (s : State) (r : Reg) (x : Word) : (s.setGr r x).freeCount = s.freeCount := by unfold State.setGr; split <;> rfl
@[simp] theorem setGr_inputs (s : State) (r : Reg) (x : Word) : (s.setGr r x).inputs = s.inputs := by unfold State.setGr; split <;> rfl
@[simp] theorem setGr_debugCall (s : State) (r : Reg) (x : Word) : (s.setGr r x).debugCall = s.debugCall := by unfold State.setGr; split <;> rfl
@[simp] theorem setGr_curInsn (s : State) (r : Reg) (x : Word) : (s.setGr r x).curInsn = s.curInsn := by unfold State.setGr; split <;> rfl

/-! ### setFr -/

@[simp] theorem setFr_cfg (s : State) (r : Reg) (x : Word) : (s.setFr r x).cfg = s.cfg := rfl
@[simp] theorem setFr_gr (s : State) (r : Reg) (x : Word) : (s.setFr r x).gr = s.gr := rfl
@[simp] theorem setFr_pc (s : State) (r : Reg) (x : Word) : (s.setFr r x).pc = s.pc := rfl
@[simp] theorem setFr_cfr (s : State) (r : Reg) (x : Word) : (s.setFr r x).cfr = s.cfr := rfl
@[simp] theorem setFr_fcsr0 (s : State) (r : Reg) (x : Word) : (s.setFr r x).fcsr0 = s.fcsr0 := rfl
@[simp] theorem setFr_csr (s : State) (r : Reg) (x : Word) : (s.setFr r x).csr = s.csr := rfl
@[simp] theorem setFr_mmu (s : State) (r : Reg) (x : Word) : (s.setFr r x).mmu = s.mmu := rfl
@[simp] theorem setFr_timer (s : State) (r : Reg) (x : Word) : (s.setFr r x).timer = s.timer := rfl
@[simp] theorem setFr_ras (s : State) (r : Reg) (x : Word) : (s.setFr r x).ras = s.ras := rfl
@[simp] theorem setFr_pm (s : State) (r : Reg) (x : Word) : (s.setFr r x).pm = s.pm := rfl
@[simp] theorem setFr_watch (s : State) (r : Reg) (x : Word) : (s.setFr r x).watch = s.watch := rfl
@[simp] theorem setFr_dbg (s : State) (r : Reg) (x : Word) : (s.setFr r x).dbg = s.dbg := rfl
@[simp] theorem setFr_llbit (s : State) (r : Reg) (x : Word) : (s.setFr r x).llbit = s.llbit := rfl
@[simp] theorem setFr_lladdr (s : State) (r : Reg) (x : Word) : (s.setFr r x).lladdr = s.lladdr := rfl
@[simp] theorem setFr_tlb (s : State) (r : Reg) (x : Word) : (s.setFr r x).tlb = s.tlb := rfl
@[simp] theorem setFr_extIrq (s : State) (r : Reg) (x : Word) : (s.setFr r x).extIrq = s.extIrq := rfl
@[simp] theorem setFr_idle (s : State) (r : Reg) (x : Word) : (s.setFr r x).idle = s.idle := rfl
@[simp] theorem setFr_merrPending (s : State) (r : Reg) (x : Word) : (s.setFr r x).merrPending = s.merrPending := rfl
@[simp] theorem setFr_mem (s : State) (r : Reg) (x : Word) : (s.setFr r x).mem = s.mem := rfl
@[simp] theorem setFr_iocsr (s : State) (r : Reg) (x : Word) : (s.setFr r x).iocsr = s.iocsr := rfl
@[simp] theorem setFr_freeCount (s : State) (r : Reg) (x : Word) : (s.setFr r x).freeCount = s.freeCount := rfl
@[simp] theorem setFr_inputs (s : State) (r : Reg) (x : Word) : (s.setFr r x).inputs = s.inputs := rfl
@[simp] theorem setFr_debugCall (s : State) (r : Reg) (x : Word) : (s.setFr r x).debugCall = s.debugCall := rfl
@[simp] theorem setFr_curInsn (s : State) (r : Reg) (x : Word) : (s.setFr r x).curInsn = s.curInsn := rfl

/-! ### draw -/

@[simp] theorem draw_cfg (s : State) : s.draw.2.cfg = s.cfg := rfl
@[simp] theorem draw_gr (s : State) : s.draw.2.gr = s.gr := rfl
@[simp] theorem draw_pc (s : State) : s.draw.2.pc = s.pc := rfl
@[simp] theorem draw_fr (s : State) : s.draw.2.fr = s.fr := rfl
@[simp] theorem draw_cfr (s : State) : s.draw.2.cfr = s.cfr := rfl
@[simp] theorem draw_fcsr0 (s : State) : s.draw.2.fcsr0 = s.fcsr0 := rfl
@[simp] theorem draw_csr (s : State) : s.draw.2.csr = s.csr := rfl
@[simp] theorem draw_mmu (s : State) : s.draw.2.mmu = s.mmu := rfl
@[simp] theorem draw_timer (s : State) : s.draw.2.timer = s.timer := rfl
@[simp] theorem draw_ras (s : State) : s.draw.2.ras = s.ras := rfl
@[simp] theorem draw_pm (s : State) : s.draw.2.pm = s.pm := rfl
@[simp] theorem draw_watch (s : State) : s.draw.2.watch = s.watch := rfl
@[simp] theorem draw_dbg (s : State) : s.draw.2.dbg = s.dbg := rfl
@[simp] theorem draw_llbit (s : State) : s.draw.2.llbit = s.llbit := rfl
@[simp] theorem draw_lladdr (s : State) : s.draw.2.lladdr = s.lladdr := rfl
@[simp] theorem draw_tlb (s : State) : s.draw.2.tlb = s.tlb := rfl
@[simp] theorem draw_extIrq (s : State) : s.draw.2.extIrq = s.extIrq := rfl
@[simp] theorem draw_idle (s : State) : s.draw.2.idle = s.idle := rfl
@[simp] theorem draw_merrPending (s : State) : s.draw.2.merrPending = s.merrPending := rfl
@[simp] theorem draw_mem (s : State) : s.draw.2.mem = s.mem := rfl
@[simp] theorem draw_iocsr (s : State) : s.draw.2.iocsr = s.iocsr := rfl
@[simp] theorem draw_inputs (s : State) : s.draw.2.inputs = s.inputs := rfl
@[simp] theorem draw_debugCall (s : State) : s.draw.2.debugCall = s.debugCall := rfl
@[simp] theorem draw_curInsn (s : State) : s.draw.2.curInsn = s.curInsn := rfl

/-! ### setFrS -/

@[simp] theorem setFrS_cfg (s : State) (r : Reg) (x : BitVec 32) : (s.setFrS r x).cfg = s.cfg := rfl
@[simp] theorem setFrS_gr (s : State) (r : Reg) (x : BitVec 32) : (s.setFrS r x).gr = s.gr := rfl
@[simp] theorem setFrS_pc (s : State) (r : Reg) (x : BitVec 32) : (s.setFrS r x).pc = s.pc := rfl
@[simp] theorem setFrS_cfr (s : State) (r : Reg) (x : BitVec 32) : (s.setFrS r x).cfr = s.cfr := rfl
@[simp] theorem setFrS_fcsr0 (s : State) (r : Reg) (x : BitVec 32) : (s.setFrS r x).fcsr0 = s.fcsr0 := rfl
@[simp] theorem setFrS_csr (s : State) (r : Reg) (x : BitVec 32) : (s.setFrS r x).csr = s.csr := rfl
@[simp] theorem setFrS_mmu (s : State) (r : Reg) (x : BitVec 32) : (s.setFrS r x).mmu = s.mmu := rfl
@[simp] theorem setFrS_timer (s : State) (r : Reg) (x : BitVec 32) : (s.setFrS r x).timer = s.timer := rfl
@[simp] theorem setFrS_ras (s : State) (r : Reg) (x : BitVec 32) : (s.setFrS r x).ras = s.ras := rfl
@[simp] theorem setFrS_pm (s : State) (r : Reg) (x : BitVec 32) : (s.setFrS r x).pm = s.pm := rfl
@[simp] theorem setFrS_watch (s : State) (r : Reg) (x : BitVec 32) : (s.setFrS r x).watch = s.watch := rfl
@[simp] theorem setFrS_dbg (s : State) (r : Reg) (x : BitVec 32) : (s.setFrS r x).dbg = s.dbg := rfl
@[simp] theorem setFrS_llbit (s : State) (r : Reg) (x : BitVec 32) : (s.setFrS r x).llbit = s.llbit := rfl
@[simp] theorem setFrS_lladdr (s : State) (r : Reg) (x : BitVec 32) : (s.setFrS r x).lladdr = s.lladdr := rfl
@[simp] theorem setFrS_tlb (s : State) (r : Reg) (x : BitVec 32) : (s.setFrS r x).tlb = s.tlb := rfl
@[simp] theorem setFrS_extIrq (s : State) (r : Reg) (x : BitVec 32) : (s.setFrS r x).extIrq = s.extIrq := rfl
@[simp] theorem setFrS_idle (s : State) (r : Reg) (x : BitVec 32) : (s.setFrS r x).idle = s.idle := rfl
@[simp] theorem setFrS_merrPending (s : State) (r : Reg) (x : BitVec 32) : (s.setFrS r x).merrPending = s.merrPending := rfl
@[simp] theorem setFrS_mem (s : State) (r : Reg) (x : BitVec 32) : (s.setFrS r x).mem = s.mem := rfl
@[simp] theorem setFrS_iocsr (s : State) (r : Reg) (x : BitVec 32) : (s.setFrS r x).iocsr = s.iocsr := rfl
@[simp] theorem setFrS_inputs (s : State) (r : Reg) (x : BitVec 32) : (s.setFrS r x).inputs = s.inputs := rfl
@[simp] theorem setFrS_debugCall (s : State) (r : Reg) (x : BitVec 32) : (s.setFrS r x).debugCall = s.debugCall := rfl
@[simp] theorem setFrS_curInsn (s : State) (r : Reg) (x : BitVec 32) : (s.setFrS r x).curInsn = s.curInsn := rfl

/-! ### setFmt -/

@[simp] theorem setFmt_cfg (s : State) (f : Fmt) (r : Reg) (x : Word) : (s.setFmt f r x).cfg = s.cfg := by cases f <;> rfl
@[simp] theorem setFmt_gr (s : State) (f : Fmt) (r : Reg) (x : Word) : (s.setFmt f r x).gr = s.gr := by cases f <;> rfl
@[simp] theorem setFmt_pc (s : State) (f : Fmt) (r : Reg) (x : Word) : (s.setFmt f r x).pc = s.pc := by cases f <;> rfl
@[simp] theorem setFmt_cfr (s : State) (f : Fmt) (r : Reg) (x : Word) : (s.setFmt f r x).cfr = s.cfr := by cases f <;> rfl
@[simp] theorem setFmt_fcsr0 (s : State) (f : Fmt) (r : Reg) (x : Word) : (s.setFmt f r x).fcsr0 = s.fcsr0 := by cases f <;> rfl
@[simp] theorem setFmt_csr (s : State) (f : Fmt) (r : Reg) (x : Word) : (s.setFmt f r x).csr = s.csr := by cases f <;> rfl
@[simp] theorem setFmt_mmu (s : State) (f : Fmt) (r : Reg) (x : Word) : (s.setFmt f r x).mmu = s.mmu := by cases f <;> rfl
@[simp] theorem setFmt_timer (s : State) (f : Fmt) (r : Reg) (x : Word) : (s.setFmt f r x).timer = s.timer := by cases f <;> rfl
@[simp] theorem setFmt_ras (s : State) (f : Fmt) (r : Reg) (x : Word) : (s.setFmt f r x).ras = s.ras := by cases f <;> rfl
@[simp] theorem setFmt_pm (s : State) (f : Fmt) (r : Reg) (x : Word) : (s.setFmt f r x).pm = s.pm := by cases f <;> rfl
@[simp] theorem setFmt_watch (s : State) (f : Fmt) (r : Reg) (x : Word) : (s.setFmt f r x).watch = s.watch := by cases f <;> rfl
@[simp] theorem setFmt_dbg (s : State) (f : Fmt) (r : Reg) (x : Word) : (s.setFmt f r x).dbg = s.dbg := by cases f <;> rfl
@[simp] theorem setFmt_llbit (s : State) (f : Fmt) (r : Reg) (x : Word) : (s.setFmt f r x).llbit = s.llbit := by cases f <;> rfl
@[simp] theorem setFmt_lladdr (s : State) (f : Fmt) (r : Reg) (x : Word) : (s.setFmt f r x).lladdr = s.lladdr := by cases f <;> rfl
@[simp] theorem setFmt_tlb (s : State) (f : Fmt) (r : Reg) (x : Word) : (s.setFmt f r x).tlb = s.tlb := by cases f <;> rfl
@[simp] theorem setFmt_extIrq (s : State) (f : Fmt) (r : Reg) (x : Word) : (s.setFmt f r x).extIrq = s.extIrq := by cases f <;> rfl
@[simp] theorem setFmt_idle (s : State) (f : Fmt) (r : Reg) (x : Word) : (s.setFmt f r x).idle = s.idle := by cases f <;> rfl
@[simp] theorem setFmt_merrPending (s : State) (f : Fmt) (r : Reg) (x : Word) : (s.setFmt f r x).merrPending = s.merrPending := by cases f <;> rfl
@[simp] theorem setFmt_mem (s : State) (f : Fmt) (r : Reg) (x : Word) : (s.setFmt f r x).mem = s.mem := by cases f <;> rfl
@[simp] theorem setFmt_iocsr (s : State) (f : Fmt) (r : Reg) (x : Word) : (s.setFmt f r x).iocsr = s.iocsr := by cases f <;> rfl
@[simp] theorem setFmt_inputs (s : State) (f : Fmt) (r : Reg) (x : Word) : (s.setFmt f r x).inputs = s.inputs := by cases f <;> rfl
@[simp] theorem setFmt_debugCall (s : State) (f : Fmt) (r : Reg) (x : Word) : (s.setFmt f r x).debugCall = s.debugCall := by cases f <;> rfl
@[simp] theorem setFmt_curInsn (s : State) (f : Fmt) (r : Reg) (x : Word) : (s.setFmt f r x).curInsn = s.curInsn := by cases f <;> rfl

/-! ### setCf -/

@[simp] theorem setCf_cfg (s : State) (c : BitVec 3) (b : Bool) : (s.setCf c b).cfg = s.cfg := rfl
@[simp] theorem setCf_gr (s : State) (c : BitVec 3) (b : Bool) : (s.setCf c b).gr = s.gr := rfl
@[simp] theorem setCf_pc (s : State) (c : BitVec 3) (b : Bool) : (s.setCf c b).pc = s.pc := rfl
@[simp] theorem setCf_fr (s : State) (c : BitVec 3) (b : Bool) : (s.setCf c b).fr = s.fr := rfl
@[simp] theorem setCf_fcsr0 (s : State) (c : BitVec 3) (b : Bool) : (s.setCf c b).fcsr0 = s.fcsr0 := rfl
@[simp] theorem setCf_csr (s : State) (c : BitVec 3) (b : Bool) : (s.setCf c b).csr = s.csr := rfl
@[simp] theorem setCf_mmu (s : State) (c : BitVec 3) (b : Bool) : (s.setCf c b).mmu = s.mmu := rfl
@[simp] theorem setCf_timer (s : State) (c : BitVec 3) (b : Bool) : (s.setCf c b).timer = s.timer := rfl
@[simp] theorem setCf_ras (s : State) (c : BitVec 3) (b : Bool) : (s.setCf c b).ras = s.ras := rfl
@[simp] theorem setCf_pm (s : State) (c : BitVec 3) (b : Bool) : (s.setCf c b).pm = s.pm := rfl
@[simp] theorem setCf_watch (s : State) (c : BitVec 3) (b : Bool) : (s.setCf c b).watch = s.watch := rfl
@[simp] theorem setCf_dbg (s : State) (c : BitVec 3) (b : Bool) : (s.setCf c b).dbg = s.dbg := rfl
@[simp] theorem setCf_llbit (s : State) (c : BitVec 3) (b : Bool) : (s.setCf c b).llbit = s.llbit := rfl
@[simp] theorem setCf_lladdr (s : State) (c : BitVec 3) (b : Bool) : (s.setCf c b).lladdr = s.lladdr := rfl
@[simp] theorem setCf_tlb (s : State) (c : BitVec 3) (b : Bool) : (s.setCf c b).tlb = s.tlb := rfl
@[simp] theorem setCf_extIrq (s : State) (c : BitVec 3) (b : Bool) : (s.setCf c b).extIrq = s.extIrq := rfl
@[simp] theorem setCf_idle (s : State) (c : BitVec 3) (b : Bool) : (s.setCf c b).idle = s.idle := rfl
@[simp] theorem setCf_merrPending (s : State) (c : BitVec 3) (b : Bool) : (s.setCf c b).merrPending = s.merrPending := rfl
@[simp] theorem setCf_mem (s : State) (c : BitVec 3) (b : Bool) : (s.setCf c b).mem = s.mem := rfl
@[simp] theorem setCf_iocsr (s : State) (c : BitVec 3) (b : Bool) : (s.setCf c b).iocsr = s.iocsr := rfl
@[simp] theorem setCf_freeCount (s : State) (c : BitVec 3) (b : Bool) : (s.setCf c b).freeCount = s.freeCount := rfl
@[simp] theorem setCf_inputs (s : State) (c : BitVec 3) (b : Bool) : (s.setCf c b).inputs = s.inputs := rfl
@[simp] theorem setCf_debugCall (s : State) (c : BitVec 3) (b : Bool) : (s.setCf c b).debugCall = s.debugCall := rfl
@[simp] theorem setCf_curInsn (s : State) (c : BitVec 3) (b : Bool) : (s.setCf c b).curInsn = s.curInsn := rfl

/-! ### writeBytes -/

@[simp] theorem writeBytes_cfg (s : State) (as : List Nat) (v : Word) : (s.writeBytes as v).cfg = s.cfg := rfl
@[simp] theorem writeBytes_gr (s : State) (as : List Nat) (v : Word) : (s.writeBytes as v).gr = s.gr := rfl
@[simp] theorem writeBytes_pc (s : State) (as : List Nat) (v : Word) : (s.writeBytes as v).pc = s.pc := rfl
@[simp] theorem writeBytes_fr (s : State) (as : List Nat) (v : Word) : (s.writeBytes as v).fr = s.fr := rfl
@[simp] theorem writeBytes_cfr (s : State) (as : List Nat) (v : Word) : (s.writeBytes as v).cfr = s.cfr := rfl
@[simp] theorem writeBytes_fcsr0 (s : State) (as : List Nat) (v : Word) : (s.writeBytes as v).fcsr0 = s.fcsr0 := rfl
@[simp] theorem writeBytes_csr (s : State) (as : List Nat) (v : Word) : (s.writeBytes as v).csr = s.csr := rfl
@[simp] theorem writeBytes_mmu (s : State) (as : List Nat) (v : Word) : (s.writeBytes as v).mmu = s.mmu := rfl
@[simp] theorem writeBytes_timer (s : State) (as : List Nat) (v : Word) : (s.writeBytes as v).timer = s.timer := rfl
@[simp] theorem writeBytes_ras (s : State) (as : List Nat) (v : Word) : (s.writeBytes as v).ras = s.ras := rfl
@[simp] theorem writeBytes_pm (s : State) (as : List Nat) (v : Word) : (s.writeBytes as v).pm = s.pm := rfl
@[simp] theorem writeBytes_watch (s : State) (as : List Nat) (v : Word) : (s.writeBytes as v).watch = s.watch := rfl
@[simp] theorem writeBytes_dbg (s : State) (as : List Nat) (v : Word) : (s.writeBytes as v).dbg = s.dbg := rfl
@[simp] theorem writeBytes_llbit (s : State) (as : List Nat) (v : Word) : (s.writeBytes as v).llbit = s.llbit := rfl
@[simp] theorem writeBytes_lladdr (s : State) (as : List Nat) (v : Word) : (s.writeBytes as v).lladdr = s.lladdr := rfl
@[simp] theorem writeBytes_tlb (s : State) (as : List Nat) (v : Word) : (s.writeBytes as v).tlb = s.tlb := rfl
@[simp] theorem writeBytes_extIrq (s : State) (as : List Nat) (v : Word) : (s.writeBytes as v).extIrq = s.extIrq := rfl
@[simp] theorem writeBytes_idle (s : State) (as : List Nat) (v : Word) : (s.writeBytes as v).idle = s.idle := rfl
@[simp] theorem writeBytes_merrPending (s : State) (as : List Nat) (v : Word) : (s.writeBytes as v).merrPending = s.merrPending := rfl
@[simp] theorem writeBytes_iocsr (s : State) (as : List Nat) (v : Word) : (s.writeBytes as v).iocsr = s.iocsr := rfl
@[simp] theorem writeBytes_freeCount (s : State) (as : List Nat) (v : Word) : (s.writeBytes as v).freeCount = s.freeCount := rfl
@[simp] theorem writeBytes_inputs (s : State) (as : List Nat) (v : Word) : (s.writeBytes as v).inputs = s.inputs := rfl
@[simp] theorem writeBytes_debugCall (s : State) (as : List Nat) (v : Word) : (s.writeBytes as v).debugCall = s.debugCall := rfl
@[simp] theorem writeBytes_curInsn (s : State) (as : List Nat) (v : Word) : (s.writeBytes as v).curInsn = s.curInsn := rfl

/-! ### iocsrWrite -/

@[simp] theorem iocsrWrite_cfg (s : State) (a : Word) (n : Nat) (v : Word) : (s.iocsrWrite a n v).cfg = s.cfg := rfl
@[simp] theorem iocsrWrite_gr (s : State) (a : Word) (n : Nat) (v : Word) : (s.iocsrWrite a n v).gr = s.gr := rfl
@[simp] theorem iocsrWrite_pc (s : State) (a : Word) (n : Nat) (v : Word) : (s.iocsrWrite a n v).pc = s.pc := rfl
@[simp] theorem iocsrWrite_fr (s : State) (a : Word) (n : Nat) (v : Word) : (s.iocsrWrite a n v).fr = s.fr := rfl
@[simp] theorem iocsrWrite_cfr (s : State) (a : Word) (n : Nat) (v : Word) : (s.iocsrWrite a n v).cfr = s.cfr := rfl
@[simp] theorem iocsrWrite_fcsr0 (s : State) (a : Word) (n : Nat) (v : Word) : (s.iocsrWrite a n v).fcsr0 = s.fcsr0 := rfl
@[simp] theorem iocsrWrite_csr (s : State) (a : Word) (n : Nat) (v : Word) : (s.iocsrWrite a n v).csr = s.csr := rfl
@[simp] theorem iocsrWrite_mmu (s : State) (a : Word) (n : Nat) (v : Word) : (s.iocsrWrite a n v).mmu = s.mmu := rfl
@[simp] theorem iocsrWrite_timer (s : State) (a : Word) (n : Nat) (v : Word) : (s.iocsrWrite a n v).timer = s.timer := rfl
@[simp] theorem iocsrWrite_ras (s : State) (a : Word) (n : Nat) (v : Word) : (s.iocsrWrite a n v).ras = s.ras := rfl
@[simp] theorem iocsrWrite_pm (s : State) (a : Word) (n : Nat) (v : Word) : (s.iocsrWrite a n v).pm = s.pm := rfl
@[simp] theorem iocsrWrite_watch (s : State) (a : Word) (n : Nat) (v : Word) : (s.iocsrWrite a n v).watch = s.watch := rfl
@[simp] theorem iocsrWrite_dbg (s : State) (a : Word) (n : Nat) (v : Word) : (s.iocsrWrite a n v).dbg = s.dbg := rfl
@[simp] theorem iocsrWrite_llbit (s : State) (a : Word) (n : Nat) (v : Word) : (s.iocsrWrite a n v).llbit = s.llbit := rfl
@[simp] theorem iocsrWrite_lladdr (s : State) (a : Word) (n : Nat) (v : Word) : (s.iocsrWrite a n v).lladdr = s.lladdr := rfl
@[simp] theorem iocsrWrite_tlb (s : State) (a : Word) (n : Nat) (v : Word) : (s.iocsrWrite a n v).tlb = s.tlb := rfl
@[simp] theorem iocsrWrite_extIrq (s : State) (a : Word) (n : Nat) (v : Word) : (s.iocsrWrite a n v).extIrq = s.extIrq := rfl
@[simp] theorem iocsrWrite_idle (s : State) (a : Word) (n : Nat) (v : Word) : (s.iocsrWrite a n v).idle = s.idle := rfl
@[simp] theorem iocsrWrite_merrPending (s : State) (a : Word) (n : Nat) (v : Word) : (s.iocsrWrite a n v).merrPending = s.merrPending := rfl
@[simp] theorem iocsrWrite_mem (s : State) (a : Word) (n : Nat) (v : Word) : (s.iocsrWrite a n v).mem = s.mem := rfl
@[simp] theorem iocsrWrite_freeCount (s : State) (a : Word) (n : Nat) (v : Word) : (s.iocsrWrite a n v).freeCount = s.freeCount := rfl
@[simp] theorem iocsrWrite_inputs (s : State) (a : Word) (n : Nat) (v : Word) : (s.iocsrWrite a n v).inputs = s.inputs := rfl
@[simp] theorem iocsrWrite_debugCall (s : State) (a : Word) (n : Nat) (v : Word) : (s.iocsrWrite a n v).debugCall = s.debugCall := rfl
@[simp] theorem iocsrWrite_curInsn (s : State) (a : Word) (n : Nat) (v : Word) : (s.iocsrWrite a n v).curInsn = s.curInsn := rfl

/-! ### setCause -/

@[simp] theorem setCause_cfg (s : State) (e : FpExc) : (s.setCause e).cfg = s.cfg := rfl
@[simp] theorem setCause_gr (s : State) (e : FpExc) : (s.setCause e).gr = s.gr := rfl
@[simp] theorem setCause_pc (s : State) (e : FpExc) : (s.setCause e).pc = s.pc := rfl
@[simp] theorem setCause_fr (s : State) (e : FpExc) : (s.setCause e).fr = s.fr := rfl
@[simp] theorem setCause_cfr (s : State) (e : FpExc) : (s.setCause e).cfr = s.cfr := rfl
@[simp] theorem setCause_csr (s : State) (e : FpExc) : (s.setCause e).csr = s.csr := rfl
@[simp] theorem setCause_mmu (s : State) (e : FpExc) : (s.setCause e).mmu = s.mmu := rfl
@[simp] theorem setCause_timer (s : State) (e : FpExc) : (s.setCause e).timer = s.timer := rfl
@[simp] theorem setCause_ras (s : State) (e : FpExc) : (s.setCause e).ras = s.ras := rfl
@[simp] theorem setCause_pm (s : State) (e : FpExc) : (s.setCause e).pm = s.pm := rfl
@[simp] theorem setCause_watch (s : State) (e : FpExc) : (s.setCause e).watch = s.watch := rfl
@[simp] theorem setCause_dbg (s : State) (e : FpExc) : (s.setCause e).dbg = s.dbg := rfl
@[simp] theorem setCause_llbit (s : State) (e : FpExc) : (s.setCause e).llbit = s.llbit := rfl
@[simp] theorem setCause_lladdr (s : State) (e : FpExc) : (s.setCause e).lladdr = s.lladdr := rfl
@[simp] theorem setCause_tlb (s : State) (e : FpExc) : (s.setCause e).tlb = s.tlb := rfl
@[simp] theorem setCause_extIrq (s : State) (e : FpExc) : (s.setCause e).extIrq = s.extIrq := rfl
@[simp] theorem setCause_idle (s : State) (e : FpExc) : (s.setCause e).idle = s.idle := rfl
@[simp] theorem setCause_merrPending (s : State) (e : FpExc) : (s.setCause e).merrPending = s.merrPending := rfl
@[simp] theorem setCause_mem (s : State) (e : FpExc) : (s.setCause e).mem = s.mem := rfl
@[simp] theorem setCause_iocsr (s : State) (e : FpExc) : (s.setCause e).iocsr = s.iocsr := rfl
@[simp] theorem setCause_freeCount (s : State) (e : FpExc) : (s.setCause e).freeCount = s.freeCount := rfl
@[simp] theorem setCause_inputs (s : State) (e : FpExc) : (s.setCause e).inputs = s.inputs := rfl
@[simp] theorem setCause_debugCall (s : State) (e : FpExc) : (s.setCause e).debugCall = s.debugCall := rfl
@[simp] theorem setCause_curInsn (s : State) (e : FpExc) : (s.setCause e).curInsn = s.curInsn := rfl

/-! ### addFlags -/

@[simp] theorem addFlags_cfg (s : State) (e : FpExc) : (s.addFlags e).cfg = s.cfg := rfl
@[simp] theorem addFlags_gr (s : State) (e : FpExc) : (s.addFlags e).gr = s.gr := rfl
@[simp] theorem addFlags_pc (s : State) (e : FpExc) : (s.addFlags e).pc = s.pc := rfl
@[simp] theorem addFlags_fr (s : State) (e : FpExc) : (s.addFlags e).fr = s.fr := rfl
@[simp] theorem addFlags_cfr (s : State) (e : FpExc) : (s.addFlags e).cfr = s.cfr := rfl
@[simp] theorem addFlags_csr (s : State) (e : FpExc) : (s.addFlags e).csr = s.csr := rfl
@[simp] theorem addFlags_mmu (s : State) (e : FpExc) : (s.addFlags e).mmu = s.mmu := rfl
@[simp] theorem addFlags_timer (s : State) (e : FpExc) : (s.addFlags e).timer = s.timer := rfl
@[simp] theorem addFlags_ras (s : State) (e : FpExc) : (s.addFlags e).ras = s.ras := rfl
@[simp] theorem addFlags_pm (s : State) (e : FpExc) : (s.addFlags e).pm = s.pm := rfl
@[simp] theorem addFlags_watch (s : State) (e : FpExc) : (s.addFlags e).watch = s.watch := rfl
@[simp] theorem addFlags_dbg (s : State) (e : FpExc) : (s.addFlags e).dbg = s.dbg := rfl
@[simp] theorem addFlags_llbit (s : State) (e : FpExc) : (s.addFlags e).llbit = s.llbit := rfl
@[simp] theorem addFlags_lladdr (s : State) (e : FpExc) : (s.addFlags e).lladdr = s.lladdr := rfl
@[simp] theorem addFlags_tlb (s : State) (e : FpExc) : (s.addFlags e).tlb = s.tlb := rfl
@[simp] theorem addFlags_extIrq (s : State) (e : FpExc) : (s.addFlags e).extIrq = s.extIrq := rfl
@[simp] theorem addFlags_idle (s : State) (e : FpExc) : (s.addFlags e).idle = s.idle := rfl
@[simp] theorem addFlags_merrPending (s : State) (e : FpExc) : (s.addFlags e).merrPending = s.merrPending := rfl
@[simp] theorem addFlags_mem (s : State) (e : FpExc) : (s.addFlags e).mem = s.mem := rfl
@[simp] theorem addFlags_iocsr (s : State) (e : FpExc) : (s.addFlags e).iocsr = s.iocsr := rfl
@[simp] theorem addFlags_freeCount (s : State) (e : FpExc) : (s.addFlags e).freeCount = s.freeCount := rfl
@[simp] theorem addFlags_inputs (s : State) (e : FpExc) : (s.addFlags e).inputs = s.inputs := rfl
@[simp] theorem addFlags_debugCall (s : State) (e : FpExc) : (s.addFlags e).debugCall = s.debugCall := rfl
@[simp] theorem addFlags_curInsn (s : State) (e : FpExc) : (s.addFlags e).curInsn = s.curInsn := rfl

/-! ### writeFcsr -/

@[simp] theorem writeFcsr_cfg (s : State) (n : BitVec 5) (v : BitVec 32) : (s.writeFcsr n v).cfg = s.cfg := rfl
@[simp] theorem writeFcsr_gr (s : State) (n : BitVec 5) (v : BitVec 32) : (s.writeFcsr n v).gr = s.gr := rfl
@[simp] theorem writeFcsr_pc (s : State) (n : BitVec 5) (v : BitVec 32) : (s.writeFcsr n v).pc = s.pc := rfl
@[simp] theorem writeFcsr_fr (s : State) (n : BitVec 5) (v : BitVec 32) : (s.writeFcsr n v).fr = s.fr := rfl
@[simp] theorem writeFcsr_cfr (s : State) (n : BitVec 5) (v : BitVec 32) : (s.writeFcsr n v).cfr = s.cfr := rfl
@[simp] theorem writeFcsr_csr (s : State) (n : BitVec 5) (v : BitVec 32) : (s.writeFcsr n v).csr = s.csr := rfl
@[simp] theorem writeFcsr_mmu (s : State) (n : BitVec 5) (v : BitVec 32) : (s.writeFcsr n v).mmu = s.mmu := rfl
@[simp] theorem writeFcsr_timer (s : State) (n : BitVec 5) (v : BitVec 32) : (s.writeFcsr n v).timer = s.timer := rfl
@[simp] theorem writeFcsr_ras (s : State) (n : BitVec 5) (v : BitVec 32) : (s.writeFcsr n v).ras = s.ras := rfl
@[simp] theorem writeFcsr_pm (s : State) (n : BitVec 5) (v : BitVec 32) : (s.writeFcsr n v).pm = s.pm := rfl
@[simp] theorem writeFcsr_watch (s : State) (n : BitVec 5) (v : BitVec 32) : (s.writeFcsr n v).watch = s.watch := rfl
@[simp] theorem writeFcsr_dbg (s : State) (n : BitVec 5) (v : BitVec 32) : (s.writeFcsr n v).dbg = s.dbg := rfl
@[simp] theorem writeFcsr_llbit (s : State) (n : BitVec 5) (v : BitVec 32) : (s.writeFcsr n v).llbit = s.llbit := rfl
@[simp] theorem writeFcsr_lladdr (s : State) (n : BitVec 5) (v : BitVec 32) : (s.writeFcsr n v).lladdr = s.lladdr := rfl
@[simp] theorem writeFcsr_tlb (s : State) (n : BitVec 5) (v : BitVec 32) : (s.writeFcsr n v).tlb = s.tlb := rfl
@[simp] theorem writeFcsr_extIrq (s : State) (n : BitVec 5) (v : BitVec 32) : (s.writeFcsr n v).extIrq = s.extIrq := rfl
@[simp] theorem writeFcsr_idle (s : State) (n : BitVec 5) (v : BitVec 32) : (s.writeFcsr n v).idle = s.idle := rfl
@[simp] theorem writeFcsr_merrPending (s : State) (n : BitVec 5) (v : BitVec 32) : (s.writeFcsr n v).merrPending = s.merrPending := rfl
@[simp] theorem writeFcsr_mem (s : State) (n : BitVec 5) (v : BitVec 32) : (s.writeFcsr n v).mem = s.mem := rfl
@[simp] theorem writeFcsr_iocsr (s : State) (n : BitVec 5) (v : BitVec 32) : (s.writeFcsr n v).iocsr = s.iocsr := rfl
@[simp] theorem writeFcsr_freeCount (s : State) (n : BitVec 5) (v : BitVec 32) : (s.writeFcsr n v).freeCount = s.freeCount := rfl
@[simp] theorem writeFcsr_inputs (s : State) (n : BitVec 5) (v : BitVec 32) : (s.writeFcsr n v).inputs = s.inputs := rfl
@[simp] theorem writeFcsr_debugCall (s : State) (n : BitVec 5) (v : BitVec 32) : (s.writeFcsr n v).debugCall = s.debugCall := rfl
@[simp] theorem writeFcsr_curInsn (s : State) (n : BitVec 5) (v : BitVec 32) : (s.writeFcsr n v).curInsn = s.curInsn := rfl

/-! ### setTlb -/

@[simp] theorem setTlb_cfg (s : State) (i : Nat) (e : TlbEntry) : (s.setTlb i e).cfg = s.cfg := rfl
@[simp] theorem setTlb_gr (s : State) (i : Nat) (e : TlbEntry) : (s.setTlb i e).gr = s.gr := rfl
@[simp] theorem setTlb_pc (s : State) (i : Nat) (e : TlbEntry) : (s.setTlb i e).pc = s.pc := rfl
@[simp] theorem setTlb_fr (s : State) (i : Nat) (e : TlbEntry) : (s.setTlb i e).fr = s.fr := rfl
@[simp] theorem setTlb_cfr (s : State) (i : Nat) (e : TlbEntry) : (s.setTlb i e).cfr = s.cfr := rfl
@[simp] theorem setTlb_fcsr0 (s : State) (i : Nat) (e : TlbEntry) : (s.setTlb i e).fcsr0 = s.fcsr0 := rfl
@[simp] theorem setTlb_csr (s : State) (i : Nat) (e : TlbEntry) : (s.setTlb i e).csr = s.csr := rfl
@[simp] theorem setTlb_mmu (s : State) (i : Nat) (e : TlbEntry) : (s.setTlb i e).mmu = s.mmu := rfl
@[simp] theorem setTlb_timer (s : State) (i : Nat) (e : TlbEntry) : (s.setTlb i e).timer = s.timer := rfl
@[simp] theorem setTlb_ras (s : State) (i : Nat) (e : TlbEntry) : (s.setTlb i e).ras = s.ras := rfl
@[simp] theorem setTlb_pm (s : State) (i : Nat) (e : TlbEntry) : (s.setTlb i e).pm = s.pm := rfl
@[simp] theorem setTlb_watch (s : State) (i : Nat) (e : TlbEntry) : (s.setTlb i e).watch = s.watch := rfl
@[simp] theorem setTlb_dbg (s : State) (i : Nat) (e : TlbEntry) : (s.setTlb i e).dbg = s.dbg := rfl
@[simp] theorem setTlb_llbit (s : State) (i : Nat) (e : TlbEntry) : (s.setTlb i e).llbit = s.llbit := rfl
@[simp] theorem setTlb_lladdr (s : State) (i : Nat) (e : TlbEntry) : (s.setTlb i e).lladdr = s.lladdr := rfl
@[simp] theorem setTlb_extIrq (s : State) (i : Nat) (e : TlbEntry) : (s.setTlb i e).extIrq = s.extIrq := rfl
@[simp] theorem setTlb_idle (s : State) (i : Nat) (e : TlbEntry) : (s.setTlb i e).idle = s.idle := rfl
@[simp] theorem setTlb_merrPending (s : State) (i : Nat) (e : TlbEntry) : (s.setTlb i e).merrPending = s.merrPending := rfl
@[simp] theorem setTlb_mem (s : State) (i : Nat) (e : TlbEntry) : (s.setTlb i e).mem = s.mem := rfl
@[simp] theorem setTlb_iocsr (s : State) (i : Nat) (e : TlbEntry) : (s.setTlb i e).iocsr = s.iocsr := rfl
@[simp] theorem setTlb_freeCount (s : State) (i : Nat) (e : TlbEntry) : (s.setTlb i e).freeCount = s.freeCount := rfl
@[simp] theorem setTlb_inputs (s : State) (i : Nat) (e : TlbEntry) : (s.setTlb i e).inputs = s.inputs := rfl
@[simp] theorem setTlb_debugCall (s : State) (i : Nat) (e : TlbEntry) : (s.setTlb i e).debugCall = s.debugCall := rfl
@[simp] theorem setTlb_curInsn (s : State) (i : Nat) (e : TlbEntry) : (s.setTlb i e).curInsn = s.curInsn := rfl

/-! ### tlbInvalidate -/

@[simp] theorem tlbInvalidate_cfg (s : State) (p : Nat → TlbEntry → Bool) : (s.tlbInvalidate p).cfg = s.cfg := rfl
@[simp] theorem tlbInvalidate_gr (s : State) (p : Nat → TlbEntry → Bool) : (s.tlbInvalidate p).gr = s.gr := rfl
@[simp] theorem tlbInvalidate_pc (s : State) (p : Nat → TlbEntry → Bool) : (s.tlbInvalidate p).pc = s.pc := rfl
@[simp] theorem tlbInvalidate_fr (s : State) (p : Nat → TlbEntry → Bool) : (s.tlbInvalidate p).fr = s.fr := rfl
@[simp] theorem tlbInvalidate_cfr (s : State) (p : Nat → TlbEntry → Bool) : (s.tlbInvalidate p).cfr = s.cfr := rfl
@[simp] theorem tlbInvalidate_fcsr0 (s : State) (p : Nat → TlbEntry → Bool) : (s.tlbInvalidate p).fcsr0 = s.fcsr0 := rfl
@[simp] theorem tlbInvalidate_csr (s : State) (p : Nat → TlbEntry → Bool) : (s.tlbInvalidate p).csr = s.csr := rfl
@[simp] theorem tlbInvalidate_mmu (s : State) (p : Nat → TlbEntry → Bool) : (s.tlbInvalidate p).mmu = s.mmu := rfl
@[simp] theorem tlbInvalidate_timer (s : State) (p : Nat → TlbEntry → Bool) : (s.tlbInvalidate p).timer = s.timer := rfl
@[simp] theorem tlbInvalidate_ras (s : State) (p : Nat → TlbEntry → Bool) : (s.tlbInvalidate p).ras = s.ras := rfl
@[simp] theorem tlbInvalidate_pm (s : State) (p : Nat → TlbEntry → Bool) : (s.tlbInvalidate p).pm = s.pm := rfl
@[simp] theorem tlbInvalidate_watch (s : State) (p : Nat → TlbEntry → Bool) : (s.tlbInvalidate p).watch = s.watch := rfl
@[simp] theorem tlbInvalidate_dbg (s : State) (p : Nat → TlbEntry → Bool) : (s.tlbInvalidate p).dbg = s.dbg := rfl
@[simp] theorem tlbInvalidate_llbit (s : State) (p : Nat → TlbEntry → Bool) : (s.tlbInvalidate p).llbit = s.llbit := rfl
@[simp] theorem tlbInvalidate_lladdr (s : State) (p : Nat → TlbEntry → Bool) : (s.tlbInvalidate p).lladdr = s.lladdr := rfl
@[simp] theorem tlbInvalidate_extIrq (s : State) (p : Nat → TlbEntry → Bool) : (s.tlbInvalidate p).extIrq = s.extIrq := rfl
@[simp] theorem tlbInvalidate_idle (s : State) (p : Nat → TlbEntry → Bool) : (s.tlbInvalidate p).idle = s.idle := rfl
@[simp] theorem tlbInvalidate_merrPending (s : State) (p : Nat → TlbEntry → Bool) : (s.tlbInvalidate p).merrPending = s.merrPending := rfl
@[simp] theorem tlbInvalidate_mem (s : State) (p : Nat → TlbEntry → Bool) : (s.tlbInvalidate p).mem = s.mem := rfl
@[simp] theorem tlbInvalidate_iocsr (s : State) (p : Nat → TlbEntry → Bool) : (s.tlbInvalidate p).iocsr = s.iocsr := rfl
@[simp] theorem tlbInvalidate_freeCount (s : State) (p : Nat → TlbEntry → Bool) : (s.tlbInvalidate p).freeCount = s.freeCount := rfl
@[simp] theorem tlbInvalidate_inputs (s : State) (p : Nat → TlbEntry → Bool) : (s.tlbInvalidate p).inputs = s.inputs := rfl
@[simp] theorem tlbInvalidate_debugCall (s : State) (p : Nat → TlbEntry → Bool) : (s.tlbInvalidate p).debugCall = s.debugCall := rfl
@[simp] theorem tlbInvalidate_curInsn (s : State) (p : Nat → TlbEntry → Bool) : (s.tlbInvalidate p).curInsn = s.curInsn := rfl

/-! ### setNe -/

@[simp] theorem setNe_cfg (s : State) (b : Bool) : (s.setNe b).cfg = s.cfg := rfl
@[simp] theorem setNe_gr (s : State) (b : Bool) : (s.setNe b).gr = s.gr := rfl
@[simp] theorem setNe_pc (s : State) (b : Bool) : (s.setNe b).pc = s.pc := rfl
@[simp] theorem setNe_fr (s : State) (b : Bool) : (s.setNe b).fr = s.fr := rfl
@[simp] theorem setNe_cfr (s : State) (b : Bool) : (s.setNe b).cfr = s.cfr := rfl
@[simp] theorem setNe_fcsr0 (s : State) (b : Bool) : (s.setNe b).fcsr0 = s.fcsr0 := rfl
@[simp] theorem setNe_csr (s : State) (b : Bool) : (s.setNe b).csr = s.csr := rfl
@[simp] theorem setNe_timer (s : State) (b : Bool) : (s.setNe b).timer = s.timer := rfl
@[simp] theorem setNe_ras (s : State) (b : Bool) : (s.setNe b).ras = s.ras := rfl
@[simp] theorem setNe_pm (s : State) (b : Bool) : (s.setNe b).pm = s.pm := rfl
@[simp] theorem setNe_watch (s : State) (b : Bool) : (s.setNe b).watch = s.watch := rfl
@[simp] theorem setNe_dbg (s : State) (b : Bool) : (s.setNe b).dbg = s.dbg := rfl
@[simp] theorem setNe_llbit (s : State) (b : Bool) : (s.setNe b).llbit = s.llbit := rfl
@[simp] theorem setNe_lladdr (s : State) (b : Bool) : (s.setNe b).lladdr = s.lladdr := rfl
@[simp] theorem setNe_tlb (s : State) (b : Bool) : (s.setNe b).tlb = s.tlb := rfl
@[simp] theorem setNe_extIrq (s : State) (b : Bool) : (s.setNe b).extIrq = s.extIrq := rfl
@[simp] theorem setNe_idle (s : State) (b : Bool) : (s.setNe b).idle = s.idle := rfl
@[simp] theorem setNe_merrPending (s : State) (b : Bool) : (s.setNe b).merrPending = s.merrPending := rfl
@[simp] theorem setNe_mem (s : State) (b : Bool) : (s.setNe b).mem = s.mem := rfl
@[simp] theorem setNe_iocsr (s : State) (b : Bool) : (s.setNe b).iocsr = s.iocsr := rfl
@[simp] theorem setNe_freeCount (s : State) (b : Bool) : (s.setNe b).freeCount = s.freeCount := rfl
@[simp] theorem setNe_inputs (s : State) (b : Bool) : (s.setNe b).inputs = s.inputs := rfl
@[simp] theorem setNe_debugCall (s : State) (b : Bool) : (s.setNe b).debugCall = s.debugCall := rfl
@[simp] theorem setNe_curInsn (s : State) (b : Bool) : (s.setNe b).curInsn = s.curInsn := rfl

/-! ### setTlbIndex -/

@[simp] theorem setTlbIndex_cfg (s : State) (i : Nat) : (s.setTlbIndex i).cfg = s.cfg := rfl
@[simp] theorem setTlbIndex_gr (s : State) (i : Nat) : (s.setTlbIndex i).gr = s.gr := rfl
@[simp] theorem setTlbIndex_pc (s : State) (i : Nat) : (s.setTlbIndex i).pc = s.pc := rfl
@[simp] theorem setTlbIndex_fr (s : State) (i : Nat) : (s.setTlbIndex i).fr = s.fr := rfl
@[simp] theorem setTlbIndex_cfr (s : State) (i : Nat) : (s.setTlbIndex i).cfr = s.cfr := rfl
@[simp] theorem setTlbIndex_fcsr0 (s : State) (i : Nat) : (s.setTlbIndex i).fcsr0 = s.fcsr0 := rfl
@[simp] theorem setTlbIndex_csr (s : State) (i : Nat) : (s.setTlbIndex i).csr = s.csr := rfl
@[simp] theorem setTlbIndex_timer (s : State) (i : Nat) : (s.setTlbIndex i).timer = s.timer := rfl
@[simp] theorem setTlbIndex_ras (s : State) (i : Nat) : (s.setTlbIndex i).ras = s.ras := rfl
@[simp] theorem setTlbIndex_pm (s : State) (i : Nat) : (s.setTlbIndex i).pm = s.pm := rfl
@[simp] theorem setTlbIndex_watch (s : State) (i : Nat) : (s.setTlbIndex i).watch = s.watch := rfl
@[simp] theorem setTlbIndex_dbg (s : State) (i : Nat) : (s.setTlbIndex i).dbg = s.dbg := rfl
@[simp] theorem setTlbIndex_llbit (s : State) (i : Nat) : (s.setTlbIndex i).llbit = s.llbit := rfl
@[simp] theorem setTlbIndex_lladdr (s : State) (i : Nat) : (s.setTlbIndex i).lladdr = s.lladdr := rfl
@[simp] theorem setTlbIndex_tlb (s : State) (i : Nat) : (s.setTlbIndex i).tlb = s.tlb := rfl
@[simp] theorem setTlbIndex_extIrq (s : State) (i : Nat) : (s.setTlbIndex i).extIrq = s.extIrq := rfl
@[simp] theorem setTlbIndex_idle (s : State) (i : Nat) : (s.setTlbIndex i).idle = s.idle := rfl
@[simp] theorem setTlbIndex_merrPending (s : State) (i : Nat) : (s.setTlbIndex i).merrPending = s.merrPending := rfl
@[simp] theorem setTlbIndex_mem (s : State) (i : Nat) : (s.setTlbIndex i).mem = s.mem := rfl
@[simp] theorem setTlbIndex_iocsr (s : State) (i : Nat) : (s.setTlbIndex i).iocsr = s.iocsr := rfl
@[simp] theorem setTlbIndex_freeCount (s : State) (i : Nat) : (s.setTlbIndex i).freeCount = s.freeCount := rfl
@[simp] theorem setTlbIndex_inputs (s : State) (i : Nat) : (s.setTlbIndex i).inputs = s.inputs := rfl
@[simp] theorem setTlbIndex_debugCall (s : State) (i : Nat) : (s.setTlbIndex i).debugCall = s.debugCall := rfl
@[simp] theorem setTlbIndex_curInsn (s : State) (i : Nat) : (s.setTlbIndex i).curInsn = s.curInsn := rfl

/-! ### readValid -/

@[simp] theorem readValid_cfg (s : State) (i : Nat) (e : TlbEntry) : (s.readValid i e).cfg = s.cfg := rfl
@[simp] theorem readValid_gr (s : State) (i : Nat) (e : TlbEntry) : (s.readValid i e).gr = s.gr := rfl
@[simp] theorem readValid_pc (s : State) (i : Nat) (e : TlbEntry) : (s.readValid i e).pc = s.pc := rfl
@[simp] theorem readValid_fr (s : State) (i : Nat) (e : TlbEntry) : (s.readValid i e).fr = s.fr := rfl
@[simp] theorem readValid_cfr (s : State) (i : Nat) (e : TlbEntry) : (s.readValid i e).cfr = s.cfr := rfl
@[simp] theorem readValid_fcsr0 (s : State) (i : Nat) (e : TlbEntry) : (s.readValid i e).fcsr0 = s.fcsr0 := rfl
@[simp] theorem readValid_csr (s : State) (i : Nat) (e : TlbEntry) : (s.readValid i e).csr = s.csr := rfl
@[simp] theorem readValid_timer (s : State) (i : Nat) (e : TlbEntry) : (s.readValid i e).timer = s.timer := rfl
@[simp] theorem readValid_ras (s : State) (i : Nat) (e : TlbEntry) : (s.readValid i e).ras = s.ras := rfl
@[simp] theorem readValid_pm (s : State) (i : Nat) (e : TlbEntry) : (s.readValid i e).pm = s.pm := rfl
@[simp] theorem readValid_watch (s : State) (i : Nat) (e : TlbEntry) : (s.readValid i e).watch = s.watch := rfl
@[simp] theorem readValid_dbg (s : State) (i : Nat) (e : TlbEntry) : (s.readValid i e).dbg = s.dbg := rfl
@[simp] theorem readValid_llbit (s : State) (i : Nat) (e : TlbEntry) : (s.readValid i e).llbit = s.llbit := rfl
@[simp] theorem readValid_lladdr (s : State) (i : Nat) (e : TlbEntry) : (s.readValid i e).lladdr = s.lladdr := rfl
@[simp] theorem readValid_tlb (s : State) (i : Nat) (e : TlbEntry) : (s.readValid i e).tlb = s.tlb := rfl
@[simp] theorem readValid_extIrq (s : State) (i : Nat) (e : TlbEntry) : (s.readValid i e).extIrq = s.extIrq := rfl
@[simp] theorem readValid_idle (s : State) (i : Nat) (e : TlbEntry) : (s.readValid i e).idle = s.idle := rfl
@[simp] theorem readValid_merrPending (s : State) (i : Nat) (e : TlbEntry) : (s.readValid i e).merrPending = s.merrPending := rfl
@[simp] theorem readValid_mem (s : State) (i : Nat) (e : TlbEntry) : (s.readValid i e).mem = s.mem := rfl
@[simp] theorem readValid_iocsr (s : State) (i : Nat) (e : TlbEntry) : (s.readValid i e).iocsr = s.iocsr := rfl
@[simp] theorem readValid_freeCount (s : State) (i : Nat) (e : TlbEntry) : (s.readValid i e).freeCount = s.freeCount := rfl
@[simp] theorem readValid_inputs (s : State) (i : Nat) (e : TlbEntry) : (s.readValid i e).inputs = s.inputs := rfl
@[simp] theorem readValid_debugCall (s : State) (i : Nat) (e : TlbEntry) : (s.readValid i e).debugCall = s.debugCall := rfl
@[simp] theorem readValid_curInsn (s : State) (i : Nat) (e : TlbEntry) : (s.readValid i e).curInsn = s.curInsn := rfl

/-! ### readInvalid -/

@[simp] theorem readInvalid_cfg (s : State) : s.readInvalid.cfg = s.cfg := rfl
@[simp] theorem readInvalid_gr (s : State) : s.readInvalid.gr = s.gr := rfl
@[simp] theorem readInvalid_pc (s : State) : s.readInvalid.pc = s.pc := rfl
@[simp] theorem readInvalid_fr (s : State) : s.readInvalid.fr = s.fr := rfl
@[simp] theorem readInvalid_cfr (s : State) : s.readInvalid.cfr = s.cfr := rfl
@[simp] theorem readInvalid_fcsr0 (s : State) : s.readInvalid.fcsr0 = s.fcsr0 := rfl
@[simp] theorem readInvalid_csr (s : State) : s.readInvalid.csr = s.csr := rfl
@[simp] theorem readInvalid_timer (s : State) : s.readInvalid.timer = s.timer := rfl
@[simp] theorem readInvalid_ras (s : State) : s.readInvalid.ras = s.ras := rfl
@[simp] theorem readInvalid_pm (s : State) : s.readInvalid.pm = s.pm := rfl
@[simp] theorem readInvalid_watch (s : State) : s.readInvalid.watch = s.watch := rfl
@[simp] theorem readInvalid_dbg (s : State) : s.readInvalid.dbg = s.dbg := rfl
@[simp] theorem readInvalid_llbit (s : State) : s.readInvalid.llbit = s.llbit := rfl
@[simp] theorem readInvalid_lladdr (s : State) : s.readInvalid.lladdr = s.lladdr := rfl
@[simp] theorem readInvalid_tlb (s : State) : s.readInvalid.tlb = s.tlb := rfl
@[simp] theorem readInvalid_extIrq (s : State) : s.readInvalid.extIrq = s.extIrq := rfl
@[simp] theorem readInvalid_idle (s : State) : s.readInvalid.idle = s.idle := rfl
@[simp] theorem readInvalid_merrPending (s : State) : s.readInvalid.merrPending = s.merrPending := rfl
@[simp] theorem readInvalid_mem (s : State) : s.readInvalid.mem = s.mem := rfl
@[simp] theorem readInvalid_iocsr (s : State) : s.readInvalid.iocsr = s.iocsr := rfl
@[simp] theorem readInvalid_freeCount (s : State) : s.readInvalid.freeCount = s.freeCount := rfl
@[simp] theorem readInvalid_inputs (s : State) : s.readInvalid.inputs = s.inputs := rfl
@[simp] theorem readInvalid_debugCall (s : State) : s.readInvalid.debugCall = s.debugCall := rfl
@[simp] theorem readInvalid_curInsn (s : State) : s.readInvalid.curInsn = s.curInsn := rfl

/-! ### setRefill -/

@[simp] theorem setRefill_cfg (s : State) (o : Bool) (x : Word) (p : BitVec 6) : (s.setRefill o x p).cfg = s.cfg := rfl
@[simp] theorem setRefill_gr (s : State) (o : Bool) (x : Word) (p : BitVec 6) : (s.setRefill o x p).gr = s.gr := rfl
@[simp] theorem setRefill_pc (s : State) (o : Bool) (x : Word) (p : BitVec 6) : (s.setRefill o x p).pc = s.pc := rfl
@[simp] theorem setRefill_fr (s : State) (o : Bool) (x : Word) (p : BitVec 6) : (s.setRefill o x p).fr = s.fr := rfl
@[simp] theorem setRefill_cfr (s : State) (o : Bool) (x : Word) (p : BitVec 6) : (s.setRefill o x p).cfr = s.cfr := rfl
@[simp] theorem setRefill_fcsr0 (s : State) (o : Bool) (x : Word) (p : BitVec 6) : (s.setRefill o x p).fcsr0 = s.fcsr0 := rfl
@[simp] theorem setRefill_csr (s : State) (o : Bool) (x : Word) (p : BitVec 6) : (s.setRefill o x p).csr = s.csr := rfl
@[simp] theorem setRefill_timer (s : State) (o : Bool) (x : Word) (p : BitVec 6) : (s.setRefill o x p).timer = s.timer := rfl
@[simp] theorem setRefill_ras (s : State) (o : Bool) (x : Word) (p : BitVec 6) : (s.setRefill o x p).ras = s.ras := rfl
@[simp] theorem setRefill_pm (s : State) (o : Bool) (x : Word) (p : BitVec 6) : (s.setRefill o x p).pm = s.pm := rfl
@[simp] theorem setRefill_watch (s : State) (o : Bool) (x : Word) (p : BitVec 6) : (s.setRefill o x p).watch = s.watch := rfl
@[simp] theorem setRefill_dbg (s : State) (o : Bool) (x : Word) (p : BitVec 6) : (s.setRefill o x p).dbg = s.dbg := rfl
@[simp] theorem setRefill_llbit (s : State) (o : Bool) (x : Word) (p : BitVec 6) : (s.setRefill o x p).llbit = s.llbit := rfl
@[simp] theorem setRefill_lladdr (s : State) (o : Bool) (x : Word) (p : BitVec 6) : (s.setRefill o x p).lladdr = s.lladdr := rfl
@[simp] theorem setRefill_tlb (s : State) (o : Bool) (x : Word) (p : BitVec 6) : (s.setRefill o x p).tlb = s.tlb := rfl
@[simp] theorem setRefill_extIrq (s : State) (o : Bool) (x : Word) (p : BitVec 6) : (s.setRefill o x p).extIrq = s.extIrq := rfl
@[simp] theorem setRefill_idle (s : State) (o : Bool) (x : Word) (p : BitVec 6) : (s.setRefill o x p).idle = s.idle := rfl
@[simp] theorem setRefill_merrPending (s : State) (o : Bool) (x : Word) (p : BitVec 6) : (s.setRefill o x p).merrPending = s.merrPending := rfl
@[simp] theorem setRefill_mem (s : State) (o : Bool) (x : Word) (p : BitVec 6) : (s.setRefill o x p).mem = s.mem := rfl
@[simp] theorem setRefill_iocsr (s : State) (o : Bool) (x : Word) (p : BitVec 6) : (s.setRefill o x p).iocsr = s.iocsr := rfl
@[simp] theorem setRefill_freeCount (s : State) (o : Bool) (x : Word) (p : BitVec 6) : (s.setRefill o x p).freeCount = s.freeCount := rfl
@[simp] theorem setRefill_inputs (s : State) (o : Bool) (x : Word) (p : BitVec 6) : (s.setRefill o x p).inputs = s.inputs := rfl
@[simp] theorem setRefill_debugCall (s : State) (o : Bool) (x : Word) (p : BitVec 6) : (s.setRefill o x p).debugCall = s.debugCall := rfl
@[simp] theorem setRefill_curInsn (s : State) (o : Bool) (x : Word) (p : BitVec 6) : (s.setRefill o x p).curInsn = s.curInsn := rfl

/-! ### watchMem -/

@[simp] theorem watchMem_cfg (s : State) (a : Access) : ((s.watchMem a).1).cfg = s.cfg := rfl
@[simp] theorem watchMem_gr (s : State) (a : Access) : ((s.watchMem a).1).gr = s.gr := rfl
@[simp] theorem watchMem_pc (s : State) (a : Access) : ((s.watchMem a).1).pc = s.pc := rfl
@[simp] theorem watchMem_fr (s : State) (a : Access) : ((s.watchMem a).1).fr = s.fr := rfl
@[simp] theorem watchMem_cfr (s : State) (a : Access) : ((s.watchMem a).1).cfr = s.cfr := rfl
@[simp] theorem watchMem_fcsr0 (s : State) (a : Access) : ((s.watchMem a).1).fcsr0 = s.fcsr0 := rfl
@[simp] theorem watchMem_csr (s : State) (a : Access) : ((s.watchMem a).1).csr = s.csr := rfl
@[simp] theorem watchMem_mmu (s : State) (a : Access) : ((s.watchMem a).1).mmu = s.mmu := rfl
@[simp] theorem watchMem_timer (s : State) (a : Access) : ((s.watchMem a).1).timer = s.timer := rfl
@[simp] theorem watchMem_ras (s : State) (a : Access) : ((s.watchMem a).1).ras = s.ras := rfl
@[simp] theorem watchMem_pm (s : State) (a : Access) : ((s.watchMem a).1).pm = s.pm := rfl
@[simp] theorem watchMem_dbg (s : State) (a : Access) : ((s.watchMem a).1).dbg = s.dbg := rfl
@[simp] theorem watchMem_llbit (s : State) (a : Access) : ((s.watchMem a).1).llbit = s.llbit := rfl
@[simp] theorem watchMem_lladdr (s : State) (a : Access) : ((s.watchMem a).1).lladdr = s.lladdr := rfl
@[simp] theorem watchMem_tlb (s : State) (a : Access) : ((s.watchMem a).1).tlb = s.tlb := rfl
@[simp] theorem watchMem_extIrq (s : State) (a : Access) : ((s.watchMem a).1).extIrq = s.extIrq := rfl
@[simp] theorem watchMem_idle (s : State) (a : Access) : ((s.watchMem a).1).idle = s.idle := rfl
@[simp] theorem watchMem_merrPending (s : State) (a : Access) : ((s.watchMem a).1).merrPending = s.merrPending := rfl
@[simp] theorem watchMem_mem (s : State) (a : Access) : ((s.watchMem a).1).mem = s.mem := rfl
@[simp] theorem watchMem_iocsr (s : State) (a : Access) : ((s.watchMem a).1).iocsr = s.iocsr := rfl
@[simp] theorem watchMem_freeCount (s : State) (a : Access) : ((s.watchMem a).1).freeCount = s.freeCount := rfl
@[simp] theorem watchMem_inputs (s : State) (a : Access) : ((s.watchMem a).1).inputs = s.inputs := rfl
@[simp] theorem watchMem_debugCall (s : State) (a : Access) : ((s.watchMem a).1).debugCall = s.debugCall := rfl
@[simp] theorem watchMem_curInsn (s : State) (a : Access) : ((s.watchMem a).1).curInsn = s.curInsn := rfl

/-! ### watchFetch -/

@[simp] theorem watchFetch_cfg (s : State) (a : Word) : ((s.watchFetch a).1).cfg = s.cfg := rfl
@[simp] theorem watchFetch_gr (s : State) (a : Word) : ((s.watchFetch a).1).gr = s.gr := rfl
@[simp] theorem watchFetch_pc (s : State) (a : Word) : ((s.watchFetch a).1).pc = s.pc := rfl
@[simp] theorem watchFetch_fr (s : State) (a : Word) : ((s.watchFetch a).1).fr = s.fr := rfl
@[simp] theorem watchFetch_cfr (s : State) (a : Word) : ((s.watchFetch a).1).cfr = s.cfr := rfl
@[simp] theorem watchFetch_fcsr0 (s : State) (a : Word) : ((s.watchFetch a).1).fcsr0 = s.fcsr0 := rfl
@[simp] theorem watchFetch_csr (s : State) (a : Word) : ((s.watchFetch a).1).csr = s.csr := rfl
@[simp] theorem watchFetch_mmu (s : State) (a : Word) : ((s.watchFetch a).1).mmu = s.mmu := rfl
@[simp] theorem watchFetch_timer (s : State) (a : Word) : ((s.watchFetch a).1).timer = s.timer := rfl
@[simp] theorem watchFetch_ras (s : State) (a : Word) : ((s.watchFetch a).1).ras = s.ras := rfl
@[simp] theorem watchFetch_pm (s : State) (a : Word) : ((s.watchFetch a).1).pm = s.pm := rfl
@[simp] theorem watchFetch_dbg (s : State) (a : Word) : ((s.watchFetch a).1).dbg = s.dbg := rfl
@[simp] theorem watchFetch_llbit (s : State) (a : Word) : ((s.watchFetch a).1).llbit = s.llbit := rfl
@[simp] theorem watchFetch_lladdr (s : State) (a : Word) : ((s.watchFetch a).1).lladdr = s.lladdr := rfl
@[simp] theorem watchFetch_tlb (s : State) (a : Word) : ((s.watchFetch a).1).tlb = s.tlb := rfl
@[simp] theorem watchFetch_extIrq (s : State) (a : Word) : ((s.watchFetch a).1).extIrq = s.extIrq := rfl
@[simp] theorem watchFetch_idle (s : State) (a : Word) : ((s.watchFetch a).1).idle = s.idle := rfl
@[simp] theorem watchFetch_merrPending (s : State) (a : Word) : ((s.watchFetch a).1).merrPending = s.merrPending := rfl
@[simp] theorem watchFetch_mem (s : State) (a : Word) : ((s.watchFetch a).1).mem = s.mem := rfl
@[simp] theorem watchFetch_iocsr (s : State) (a : Word) : ((s.watchFetch a).1).iocsr = s.iocsr := rfl
@[simp] theorem watchFetch_freeCount (s : State) (a : Word) : ((s.watchFetch a).1).freeCount = s.freeCount := rfl
@[simp] theorem watchFetch_inputs (s : State) (a : Word) : ((s.watchFetch a).1).inputs = s.inputs := rfl
@[simp] theorem watchFetch_debugCall (s : State) (a : Word) : ((s.watchFetch a).1).debugCall = s.debugCall := rfl
@[simp] theorem watchFetch_curInsn (s : State) (a : Word) : ((s.watchFetch a).1).curInsn = s.curInsn := rfl

/-! ### recordBadi -/

@[simp] theorem recordBadi_cfg (s : State) (f : Bool) : (s.recordBadi f).cfg = s.cfg := by cases f <;> rfl
@[simp] theorem recordBadi_gr (s : State) (f : Bool) : (s.recordBadi f).gr = s.gr := by cases f <;> rfl
@[simp] theorem recordBadi_pc (s : State) (f : Bool) : (s.recordBadi f).pc = s.pc := by cases f <;> rfl
@[simp] theorem recordBadi_fr (s : State) (f : Bool) : (s.recordBadi f).fr = s.fr := by cases f <;> rfl
@[simp] theorem recordBadi_cfr (s : State) (f : Bool) : (s.recordBadi f).cfr = s.cfr := by cases f <;> rfl
@[simp] theorem recordBadi_fcsr0 (s : State) (f : Bool) : (s.recordBadi f).fcsr0 = s.fcsr0 := by cases f <;> rfl
@[simp] theorem recordBadi_mmu (s : State) (f : Bool) : (s.recordBadi f).mmu = s.mmu := by cases f <;> rfl
@[simp] theorem recordBadi_timer (s : State) (f : Bool) : (s.recordBadi f).timer = s.timer := by cases f <;> rfl
@[simp] theorem recordBadi_ras (s : State) (f : Bool) : (s.recordBadi f).ras = s.ras := by cases f <;> rfl
@[simp] theorem recordBadi_pm (s : State) (f : Bool) : (s.recordBadi f).pm = s.pm := by cases f <;> rfl
@[simp] theorem recordBadi_watch (s : State) (f : Bool) : (s.recordBadi f).watch = s.watch := by cases f <;> rfl
@[simp] theorem recordBadi_dbg (s : State) (f : Bool) : (s.recordBadi f).dbg = s.dbg := by cases f <;> rfl
@[simp] theorem recordBadi_llbit (s : State) (f : Bool) : (s.recordBadi f).llbit = s.llbit := by cases f <;> rfl
@[simp] theorem recordBadi_lladdr (s : State) (f : Bool) : (s.recordBadi f).lladdr = s.lladdr := by cases f <;> rfl
@[simp] theorem recordBadi_tlb (s : State) (f : Bool) : (s.recordBadi f).tlb = s.tlb := by cases f <;> rfl
@[simp] theorem recordBadi_extIrq (s : State) (f : Bool) : (s.recordBadi f).extIrq = s.extIrq := by cases f <;> rfl
@[simp] theorem recordBadi_idle (s : State) (f : Bool) : (s.recordBadi f).idle = s.idle := by cases f <;> rfl
@[simp] theorem recordBadi_merrPending (s : State) (f : Bool) : (s.recordBadi f).merrPending = s.merrPending := by cases f <;> rfl
@[simp] theorem recordBadi_mem (s : State) (f : Bool) : (s.recordBadi f).mem = s.mem := by cases f <;> rfl
@[simp] theorem recordBadi_iocsr (s : State) (f : Bool) : (s.recordBadi f).iocsr = s.iocsr := by cases f <;> rfl
@[simp] theorem recordBadi_inputs (s : State) (f : Bool) : (s.recordBadi f).inputs = s.inputs := by cases f <;> rfl
@[simp] theorem recordBadi_debugCall (s : State) (f : Bool) : (s.recordBadi f).debugCall = s.debugCall := by cases f <;> rfl
@[simp] theorem recordBadi_curInsn (s : State) (f : Bool) : (s.recordBadi f).curInsn = s.curInsn := by cases f <;> rfl

/-! ### recordBadv -/

@[simp] theorem recordBadv_cfg (s : State) (x : Exc) : (s.recordBadv x).cfg = s.cfg := by unfold State.recordBadv; split <;> rfl
@[simp] theorem recordBadv_gr (s : State) (x : Exc) : (s.recordBadv x).gr = s.gr := by unfold State.recordBadv; split <;> rfl
@[simp] theorem recordBadv_pc (s : State) (x : Exc) : (s.recordBadv x).pc = s.pc := by unfold State.recordBadv; split <;> rfl
@[simp] theorem recordBadv_fr (s : State) (x : Exc) : (s.recordBadv x).fr = s.fr := by unfold State.recordBadv; split <;> rfl
@[simp] theorem recordBadv_cfr (s : State) (x : Exc) : (s.recordBadv x).cfr = s.cfr := by unfold State.recordBadv; split <;> rfl
@[simp] theorem recordBadv_fcsr0 (s : State) (x : Exc) : (s.recordBadv x).fcsr0 = s.fcsr0 := by unfold State.recordBadv; split <;> rfl
@[simp] theorem recordBadv_timer (s : State) (x : Exc) : (s.recordBadv x).timer = s.timer := by unfold State.recordBadv; split <;> rfl
@[simp] theorem recordBadv_ras (s : State) (x : Exc) : (s.recordBadv x).ras = s.ras := by unfold State.recordBadv; split <;> rfl
@[simp] theorem recordBadv_pm (s : State) (x : Exc) : (s.recordBadv x).pm = s.pm := by unfold State.recordBadv; split <;> rfl
@[simp] theorem recordBadv_watch (s : State) (x : Exc) : (s.recordBadv x).watch = s.watch := by unfold State.recordBadv; split <;> rfl
@[simp] theorem recordBadv_dbg (s : State) (x : Exc) : (s.recordBadv x).dbg = s.dbg := by unfold State.recordBadv; split <;> rfl
@[simp] theorem recordBadv_llbit (s : State) (x : Exc) : (s.recordBadv x).llbit = s.llbit := by unfold State.recordBadv; split <;> rfl
@[simp] theorem recordBadv_lladdr (s : State) (x : Exc) : (s.recordBadv x).lladdr = s.lladdr := by unfold State.recordBadv; split <;> rfl
@[simp] theorem recordBadv_tlb (s : State) (x : Exc) : (s.recordBadv x).tlb = s.tlb := by unfold State.recordBadv; split <;> rfl
@[simp] theorem recordBadv_extIrq (s : State) (x : Exc) : (s.recordBadv x).extIrq = s.extIrq := by unfold State.recordBadv; split <;> rfl
@[simp] theorem recordBadv_idle (s : State) (x : Exc) : (s.recordBadv x).idle = s.idle := by unfold State.recordBadv; split <;> rfl
@[simp] theorem recordBadv_merrPending (s : State) (x : Exc) : (s.recordBadv x).merrPending = s.merrPending := by unfold State.recordBadv; split <;> rfl
@[simp] theorem recordBadv_mem (s : State) (x : Exc) : (s.recordBadv x).mem = s.mem := by unfold State.recordBadv; split <;> rfl
@[simp] theorem recordBadv_iocsr (s : State) (x : Exc) : (s.recordBadv x).iocsr = s.iocsr := by unfold State.recordBadv; split <;> rfl
@[simp] theorem recordBadv_freeCount (s : State) (x : Exc) : (s.recordBadv x).freeCount = s.freeCount := by unfold State.recordBadv; split <;> rfl
@[simp] theorem recordBadv_inputs (s : State) (x : Exc) : (s.recordBadv x).inputs = s.inputs := by unfold State.recordBadv; split <;> rfl
@[simp] theorem recordBadv_debugCall (s : State) (x : Exc) : (s.recordBadv x).debugCall = s.debugCall := by unfold State.recordBadv; split <;> rfl
@[simp] theorem recordBadv_curInsn (s : State) (x : Exc) : (s.recordBadv x).curInsn = s.curInsn := by unfold State.recordBadv; split <;> rfl

/-! ### enterGeneral -/

@[simp] theorem enterGeneral_cfg (s : State) (n : Nat) (e : BitVec 6) (b : BitVec 9) : (s.enterGeneral n e b).cfg = s.cfg := rfl
@[simp] theorem enterGeneral_gr (s : State) (n : Nat) (e : BitVec 6) (b : BitVec 9) : (s.enterGeneral n e b).gr = s.gr := rfl
@[simp] theorem enterGeneral_fr (s : State) (n : Nat) (e : BitVec 6) (b : BitVec 9) : (s.enterGeneral n e b).fr = s.fr := rfl
@[simp] theorem enterGeneral_cfr (s : State) (n : Nat) (e : BitVec 6) (b : BitVec 9) : (s.enterGeneral n e b).cfr = s.cfr := rfl
@[simp] theorem enterGeneral_fcsr0 (s : State) (n : Nat) (e : BitVec 6) (b : BitVec 9) : (s.enterGeneral n e b).fcsr0 = s.fcsr0 := rfl
@[simp] theorem enterGeneral_mmu (s : State) (n : Nat) (e : BitVec 6) (b : BitVec 9) : (s.enterGeneral n e b).mmu = s.mmu := rfl
@[simp] theorem enterGeneral_timer (s : State) (n : Nat) (e : BitVec 6) (b : BitVec 9) : (s.enterGeneral n e b).timer = s.timer := rfl
@[simp] theorem enterGeneral_ras (s : State) (n : Nat) (e : BitVec 6) (b : BitVec 9) : (s.enterGeneral n e b).ras = s.ras := rfl
@[simp] theorem enterGeneral_pm (s : State) (n : Nat) (e : BitVec 6) (b : BitVec 9) : (s.enterGeneral n e b).pm = s.pm := rfl
@[simp] theorem enterGeneral_watch (s : State) (n : Nat) (e : BitVec 6) (b : BitVec 9) : (s.enterGeneral n e b).watch = s.watch := rfl
@[simp] theorem enterGeneral_llbit (s : State) (n : Nat) (e : BitVec 6) (b : BitVec 9) : (s.enterGeneral n e b).llbit = s.llbit := rfl
@[simp] theorem enterGeneral_lladdr (s : State) (n : Nat) (e : BitVec 6) (b : BitVec 9) : (s.enterGeneral n e b).lladdr = s.lladdr := rfl
@[simp] theorem enterGeneral_tlb (s : State) (n : Nat) (e : BitVec 6) (b : BitVec 9) : (s.enterGeneral n e b).tlb = s.tlb := rfl
@[simp] theorem enterGeneral_extIrq (s : State) (n : Nat) (e : BitVec 6) (b : BitVec 9) : (s.enterGeneral n e b).extIrq = s.extIrq := rfl
@[simp] theorem enterGeneral_idle (s : State) (n : Nat) (e : BitVec 6) (b : BitVec 9) : (s.enterGeneral n e b).idle = s.idle := rfl
@[simp] theorem enterGeneral_merrPending (s : State) (n : Nat) (e : BitVec 6) (b : BitVec 9) : (s.enterGeneral n e b).merrPending = s.merrPending := rfl
@[simp] theorem enterGeneral_mem (s : State) (n : Nat) (e : BitVec 6) (b : BitVec 9) : (s.enterGeneral n e b).mem = s.mem := rfl
@[simp] theorem enterGeneral_iocsr (s : State) (n : Nat) (e : BitVec 6) (b : BitVec 9) : (s.enterGeneral n e b).iocsr = s.iocsr := rfl
@[simp] theorem enterGeneral_freeCount (s : State) (n : Nat) (e : BitVec 6) (b : BitVec 9) : (s.enterGeneral n e b).freeCount = s.freeCount := rfl
@[simp] theorem enterGeneral_inputs (s : State) (n : Nat) (e : BitVec 6) (b : BitVec 9) : (s.enterGeneral n e b).inputs = s.inputs := rfl
@[simp] theorem enterGeneral_debugCall (s : State) (n : Nat) (e : BitVec 6) (b : BitVec 9) : (s.enterGeneral n e b).debugCall = s.debugCall := rfl
@[simp] theorem enterGeneral_curInsn (s : State) (n : Nat) (e : BitVec 6) (b : BitVec 9) : (s.enterGeneral n e b).curInsn = s.curInsn := rfl

/-! ### enterRefill -/

@[simp] theorem enterRefill_cfg (s : State) (va : Word) : (s.enterRefill va).cfg = s.cfg := rfl
@[simp] theorem enterRefill_gr (s : State) (va : Word) : (s.enterRefill va).gr = s.gr := rfl
@[simp] theorem enterRefill_fr (s : State) (va : Word) : (s.enterRefill va).fr = s.fr := rfl
@[simp] theorem enterRefill_cfr (s : State) (va : Word) : (s.enterRefill va).cfr = s.cfr := rfl
@[simp] theorem enterRefill_fcsr0 (s : State) (va : Word) : (s.enterRefill va).fcsr0 = s.fcsr0 := rfl
@[simp] theorem enterRefill_timer (s : State) (va : Word) : (s.enterRefill va).timer = s.timer := rfl
@[simp] theorem enterRefill_ras (s : State) (va : Word) : (s.enterRefill va).ras = s.ras := rfl
@[simp] theorem enterRefill_pm (s : State) (va : Word) : (s.enterRefill va).pm = s.pm := rfl
@[simp] theorem enterRefill_watch (s : State) (va : Word) : (s.enterRefill va).watch = s.watch := rfl
@[simp] theorem enterRefill_llbit (s : State) (va : Word) : (s.enterRefill va).llbit = s.llbit := rfl
@[simp] theorem enterRefill_lladdr (s : State) (va : Word) : (s.enterRefill va).lladdr = s.lladdr := rfl
@[simp] theorem enterRefill_tlb (s : State) (va : Word) : (s.enterRefill va).tlb = s.tlb := rfl
@[simp] theorem enterRefill_extIrq (s : State) (va : Word) : (s.enterRefill va).extIrq = s.extIrq := rfl
@[simp] theorem enterRefill_idle (s : State) (va : Word) : (s.enterRefill va).idle = s.idle := rfl
@[simp] theorem enterRefill_merrPending (s : State) (va : Word) : (s.enterRefill va).merrPending = s.merrPending := rfl
@[simp] theorem enterRefill_mem (s : State) (va : Word) : (s.enterRefill va).mem = s.mem := rfl
@[simp] theorem enterRefill_iocsr (s : State) (va : Word) : (s.enterRefill va).iocsr = s.iocsr := rfl
@[simp] theorem enterRefill_freeCount (s : State) (va : Word) : (s.enterRefill va).freeCount = s.freeCount := rfl
@[simp] theorem enterRefill_inputs (s : State) (va : Word) : (s.enterRefill va).inputs = s.inputs := rfl
@[simp] theorem enterRefill_debugCall (s : State) (va : Word) : (s.enterRefill va).debugCall = s.debugCall := rfl
@[simp] theorem enterRefill_curInsn (s : State) (va : Word) : (s.enterRefill va).curInsn = s.curInsn := rfl

/-! ### enterMerr -/

@[simp] theorem enterMerr_cfg (s : State) (v : MerrEvent) : (s.enterMerr v).cfg = s.cfg := rfl
@[simp] theorem enterMerr_gr (s : State) (v : MerrEvent) : (s.enterMerr v).gr = s.gr := rfl
@[simp] theorem enterMerr_fr (s : State) (v : MerrEvent) : (s.enterMerr v).fr = s.fr := rfl
@[simp] theorem enterMerr_cfr (s : State) (v : MerrEvent) : (s.enterMerr v).cfr = s.cfr := rfl
@[simp] theorem enterMerr_fcsr0 (s : State) (v : MerrEvent) : (s.enterMerr v).fcsr0 = s.fcsr0 := rfl
@[simp] theorem enterMerr_mmu (s : State) (v : MerrEvent) : (s.enterMerr v).mmu = s.mmu := rfl
@[simp] theorem enterMerr_timer (s : State) (v : MerrEvent) : (s.enterMerr v).timer = s.timer := rfl
@[simp] theorem enterMerr_pm (s : State) (v : MerrEvent) : (s.enterMerr v).pm = s.pm := rfl
@[simp] theorem enterMerr_watch (s : State) (v : MerrEvent) : (s.enterMerr v).watch = s.watch := rfl
@[simp] theorem enterMerr_llbit (s : State) (v : MerrEvent) : (s.enterMerr v).llbit = s.llbit := rfl
@[simp] theorem enterMerr_lladdr (s : State) (v : MerrEvent) : (s.enterMerr v).lladdr = s.lladdr := rfl
@[simp] theorem enterMerr_tlb (s : State) (v : MerrEvent) : (s.enterMerr v).tlb = s.tlb := rfl
@[simp] theorem enterMerr_extIrq (s : State) (v : MerrEvent) : (s.enterMerr v).extIrq = s.extIrq := rfl
@[simp] theorem enterMerr_idle (s : State) (v : MerrEvent) : (s.enterMerr v).idle = s.idle := rfl
@[simp] theorem enterMerr_mem (s : State) (v : MerrEvent) : (s.enterMerr v).mem = s.mem := rfl
@[simp] theorem enterMerr_iocsr (s : State) (v : MerrEvent) : (s.enterMerr v).iocsr = s.iocsr := rfl
@[simp] theorem enterMerr_freeCount (s : State) (v : MerrEvent) : (s.enterMerr v).freeCount = s.freeCount := rfl
@[simp] theorem enterMerr_inputs (s : State) (v : MerrEvent) : (s.enterMerr v).inputs = s.inputs := rfl
@[simp] theorem enterMerr_debugCall (s : State) (v : MerrEvent) : (s.enterMerr v).debugCall = s.debugCall := rfl
@[simp] theorem enterMerr_curInsn (s : State) (v : MerrEvent) : (s.enterMerr v).curInsn = s.curInsn := rfl

/-! ### ertn -/

@[simp] theorem ertn_cfg (s : State) : s.ertn.cfg = s.cfg := by
  unfold State.ertn State.ertnLlbit State.ertnContext; dsimp only; repeat (first | rfl | split)
@[simp] theorem ertn_gr (s : State) : s.ertn.gr = s.gr := by
  unfold State.ertn State.ertnLlbit State.ertnContext; dsimp only; repeat (first | rfl | split)
@[simp] theorem ertn_fr (s : State) : s.ertn.fr = s.fr := by
  unfold State.ertn State.ertnLlbit State.ertnContext; dsimp only; repeat (first | rfl | split)
@[simp] theorem ertn_cfr (s : State) : s.ertn.cfr = s.cfr := by
  unfold State.ertn State.ertnLlbit State.ertnContext; dsimp only; repeat (first | rfl | split)
@[simp] theorem ertn_fcsr0 (s : State) : s.ertn.fcsr0 = s.fcsr0 := by
  unfold State.ertn State.ertnLlbit State.ertnContext; dsimp only; repeat (first | rfl | split)
@[simp] theorem ertn_timer (s : State) : s.ertn.timer = s.timer := by
  unfold State.ertn State.ertnLlbit State.ertnContext; dsimp only; repeat (first | rfl | split)
@[simp] theorem ertn_pm (s : State) : s.ertn.pm = s.pm := by
  unfold State.ertn State.ertnLlbit State.ertnContext; dsimp only; repeat (first | rfl | split)
@[simp] theorem ertn_watch (s : State) : s.ertn.watch = s.watch := by
  unfold State.ertn State.ertnLlbit State.ertnContext; dsimp only; repeat (first | rfl | split)
@[simp] theorem ertn_lladdr (s : State) : s.ertn.lladdr = s.lladdr := by
  unfold State.ertn State.ertnLlbit State.ertnContext; dsimp only; repeat (first | rfl | split)
@[simp] theorem ertn_tlb (s : State) : s.ertn.tlb = s.tlb := by
  unfold State.ertn State.ertnLlbit State.ertnContext; dsimp only; repeat (first | rfl | split)
@[simp] theorem ertn_extIrq (s : State) : s.ertn.extIrq = s.extIrq := by
  unfold State.ertn State.ertnLlbit State.ertnContext; dsimp only; repeat (first | rfl | split)
@[simp] theorem ertn_idle (s : State) : s.ertn.idle = s.idle := by
  unfold State.ertn State.ertnLlbit State.ertnContext; dsimp only; repeat (first | rfl | split)
@[simp] theorem ertn_merrPending (s : State) : s.ertn.merrPending = s.merrPending := by
  unfold State.ertn State.ertnLlbit State.ertnContext; dsimp only; repeat (first | rfl | split)
@[simp] theorem ertn_mem (s : State) : s.ertn.mem = s.mem := by
  unfold State.ertn State.ertnLlbit State.ertnContext; dsimp only; repeat (first | rfl | split)
@[simp] theorem ertn_iocsr (s : State) : s.ertn.iocsr = s.iocsr := by
  unfold State.ertn State.ertnLlbit State.ertnContext; dsimp only; repeat (first | rfl | split)
@[simp] theorem ertn_freeCount (s : State) : s.ertn.freeCount = s.freeCount := by
  unfold State.ertn State.ertnLlbit State.ertnContext; dsimp only; repeat (first | rfl | split)
@[simp] theorem ertn_inputs (s : State) : s.ertn.inputs = s.inputs := by
  unfold State.ertn State.ertnLlbit State.ertnContext; dsimp only; repeat (first | rfl | split)
@[simp] theorem ertn_debugCall (s : State) : s.ertn.debugCall = s.debugCall := by
  unfold State.ertn State.ertnLlbit State.ertnContext; dsimp only; repeat (first | rfl | split)
@[simp] theorem ertn_curInsn (s : State) : s.ertn.curInsn = s.curInsn := by
  unfold State.ertn State.ertnLlbit State.ertnContext; dsimp only; repeat (first | rfl | split)

/-! ### debugCallEntry -/

@[simp] theorem debugCallEntry_cfg (s : State) (c : BitVec 15) : (s.debugCallEntry c).cfg = s.cfg := rfl
@[simp] theorem debugCallEntry_gr (s : State) (c : BitVec 15) : (s.debugCallEntry c).gr = s.gr := rfl
@[simp] theorem debugCallEntry_fr (s : State) (c : BitVec 15) : (s.debugCallEntry c).fr = s.fr := rfl
@[simp] theorem debugCallEntry_cfr (s : State) (c : BitVec 15) : (s.debugCallEntry c).cfr = s.cfr := rfl
@[simp] theorem debugCallEntry_fcsr0 (s : State) (c : BitVec 15) : (s.debugCallEntry c).fcsr0 = s.fcsr0 := rfl
@[simp] theorem debugCallEntry_csr (s : State) (c : BitVec 15) : (s.debugCallEntry c).csr = s.csr := rfl
@[simp] theorem debugCallEntry_mmu (s : State) (c : BitVec 15) : (s.debugCallEntry c).mmu = s.mmu := rfl
@[simp] theorem debugCallEntry_timer (s : State) (c : BitVec 15) : (s.debugCallEntry c).timer = s.timer := rfl
@[simp] theorem debugCallEntry_ras (s : State) (c : BitVec 15) : (s.debugCallEntry c).ras = s.ras := rfl
@[simp] theorem debugCallEntry_pm (s : State) (c : BitVec 15) : (s.debugCallEntry c).pm = s.pm := rfl
@[simp] theorem debugCallEntry_watch (s : State) (c : BitVec 15) : (s.debugCallEntry c).watch = s.watch := rfl
@[simp] theorem debugCallEntry_llbit (s : State) (c : BitVec 15) : (s.debugCallEntry c).llbit = s.llbit := rfl
@[simp] theorem debugCallEntry_lladdr (s : State) (c : BitVec 15) : (s.debugCallEntry c).lladdr = s.lladdr := rfl
@[simp] theorem debugCallEntry_tlb (s : State) (c : BitVec 15) : (s.debugCallEntry c).tlb = s.tlb := rfl
@[simp] theorem debugCallEntry_extIrq (s : State) (c : BitVec 15) : (s.debugCallEntry c).extIrq = s.extIrq := rfl
@[simp] theorem debugCallEntry_idle (s : State) (c : BitVec 15) : (s.debugCallEntry c).idle = s.idle := rfl
@[simp] theorem debugCallEntry_merrPending (s : State) (c : BitVec 15) : (s.debugCallEntry c).merrPending = s.merrPending := rfl
@[simp] theorem debugCallEntry_mem (s : State) (c : BitVec 15) : (s.debugCallEntry c).mem = s.mem := rfl
@[simp] theorem debugCallEntry_iocsr (s : State) (c : BitVec 15) : (s.debugCallEntry c).iocsr = s.iocsr := rfl
@[simp] theorem debugCallEntry_freeCount (s : State) (c : BitVec 15) : (s.debugCallEntry c).freeCount = s.freeCount := rfl
@[simp] theorem debugCallEntry_inputs (s : State) (c : BitVec 15) : (s.debugCallEntry c).inputs = s.inputs := rfl
@[simp] theorem debugCallEntry_curInsn (s : State) (c : BitVec 15) : (s.debugCallEntry c).curInsn = s.curInsn := rfl

/-! ### ticks -/

@[simp] theorem ticks_cfg (s : State) (n : Nat) : (s.ticks n).cfg = s.cfg := by unfold State.ticks; split <;> rfl
@[simp] theorem ticks_gr (s : State) (n : Nat) : (s.ticks n).gr = s.gr := by unfold State.ticks; split <;> rfl
@[simp] theorem ticks_pc (s : State) (n : Nat) : (s.ticks n).pc = s.pc := by unfold State.ticks; split <;> rfl
@[simp] theorem ticks_fr (s : State) (n : Nat) : (s.ticks n).fr = s.fr := by unfold State.ticks; split <;> rfl
@[simp] theorem ticks_cfr (s : State) (n : Nat) : (s.ticks n).cfr = s.cfr := by unfold State.ticks; split <;> rfl
@[simp] theorem ticks_fcsr0 (s : State) (n : Nat) : (s.ticks n).fcsr0 = s.fcsr0 := by unfold State.ticks; split <;> rfl
@[simp] theorem ticks_csr (s : State) (n : Nat) : (s.ticks n).csr = s.csr := by unfold State.ticks; split <;> rfl
@[simp] theorem ticks_mmu (s : State) (n : Nat) : (s.ticks n).mmu = s.mmu := by unfold State.ticks; split <;> rfl
@[simp] theorem ticks_ras (s : State) (n : Nat) : (s.ticks n).ras = s.ras := by unfold State.ticks; split <;> rfl
@[simp] theorem ticks_pm (s : State) (n : Nat) : (s.ticks n).pm = s.pm := by unfold State.ticks; split <;> rfl
@[simp] theorem ticks_watch (s : State) (n : Nat) : (s.ticks n).watch = s.watch := by unfold State.ticks; split <;> rfl
@[simp] theorem ticks_dbg (s : State) (n : Nat) : (s.ticks n).dbg = s.dbg := by unfold State.ticks; split <;> rfl
@[simp] theorem ticks_llbit (s : State) (n : Nat) : (s.ticks n).llbit = s.llbit := by unfold State.ticks; split <;> rfl
@[simp] theorem ticks_lladdr (s : State) (n : Nat) : (s.ticks n).lladdr = s.lladdr := by unfold State.ticks; split <;> rfl
@[simp] theorem ticks_tlb (s : State) (n : Nat) : (s.ticks n).tlb = s.tlb := by unfold State.ticks; split <;> rfl
@[simp] theorem ticks_extIrq (s : State) (n : Nat) : (s.ticks n).extIrq = s.extIrq := by unfold State.ticks; split <;> rfl
@[simp] theorem ticks_idle (s : State) (n : Nat) : (s.ticks n).idle = s.idle := by unfold State.ticks; split <;> rfl
@[simp] theorem ticks_merrPending (s : State) (n : Nat) : (s.ticks n).merrPending = s.merrPending := by unfold State.ticks; split <;> rfl
@[simp] theorem ticks_mem (s : State) (n : Nat) : (s.ticks n).mem = s.mem := by unfold State.ticks; split <;> rfl
@[simp] theorem ticks_iocsr (s : State) (n : Nat) : (s.ticks n).iocsr = s.iocsr := by unfold State.ticks; split <;> rfl
@[simp] theorem ticks_freeCount (s : State) (n : Nat) : (s.ticks n).freeCount = s.freeCount := by unfold State.ticks; split <;> rfl
@[simp] theorem ticks_inputs (s : State) (n : Nat) : (s.ticks n).inputs = s.inputs := by unfold State.ticks; split <;> rfl
@[simp] theorem ticks_debugCall (s : State) (n : Nat) : (s.ticks n).debugCall = s.debugCall := by unfold State.ticks; split <;> rfl
@[simp] theorem ticks_curInsn (s : State) (n : Nat) : (s.ticks n).curInsn = s.curInsn := by unfold State.ticks; split <;> rfl

/-! ### otherStore -/

@[simp] theorem otherStore_cfg (s : State) (c : Host.Cell) : (s.otherStore c).cfg = s.cfg := rfl
@[simp] theorem otherStore_gr (s : State) (c : Host.Cell) : (s.otherStore c).gr = s.gr := rfl
@[simp] theorem otherStore_pc (s : State) (c : Host.Cell) : (s.otherStore c).pc = s.pc := rfl
@[simp] theorem otherStore_fr (s : State) (c : Host.Cell) : (s.otherStore c).fr = s.fr := rfl
@[simp] theorem otherStore_cfr (s : State) (c : Host.Cell) : (s.otherStore c).cfr = s.cfr := rfl
@[simp] theorem otherStore_fcsr0 (s : State) (c : Host.Cell) : (s.otherStore c).fcsr0 = s.fcsr0 := rfl
@[simp] theorem otherStore_csr (s : State) (c : Host.Cell) : (s.otherStore c).csr = s.csr := rfl
@[simp] theorem otherStore_mmu (s : State) (c : Host.Cell) : (s.otherStore c).mmu = s.mmu := rfl
@[simp] theorem otherStore_timer (s : State) (c : Host.Cell) : (s.otherStore c).timer = s.timer := rfl
@[simp] theorem otherStore_ras (s : State) (c : Host.Cell) : (s.otherStore c).ras = s.ras := rfl
@[simp] theorem otherStore_pm (s : State) (c : Host.Cell) : (s.otherStore c).pm = s.pm := rfl
@[simp] theorem otherStore_watch (s : State) (c : Host.Cell) : (s.otherStore c).watch = s.watch := rfl
@[simp] theorem otherStore_dbg (s : State) (c : Host.Cell) : (s.otherStore c).dbg = s.dbg := rfl
@[simp] theorem otherStore_lladdr (s : State) (c : Host.Cell) : (s.otherStore c).lladdr = s.lladdr := rfl
@[simp] theorem otherStore_tlb (s : State) (c : Host.Cell) : (s.otherStore c).tlb = s.tlb := rfl
@[simp] theorem otherStore_extIrq (s : State) (c : Host.Cell) : (s.otherStore c).extIrq = s.extIrq := rfl
@[simp] theorem otherStore_idle (s : State) (c : Host.Cell) : (s.otherStore c).idle = s.idle := rfl
@[simp] theorem otherStore_merrPending (s : State) (c : Host.Cell) : (s.otherStore c).merrPending = s.merrPending := rfl
@[simp] theorem otherStore_iocsr (s : State) (c : Host.Cell) : (s.otherStore c).iocsr = s.iocsr := rfl
@[simp] theorem otherStore_freeCount (s : State) (c : Host.Cell) : (s.otherStore c).freeCount = s.freeCount := rfl
@[simp] theorem otherStore_inputs (s : State) (c : Host.Cell) : (s.otherStore c).inputs = s.inputs := rfl
@[simp] theorem otherStore_debugCall (s : State) (c : Host.Cell) : (s.otherStore c).debugCall = s.debugCall := rfl
@[simp] theorem otherStore_curInsn (s : State) (c : Host.Cell) : (s.otherStore c).curInsn = s.curInsn := rfl

/-! ### otherIocsr -/

@[simp] theorem otherIocsr_cfg (s : State) (c : Host.Cell) : (s.otherIocsr c).cfg = s.cfg := rfl
@[simp] theorem otherIocsr_gr (s : State) (c : Host.Cell) : (s.otherIocsr c).gr = s.gr := rfl
@[simp] theorem otherIocsr_pc (s : State) (c : Host.Cell) : (s.otherIocsr c).pc = s.pc := rfl
@[simp] theorem otherIocsr_fr (s : State) (c : Host.Cell) : (s.otherIocsr c).fr = s.fr := rfl
@[simp] theorem otherIocsr_cfr (s : State) (c : Host.Cell) : (s.otherIocsr c).cfr = s.cfr := rfl
@[simp] theorem otherIocsr_fcsr0 (s : State) (c : Host.Cell) : (s.otherIocsr c).fcsr0 = s.fcsr0 := rfl
@[simp] theorem otherIocsr_csr (s : State) (c : Host.Cell) : (s.otherIocsr c).csr = s.csr := rfl
@[simp] theorem otherIocsr_mmu (s : State) (c : Host.Cell) : (s.otherIocsr c).mmu = s.mmu := rfl
@[simp] theorem otherIocsr_timer (s : State) (c : Host.Cell) : (s.otherIocsr c).timer = s.timer := rfl
@[simp] theorem otherIocsr_ras (s : State) (c : Host.Cell) : (s.otherIocsr c).ras = s.ras := rfl
@[simp] theorem otherIocsr_pm (s : State) (c : Host.Cell) : (s.otherIocsr c).pm = s.pm := rfl
@[simp] theorem otherIocsr_watch (s : State) (c : Host.Cell) : (s.otherIocsr c).watch = s.watch := rfl
@[simp] theorem otherIocsr_dbg (s : State) (c : Host.Cell) : (s.otherIocsr c).dbg = s.dbg := rfl
@[simp] theorem otherIocsr_llbit (s : State) (c : Host.Cell) : (s.otherIocsr c).llbit = s.llbit := rfl
@[simp] theorem otherIocsr_lladdr (s : State) (c : Host.Cell) : (s.otherIocsr c).lladdr = s.lladdr := rfl
@[simp] theorem otherIocsr_tlb (s : State) (c : Host.Cell) : (s.otherIocsr c).tlb = s.tlb := rfl
@[simp] theorem otherIocsr_extIrq (s : State) (c : Host.Cell) : (s.otherIocsr c).extIrq = s.extIrq := rfl
@[simp] theorem otherIocsr_idle (s : State) (c : Host.Cell) : (s.otherIocsr c).idle = s.idle := rfl
@[simp] theorem otherIocsr_merrPending (s : State) (c : Host.Cell) : (s.otherIocsr c).merrPending = s.merrPending := rfl
@[simp] theorem otherIocsr_mem (s : State) (c : Host.Cell) : (s.otherIocsr c).mem = s.mem := rfl
@[simp] theorem otherIocsr_freeCount (s : State) (c : Host.Cell) : (s.otherIocsr c).freeCount = s.freeCount := rfl
@[simp] theorem otherIocsr_inputs (s : State) (c : Host.Cell) : (s.otherIocsr c).inputs = s.inputs := rfl
@[simp] theorem otherIocsr_debugCall (s : State) (c : Host.Cell) : (s.otherIocsr c).debugCall = s.debugCall := rfl
@[simp] theorem otherIocsr_curInsn (s : State) (c : Host.Cell) : (s.otherIocsr c).curInsn = s.curInsn := rfl

/-! ### applyInput -/

/-- What every step of a fold leaves, the fold leaves. -/
theorem foldl_keeps {α β γ : Type} {f : α → β → α} {g : α → γ} (h : ∀ a b, g (f a b) = g a) (l : List β) :
    ∀ a, g (l.foldl f a) = g a := by
  induction l with
  | nil => exact fun _ => rfl
  | cons b l ih => exact fun a => (ih (f a b)).trans (h a b)

/-- A field that no input of a step writes. -/
theorem applyInput_keeps {γ : Type} {g : State → γ} (hticks : ∀ s n, g (State.ticks s n) = g s)
    (hin : ∀ (s : State) l m is, g { s with extIrq := l, merrPending := m, inputs := is } = g s)
    (hst : ∀ s c, g (State.otherStore s c) = g s) (hio : ∀ s c, g (State.otherIocsr s c) = g s) (s : State) :
    g s.applyInput = g s := by
  unfold State.applyInput
  split
  · exact hticks s _
  · rw [foldl_keeps hio, foldl_keeps hst, hin, hticks]

@[simp] theorem applyInput_cfg (s : State) : s.applyInput.cfg = s.cfg :=
  applyInput_keeps (g := State.cfg) (by simp) (fun _ _ _ _ => rfl) (by simp) (by simp) s
@[simp] theorem applyInput_gr (s : State) : s.applyInput.gr = s.gr :=
  applyInput_keeps (g := State.gr) (by simp) (fun _ _ _ _ => rfl) (by simp) (by simp) s
@[simp] theorem applyInput_pc (s : State) : s.applyInput.pc = s.pc :=
  applyInput_keeps (g := State.pc) (by simp) (fun _ _ _ _ => rfl) (by simp) (by simp) s
@[simp] theorem applyInput_fr (s : State) : s.applyInput.fr = s.fr :=
  applyInput_keeps (g := State.fr) (by simp) (fun _ _ _ _ => rfl) (by simp) (by simp) s
@[simp] theorem applyInput_cfr (s : State) : s.applyInput.cfr = s.cfr :=
  applyInput_keeps (g := State.cfr) (by simp) (fun _ _ _ _ => rfl) (by simp) (by simp) s
@[simp] theorem applyInput_fcsr0 (s : State) : s.applyInput.fcsr0 = s.fcsr0 :=
  applyInput_keeps (g := State.fcsr0) (by simp) (fun _ _ _ _ => rfl) (by simp) (by simp) s
@[simp] theorem applyInput_csr (s : State) : s.applyInput.csr = s.csr :=
  applyInput_keeps (g := State.csr) (by simp) (fun _ _ _ _ => rfl) (by simp) (by simp) s
@[simp] theorem applyInput_mmu (s : State) : s.applyInput.mmu = s.mmu :=
  applyInput_keeps (g := State.mmu) (by simp) (fun _ _ _ _ => rfl) (by simp) (by simp) s
@[simp] theorem applyInput_ras (s : State) : s.applyInput.ras = s.ras :=
  applyInput_keeps (g := State.ras) (by simp) (fun _ _ _ _ => rfl) (by simp) (by simp) s
@[simp] theorem applyInput_pm (s : State) : s.applyInput.pm = s.pm :=
  applyInput_keeps (g := State.pm) (by simp) (fun _ _ _ _ => rfl) (by simp) (by simp) s
@[simp] theorem applyInput_watch (s : State) : s.applyInput.watch = s.watch :=
  applyInput_keeps (g := State.watch) (by simp) (fun _ _ _ _ => rfl) (by simp) (by simp) s
@[simp] theorem applyInput_dbg (s : State) : s.applyInput.dbg = s.dbg :=
  applyInput_keeps (g := State.dbg) (by simp) (fun _ _ _ _ => rfl) (by simp) (by simp) s
@[simp] theorem applyInput_lladdr (s : State) : s.applyInput.lladdr = s.lladdr :=
  applyInput_keeps (g := State.lladdr) (by simp) (fun _ _ _ _ => rfl) (by simp) (by simp) s
@[simp] theorem applyInput_tlb (s : State) : s.applyInput.tlb = s.tlb :=
  applyInput_keeps (g := State.tlb) (by simp) (fun _ _ _ _ => rfl) (by simp) (by simp) s
@[simp] theorem applyInput_idle (s : State) : s.applyInput.idle = s.idle :=
  applyInput_keeps (g := State.idle) (by simp) (fun _ _ _ _ => rfl) (by simp) (by simp) s
@[simp] theorem applyInput_freeCount (s : State) : s.applyInput.freeCount = s.freeCount :=
  applyInput_keeps (g := State.freeCount) (by simp) (fun _ _ _ _ => rfl) (by simp) (by simp) s
@[simp] theorem applyInput_debugCall (s : State) : s.applyInput.debugCall = s.debugCall :=
  applyInput_keeps (g := State.debugCall) (by simp) (fun _ _ _ _ => rfl) (by simp) (by simp) s
@[simp] theorem applyInput_curInsn (s : State) : s.applyInput.curInsn = s.curInsn :=
  applyInput_keeps (g := State.curInsn) (by simp) (fun _ _ _ _ => rfl) (by simp) (by simp) s

/-- The clock and timer of a step: those after the ticks of its input. -/
theorem applyInput_timer (s : State) : s.applyInput.timer = s.clockAfter s.comingTicks := by
  unfold State.applyInput State.comingTicks State.clockAfter State.ticks
  cases s.inputs with
  | nil => simp only; split <;> rfl
  | cons i rest =>
    rw [foldl_keeps (g := State.timer) otherIocsr_timer, foldl_keeps (g := State.timer) otherStore_timer]
    simp only; split <;> rfl

end Sys2Proof.Machine
end

