-- ==== Sys2Proof/Laws/Registers.lean ====
section
/-!
SUPPORT. General, floating-point and flag registers and bytes of memory: what each update leaves as it was, and what a
read after a write gives.
-/

namespace Sys2Proof.Machine

/-! ## Reads see only their own field -/

theorem getGr_of_gr {s t : State} (h : t.gr = s.gr) (r : Reg) : t.getGr r = s.getGr r := by simp only [State.getGr, h]

theorem getFr_of_fr {s t : State} (h : t.fr = s.fr) (r : Reg) : t.getFr r = s.getFr r := by simp only [State.getFr, h]

theorem getFrS_of_fr {s t : State} (h : t.fr = s.fr) (r : Reg) : t.getFrS r = s.getFrS r := by
  simp only [State.getFrS, State.getFr, h]

theorem getCf_of_cfr {s t : State} (h : t.cfr = s.cfr) (c : BitVec 3) : t.getCf c = s.getCf c := by
  simp only [State.getCf, h]

theorem memByte_of_mem {s t : State} (h : t.mem = s.mem) (hc : t.cfg = s.cfg) (a : Nat) : t.memByte a = s.memByte a := by
  simp only [State.memByte, h, hc]

/-! ### setPc -/

@[simp] theorem setPc_getGr (s : State) (t : Word) (q : Reg) : (s.setPc t).getGr q = s.getGr q :=
  getGr_of_gr (by simp) q
@[simp] theorem setPc_getFr (s : State) (t : Word) (q : Reg) : (s.setPc t).getFr q = s.getFr q :=
  getFr_of_fr (by simp) q
@[simp] theorem setPc_getFrS (s : State) (t : Word) (q : Reg) : (s.setPc t).getFrS q = s.getFrS q :=
  getFrS_of_fr (by simp) q
@[simp] theorem setPc_getCf (s : State) (t : Word) (q : BitVec 3) : (s.setPc t).getCf q = s.getCf q :=
  getCf_of_cfr (by simp) q
@[simp] theorem setPc_memByte (s : State) (t : Word) (q : Nat) : (s.setPc t).memByte q = s.memByte q :=
  memByte_of_mem (by simp) (by simp) q

/-! ### advance -/

@[simp] theorem advance_getGr (s : State) (q : Reg) : (s.advance).getGr q = s.getGr q :=
  getGr_of_gr (by simp) q
@[simp] theorem advance_getFr (s : State) (q : Reg) : (s.advance).getFr q = s.getFr q :=
  getFr_of_fr (by simp) q
@[simp] theorem advance_getFrS (s : State) (q : Reg) : (s.advance).getFrS q = s.getFrS q :=
  getFrS_of_fr (by simp) q
@[simp] theorem advance_getCf (s : State) (q : BitVec 3) : (s.advance).getCf q = s.getCf q :=
  getCf_of_cfr (by simp) q
@[simp] theorem advance_memByte (s : State) (q : Nat) : (s.advance).memByte q = s.memByte q :=
  memByte_of_mem (by simp) (by simp) q

/-! ### setGr -/

@[simp] theorem setGr_getFr (s : State) (r : Reg) (x : Word) (q : Reg) : (s.setGr r x).getFr q = s.getFr q :=
  getFr_of_fr (by simp) q
@[simp] theorem setGr_getFrS (s : State) (r : Reg) (x : Word) (q : Reg) : (s.setGr r x).getFrS q = s.getFrS q :=
  getFrS_of_fr (by simp) q
@[simp] theorem setGr_getCf (s : State) (r : Reg) (x : Word) (q : BitVec 3) : (s.setGr r x).getCf q = s.getCf q :=
  getCf_of_cfr (by simp) q
@[simp] theorem setGr_memByte (s : State) (r : Reg) (x : Word) (q : Nat) : (s.setGr r x).memByte q = s.memByte q :=
  memByte_of_mem (by simp) (by simp) q

/-! ### setFr -/

@[simp] theorem setFr_getGr (s : State) (r : Reg) (x : Word) (q : Reg) : (s.setFr r x).getGr q = s.getGr q :=
  getGr_of_gr (by simp) q
@[simp] theorem setFr_getCf (s : State) (r : Reg) (x : Word) (q : BitVec 3) : (s.setFr r x).getCf q = s.getCf q :=
  getCf_of_cfr (by simp) q
@[simp] theorem setFr_memByte (s : State) (r : Reg) (x : Word) (q : Nat) : (s.setFr r x).memByte q = s.memByte q :=
  memByte_of_mem (by simp) (by simp) q

/-! ### draw -/

@[simp] theorem draw_getGr (s : State) (q : Reg) : (s.draw.2).getGr q = s.getGr q :=
  getGr_of_gr (by simp) q
@[simp] theorem draw_getFr (s : State) (q : Reg) : (s.draw.2).getFr q = s.getFr q :=
  getFr_of_fr (by simp) q
@[simp] theorem draw_getFrS (s : State) (q : Reg) : (s.draw.2).getFrS q = s.getFrS q :=
  getFrS_of_fr (by simp) q
@[simp] theorem draw_getCf (s : State) (q : BitVec 3) : (s.draw.2).getCf q = s.getCf q :=
  getCf_of_cfr (by simp) q
@[simp] theorem draw_memByte (s : State) (q : Nat) : (s.draw.2).memByte q = s.memByte q :=
  memByte_of_mem (by simp) (by simp) q

/-! ### setFrS -/

@[simp] theorem setFrS_getGr (s : State) (r : Reg) (x : BitVec 32) (q : Reg) : (s.setFrS r x).getGr q = s.getGr q :=
  getGr_of_gr (by simp) q
@[simp] theorem setFrS_getCf (s : State) (r : Reg) (x : BitVec 32) (q : BitVec 3) : (s.setFrS r x).getCf q = s.getCf q :=
  getCf_of_cfr (by simp) q
@[simp] theorem setFrS_memByte (s : State) (r : Reg) (x : BitVec 32) (q : Nat) : (s.setFrS r x).memByte q = s.memByte q :=
  memByte_of_mem (by simp) (by simp) q

/-! ### setFmt -/

@[simp] theorem setFmt_getGr (s : State) (f : Fmt) (r : Reg) (x : Word) (q : Reg) : (s.setFmt f r x).getGr q = s.getGr q :=
  getGr_of_gr (by simp) q
@[simp] theorem setFmt_getCf (s : State) (f : Fmt) (r : Reg) (x : Word) (q : BitVec 3) : (s.setFmt f r x).getCf q = s.getCf q :=
  getCf_of_cfr (by simp) q
@[simp] theorem setFmt_memByte (s : State) (f : Fmt) (r : Reg) (x : Word) (q : Nat) : (s.setFmt f r x).memByte q = s.memByte q :=
  memByte_of_mem (by simp) (by simp) q

/-! ### setCf -/

@[simp] theorem setCf_getGr (s : State) (c : BitVec 3) (b : Bool) (q : Reg) : (s.setCf c b).getGr q = s.getGr q :=
  getGr_of_gr (by simp) q
@[simp] theorem setCf_getFr (s : State) (c : BitVec 3) (b : Bool) (q : Reg) : (s.setCf c b).getFr q = s.getFr q :=
  getFr_of_fr (by simp) q
@[simp] theorem setCf_getFrS (s : State) (c : BitVec 3) (b : Bool) (q : Reg) : (s.setCf c b).getFrS q = s.getFrS q :=
  getFrS_of_fr (by simp) q
@[simp] theorem setCf_memByte (s : State) (c : BitVec 3) (b : Bool) (q : Nat) : (s.setCf c b).memByte q = s.memByte q :=
  memByte_of_mem (by simp) (by simp) q

/-! ### writeBytes -/

@[simp] theorem writeBytes_getGr (s : State) (as : List Nat) (v : Word) (q : Reg) : (s.writeBytes as v).getGr q = s.getGr q :=
  getGr_of_gr (by simp) q
@[simp] theorem writeBytes_getFr (s : State) (as : List Nat) (v : Word) (q : Reg) : (s.writeBytes as v).getFr q = s.getFr q :=
  getFr_of_fr (by simp) q
@[simp] theorem writeBytes_getFrS (s : State) (as : List Nat) (v : Word) (q : Reg) : (s.writeBytes as v).getFrS q = s.getFrS q :=
  getFrS_of_fr (by simp) q
@[simp] theorem writeBytes_getCf (s : State) (as : List Nat) (v : Word) (q : BitVec 3) : (s.writeBytes as v).getCf q = s.getCf q :=
  getCf_of_cfr (by simp) q

/-! ### iocsrWrite -/

@[simp] theorem iocsrWrite_getGr (s : State) (a : Word) (n : Nat) (v : Word) (q : Reg) : (s.iocsrWrite a n v).getGr q = s.getGr q :=
  getGr_of_gr (by simp) q
@[simp] theorem iocsrWrite_getFr (s : State) (a : Word) (n : Nat) (v : Word) (q : Reg) : (s.iocsrWrite a n v).getFr q = s.getFr q :=
  getFr_of_fr (by simp) q
@[simp] theorem iocsrWrite_getFrS (s : State) (a : Word) (n : Nat) (v : Word) (q : Reg) : (s.iocsrWrite a n v).getFrS q = s.getFrS q :=
  getFrS_of_fr (by simp) q
@[simp] theorem iocsrWrite_getCf (s : State) (a : Word) (n : Nat) (v : Word) (q : BitVec 3) : (s.iocsrWrite a n v).getCf q = s.getCf q :=
  getCf_of_cfr (by simp) q
@[simp] theorem iocsrWrite_memByte (s : State) (a : Word) (n : Nat) (v : Word) (q : Nat) : (s.iocsrWrite a n v).memByte q = s.memByte q :=
  memByte_of_mem (by simp) (by simp) q

/-! ### setCause -/

@[simp] theorem setCause_getGr (s : State) (e : FpExc) (q : Reg) : (s.setCause e).getGr q = s.getGr q :=
  getGr_of_gr (by simp) q
@[simp] theorem setCause_getFr (s : State) (e : FpExc) (q : Reg) : (s.setCause e).getFr q = s.getFr q :=
  getFr_of_fr (by simp) q
@[simp] theorem setCause_getFrS (s : State) (e : FpExc) (q : Reg) : (s.setCause e).getFrS q = s.getFrS q :=
  getFrS_of_fr (by simp) q
@[simp] theorem setCause_getCf (s : State) (e : FpExc) (q : BitVec 3) : (s.setCause e).getCf q = s.getCf q :=
  getCf_of_cfr (by simp) q
@[simp] theorem setCause_memByte (s : State) (e : FpExc) (q : Nat) : (s.setCause e).memByte q = s.memByte q :=
  memByte_of_mem (by simp) (by simp) q

/-! ### addFlags -/

@[simp] theorem addFlags_getGr (s : State) (e : FpExc) (q : Reg) : (s.addFlags e).getGr q = s.getGr q :=
  getGr_of_gr (by simp) q
@[simp] theorem addFlags_getFr (s : State) (e : FpExc) (q : Reg) : (s.addFlags e).getFr q = s.getFr q :=
  getFr_of_fr (by simp) q
@[simp] theorem addFlags_getFrS (s : State) (e : FpExc) (q : Reg) : (s.addFlags e).getFrS q = s.getFrS q :=
  getFrS_of_fr (by simp) q
@[simp] theorem addFlags_getCf (s : State) (e : FpExc) (q : BitVec 3) : (s.addFlags e).getCf q = s.getCf q :=
  getCf_of_cfr (by simp) q
@[simp] theorem addFlags_memByte (s : State) (e : FpExc) (q : Nat) : (s.addFlags e).memByte q = s.memByte q :=
  memByte_of_mem (by simp) (by simp) q

/-! ### writeFcsr -/

@[simp] theorem writeFcsr_getGr (s : State) (n : BitVec 5) (v : BitVec 32) (q : Reg) : (s.writeFcsr n v).getGr q = s.getGr q :=
  getGr_of_gr (by simp) q
@[simp] theorem writeFcsr_getFr (s : State) (n : BitVec 5) (v : BitVec 32) (q : Reg) : (s.writeFcsr n v).getFr q = s.getFr q :=
  getFr_of_fr (by simp) q
@[simp] theorem writeFcsr_getFrS (s : State) (n : BitVec 5) (v : BitVec 32) (q : Reg) : (s.writeFcsr n v).getFrS q = s.getFrS q :=
  getFrS_of_fr (by simp) q
@[simp] theorem writeFcsr_getCf (s : State) (n : BitVec 5) (v : BitVec 32) (q : BitVec 3) : (s.writeFcsr n v).getCf q = s.getCf q :=
  getCf_of_cfr (by simp) q
@[simp] theorem writeFcsr_memByte (s : State) (n : BitVec 5) (v : BitVec 32) (q : Nat) : (s.writeFcsr n v).memByte q = s.memByte q :=
  memByte_of_mem (by simp) (by simp) q

/-! ### setTlb -/

@[simp] theorem setTlb_getGr (s : State) (i : Nat) (e : TlbEntry) (q : Reg) : (s.setTlb i e).getGr q = s.getGr q :=
  getGr_of_gr (by simp) q
@[simp] theorem setTlb_getFr (s : State) (i : Nat) (e : TlbEntry) (q : Reg) : (s.setTlb i e).getFr q = s.getFr q :=
  getFr_of_fr (by simp) q
@[simp] theorem setTlb_getFrS (s : State) (i : Nat) (e : TlbEntry) (q : Reg) : (s.setTlb i e).getFrS q = s.getFrS q :=
  getFrS_of_fr (by simp) q
@[simp] theorem setTlb_getCf (s : State) (i : Nat) (e : TlbEntry) (q : BitVec 3) : (s.setTlb i e).getCf q = s.getCf q :=
  getCf_of_cfr (by simp) q
@[simp] theorem setTlb_memByte (s : State) (i : Nat) (e : TlbEntry) (q : Nat) : (s.setTlb i e).memByte q = s.memByte q :=
  memByte_of_mem (by simp) (by simp) q

/-! ### tlbInvalidate -/

@[simp] theorem tlbInvalidate_getGr (s : State) (p : Nat → TlbEntry → Bool) (q : Reg) : (s.tlbInvalidate p).getGr q = s.getGr q :=
  getGr_of_gr (by simp) q
@[simp] theorem tlbInvalidate_getFr (s : State) (p : Nat → TlbEntry → Bool) (q : Reg) : (s.tlbInvalidate p).getFr q = s.getFr q :=
  getFr_of_fr (by simp) q
@[simp] theorem tlbInvalidate_getFrS (s : State) (p : Nat → TlbEntry → Bool) (q : Reg) : (s.tlbInvalidate p).getFrS q = s.getFrS q :=
  getFrS_of_fr (by simp) q
@[simp] theorem tlbInvalidate_getCf (s : State) (p : Nat → TlbEntry → Bool) (q : BitVec 3) : (s.tlbInvalidate p).getCf q = s.getCf q :=
  getCf_of_cfr (by simp) q
@[simp] theorem tlbInvalidate_memByte (s : State) (p : Nat → TlbEntry → Bool) (q : Nat) : (s.tlbInvalidate p).memByte q = s.memByte q :=
  memByte_of_mem (by simp) (by simp) q

/-! ### setNe -/

@[simp] theorem setNe_getGr (s : State) (b : Bool) (q : Reg) : (s.setNe b).getGr q = s.getGr q :=
  getGr_of_gr (by simp) q
@[simp] theorem setNe_getFr (s : State) (b : Bool) (q : Reg) : (s.setNe b).getFr q = s.getFr q :=
  getFr_of_fr (by simp) q
@[simp] theorem setNe_getFrS (s : State) (b : Bool) (q : Reg) : (s.setNe b).getFrS q = s.getFrS q :=
  getFrS_of_fr (by simp) q
@[simp] theorem setNe_getCf (s : State) (b : Bool) (q : BitVec 3) : (s.setNe b).getCf q = s.getCf q :=
  getCf_of_cfr (by simp) q
@[simp] theorem setNe_memByte (s : State) (b : Bool) (q : Nat) : (s.setNe b).memByte q = s.memByte q :=
  memByte_of_mem (by simp) (by simp) q

/-! ### setTlbIndex -/

@[simp] theorem setTlbIndex_getGr (s : State) (i : Nat) (q : Reg) : (s.setTlbIndex i).getGr q = s.getGr q :=
  getGr_of_gr (by simp) q
@[simp] theorem setTlbIndex_getFr (s : State) (i : Nat) (q : Reg) : (s.setTlbIndex i).getFr q = s.getFr q :=
  getFr_of_fr (by simp) q
@[simp] theorem setTlbIndex_getFrS (s : State) (i : Nat) (q : Reg) : (s.setTlbIndex i).getFrS q = s.getFrS q :=
  getFrS_of_fr (by simp) q
@[simp] theorem setTlbIndex_getCf (s : State) (i : Nat) (q : BitVec 3) : (s.setTlbIndex i).getCf q = s.getCf q :=
  getCf_of_cfr (by simp) q
@[simp] theorem setTlbIndex_memByte (s : State) (i : Nat) (q : Nat) : (s.setTlbIndex i).memByte q = s.memByte q :=
  memByte_of_mem (by simp) (by simp) q

/-! ### readValid -/

@[simp] theorem readValid_getGr (s : State) (i : Nat) (e : TlbEntry) (q : Reg) : (s.readValid i e).getGr q = s.getGr q :=
  getGr_of_gr (by simp) q
@[simp] theorem readValid_getFr (s : State) (i : Nat) (e : TlbEntry) (q : Reg) : (s.readValid i e).getFr q = s.getFr q :=
  getFr_of_fr (by simp) q
@[simp] theorem readValid_getFrS (s : State) (i : Nat) (e : TlbEntry) (q : Reg) : (s.readValid i e).getFrS q = s.getFrS q :=
  getFrS_of_fr (by simp) q
@[simp] theorem readValid_getCf (s : State) (i : Nat) (e : TlbEntry) (q : BitVec 3) : (s.readValid i e).getCf q = s.getCf q :=
  getCf_of_cfr (by simp) q
@[simp] theorem readValid_memByte (s : State) (i : Nat) (e : TlbEntry) (q : Nat) : (s.readValid i e).memByte q = s.memByte q :=
  memByte_of_mem (by simp) (by simp) q

/-! ### readInvalid -/

@[simp] theorem readInvalid_getGr (s : State) (q : Reg) : (s.readInvalid).getGr q = s.getGr q :=
  getGr_of_gr (by simp) q
@[simp] theorem readInvalid_getFr (s : State) (q : Reg) : (s.readInvalid).getFr q = s.getFr q :=
  getFr_of_fr (by simp) q
@[simp] theorem readInvalid_getFrS (s : State) (q : Reg) : (s.readInvalid).getFrS q = s.getFrS q :=
  getFrS_of_fr (by simp) q
@[simp] theorem readInvalid_getCf (s : State) (q : BitVec 3) : (s.readInvalid).getCf q = s.getCf q :=
  getCf_of_cfr (by simp) q
@[simp] theorem readInvalid_memByte (s : State) (q : Nat) : (s.readInvalid).memByte q = s.memByte q :=
  memByte_of_mem (by simp) (by simp) q

/-! ### setRefill -/

@[simp] theorem setRefill_getGr (s : State) (o : Bool) (x : Word) (p : BitVec 6) (q : Reg) : (s.setRefill o x p).getGr q = s.getGr q :=
  getGr_of_gr (by simp) q
@[simp] theorem setRefill_getFr (s : State) (o : Bool) (x : Word) (p : BitVec 6) (q : Reg) : (s.setRefill o x p).getFr q = s.getFr q :=
  getFr_of_fr (by simp) q
@[simp] theorem setRefill_getFrS (s : State) (o : Bool) (x : Word) (p : BitVec 6) (q : Reg) : (s.setRefill o x p).getFrS q = s.getFrS q :=
  getFrS_of_fr (by simp) q
@[simp] theorem setRefill_getCf (s : State) (o : Bool) (x : Word) (p : BitVec 6) (q : BitVec 3) : (s.setRefill o x p).getCf q = s.getCf q :=
  getCf_of_cfr (by simp) q
@[simp] theorem setRefill_memByte (s : State) (o : Bool) (x : Word) (p : BitVec 6) (q : Nat) : (s.setRefill o x p).memByte q = s.memByte q :=
  memByte_of_mem (by simp) (by simp) q

/-! ### watchMem -/

@[simp] theorem watchMem_getGr (s : State) (a : Access) (q : Reg) : ((s.watchMem a).1).getGr q = s.getGr q :=
  getGr_of_gr (by simp) q
@[simp] theorem watchMem_getFr (s : State) (a : Access) (q : Reg) : ((s.watchMem a).1).getFr q = s.getFr q :=
  getFr_of_fr (by simp) q
@[simp] theorem watchMem_getFrS (s : State) (a : Access) (q : Reg) : ((s.watchMem a).1).getFrS q = s.getFrS q :=
  getFrS_of_fr (by simp) q
@[simp] theorem watchMem_getCf (s : State) (a : Access) (q : BitVec 3) : ((s.watchMem a).1).getCf q = s.getCf q :=
  getCf_of_cfr (by simp) q
@[simp] theorem watchMem_memByte (s : State) (a : Access) (q : Nat) : ((s.watchMem a).1).memByte q = s.memByte q :=
  memByte_of_mem (by simp) (by simp) q

/-! ### watchFetch -/

@[simp] theorem watchFetch_getGr (s : State) (a : Word) (q : Reg) : ((s.watchFetch a).1).getGr q = s.getGr q :=
  getGr_of_gr (by simp) q
@[simp] theorem watchFetch_getFr (s : State) (a : Word) (q : Reg) : ((s.watchFetch a).1).getFr q = s.getFr q :=
  getFr_of_fr (by simp) q
@[simp] theorem watchFetch_getFrS (s : State) (a : Word) (q : Reg) : ((s.watchFetch a).1).getFrS q = s.getFrS q :=
  getFrS_of_fr (by simp) q
@[simp] theorem watchFetch_getCf (s : State) (a : Word) (q : BitVec 3) : ((s.watchFetch a).1).getCf q = s.getCf q :=
  getCf_of_cfr (by simp) q
@[simp] theorem watchFetch_memByte (s : State) (a : Word) (q : Nat) : ((s.watchFetch a).1).memByte q = s.memByte q :=
  memByte_of_mem (by simp) (by simp) q

/-! ### recordBadi -/

@[simp] theorem recordBadi_getGr (s : State) (f : Bool) (q : Reg) : (s.recordBadi f).getGr q = s.getGr q :=
  getGr_of_gr (by simp) q
@[simp] theorem recordBadi_getFr (s : State) (f : Bool) (q : Reg) : (s.recordBadi f).getFr q = s.getFr q :=
  getFr_of_fr (by simp) q
@[simp] theorem recordBadi_getFrS (s : State) (f : Bool) (q : Reg) : (s.recordBadi f).getFrS q = s.getFrS q :=
  getFrS_of_fr (by simp) q
@[simp] theorem recordBadi_getCf (s : State) (f : Bool) (q : BitVec 3) : (s.recordBadi f).getCf q = s.getCf q :=
  getCf_of_cfr (by simp) q
@[simp] theorem recordBadi_memByte (s : State) (f : Bool) (q : Nat) : (s.recordBadi f).memByte q = s.memByte q :=
  memByte_of_mem (by simp) (by simp) q

/-! ### recordBadv -/

@[simp] theorem recordBadv_getGr (s : State) (x : Exc) (q : Reg) : (s.recordBadv x).getGr q = s.getGr q :=
  getGr_of_gr (by simp) q
@[simp] theorem recordBadv_getFr (s : State) (x : Exc) (q : Reg) : (s.recordBadv x).getFr q = s.getFr q :=
  getFr_of_fr (by simp) q
@[simp] theorem recordBadv_getFrS (s : State) (x : Exc) (q : Reg) : (s.recordBadv x).getFrS q = s.getFrS q :=
  getFrS_of_fr (by simp) q
@[simp] theorem recordBadv_getCf (s : State) (x : Exc) (q : BitVec 3) : (s.recordBadv x).getCf q = s.getCf q :=
  getCf_of_cfr (by simp) q
@[simp] theorem recordBadv_memByte (s : State) (x : Exc) (q : Nat) : (s.recordBadv x).memByte q = s.memByte q :=
  memByte_of_mem (by simp) (by simp) q

/-! ### enterGeneral -/

@[simp] theorem enterGeneral_getGr (s : State) (n : Nat) (e : BitVec 6) (b : BitVec 9) (q : Reg) : (s.enterGeneral n e b).getGr q = s.getGr q :=
  getGr_of_gr (by simp) q
@[simp] theorem enterGeneral_getFr (s : State) (n : Nat) (e : BitVec 6) (b : BitVec 9) (q : Reg) : (s.enterGeneral n e b).getFr q = s.getFr q :=
  getFr_of_fr (by simp) q
@[simp] theorem enterGeneral_getFrS (s : State) (n : Nat) (e : BitVec 6) (b : BitVec 9) (q : Reg) : (s.enterGeneral n e b).getFrS q = s.getFrS q :=
  getFrS_of_fr (by simp) q
@[simp] theorem enterGeneral_getCf (s : State) (n : Nat) (e : BitVec 6) (b : BitVec 9) (q : BitVec 3) : (s.enterGeneral n e b).getCf q = s.getCf q :=
  getCf_of_cfr (by simp) q
@[simp] theorem enterGeneral_memByte (s : State) (n : Nat) (e : BitVec 6) (b : BitVec 9) (q : Nat) : (s.enterGeneral n e b).memByte q = s.memByte q :=
  memByte_of_mem (by simp) (by simp) q

/-! ### enterRefill -/

@[simp] theorem enterRefill_getGr (s : State) (va : Word) (q : Reg) : (s.enterRefill va).getGr q = s.getGr q :=
  getGr_of_gr (by simp) q
@[simp] theorem enterRefill_getFr (s : State) (va : Word) (q : Reg) : (s.enterRefill va).getFr q = s.getFr q :=
  getFr_of_fr (by simp) q
@[simp] theorem enterRefill_getFrS (s : State) (va : Word) (q : Reg) : (s.enterRefill va).getFrS q = s.getFrS q :=
  getFrS_of_fr (by simp) q
@[simp] theorem enterRefill_getCf (s : State) (va : Word) (q : BitVec 3) : (s.enterRefill va).getCf q = s.getCf q :=
  getCf_of_cfr (by simp) q
@[simp] theorem enterRefill_memByte (s : State) (va : Word) (q : Nat) : (s.enterRefill va).memByte q = s.memByte q :=
  memByte_of_mem (by simp) (by simp) q

/-! ### enterMerr -/

@[simp] theorem enterMerr_getGr (s : State) (v : MerrEvent) (q : Reg) : (s.enterMerr v).getGr q = s.getGr q :=
  getGr_of_gr (by simp) q
@[simp] theorem enterMerr_getFr (s : State) (v : MerrEvent) (q : Reg) : (s.enterMerr v).getFr q = s.getFr q :=
  getFr_of_fr (by simp) q
@[simp] theorem enterMerr_getFrS (s : State) (v : MerrEvent) (q : Reg) : (s.enterMerr v).getFrS q = s.getFrS q :=
  getFrS_of_fr (by simp) q
@[simp] theorem enterMerr_getCf (s : State) (v : MerrEvent) (q : BitVec 3) : (s.enterMerr v).getCf q = s.getCf q :=
  getCf_of_cfr (by simp) q
@[simp] theorem enterMerr_memByte (s : State) (v : MerrEvent) (q : Nat) : (s.enterMerr v).memByte q = s.memByte q :=
  memByte_of_mem (by simp) (by simp) q

/-! ### ertn -/

@[simp] theorem ertn_getGr (s : State) (q : Reg) : (s.ertn).getGr q = s.getGr q :=
  getGr_of_gr (by simp) q
@[simp] theorem ertn_getFr (s : State) (q : Reg) : (s.ertn).getFr q = s.getFr q :=
  getFr_of_fr (by simp) q
@[simp] theorem ertn_getFrS (s : State) (q : Reg) : (s.ertn).getFrS q = s.getFrS q :=
  getFrS_of_fr (by simp) q
@[simp] theorem ertn_getCf (s : State) (q : BitVec 3) : (s.ertn).getCf q = s.getCf q :=
  getCf_of_cfr (by simp) q
@[simp] theorem ertn_memByte (s : State) (q : Nat) : (s.ertn).memByte q = s.memByte q :=
  memByte_of_mem (by simp) (by simp) q

/-! ### debugCallEntry -/

@[simp] theorem debugCallEntry_getGr (s : State) (c : BitVec 15) (q : Reg) : (s.debugCallEntry c).getGr q = s.getGr q :=
  getGr_of_gr (by simp) q
@[simp] theorem debugCallEntry_getFr (s : State) (c : BitVec 15) (q : Reg) : (s.debugCallEntry c).getFr q = s.getFr q :=
  getFr_of_fr (by simp) q
@[simp] theorem debugCallEntry_getFrS (s : State) (c : BitVec 15) (q : Reg) : (s.debugCallEntry c).getFrS q = s.getFrS q :=
  getFrS_of_fr (by simp) q
@[simp] theorem debugCallEntry_getCf (s : State) (c : BitVec 15) (q : BitVec 3) : (s.debugCallEntry c).getCf q = s.getCf q :=
  getCf_of_cfr (by simp) q
@[simp] theorem debugCallEntry_memByte (s : State) (c : BitVec 15) (q : Nat) : (s.debugCallEntry c).memByte q = s.memByte q :=
  memByte_of_mem (by simp) (by simp) q

/-! ### ticks -/

@[simp] theorem ticks_getGr (s : State) (n : Nat) (q : Reg) : (s.ticks n).getGr q = s.getGr q :=
  getGr_of_gr (by simp) q
@[simp] theorem ticks_getFr (s : State) (n : Nat) (q : Reg) : (s.ticks n).getFr q = s.getFr q :=
  getFr_of_fr (by simp) q
@[simp] theorem ticks_getFrS (s : State) (n : Nat) (q : Reg) : (s.ticks n).getFrS q = s.getFrS q :=
  getFrS_of_fr (by simp) q
@[simp] theorem ticks_getCf (s : State) (n : Nat) (q : BitVec 3) : (s.ticks n).getCf q = s.getCf q :=
  getCf_of_cfr (by simp) q
@[simp] theorem ticks_memByte (s : State) (n : Nat) (q : Nat) : (s.ticks n).memByte q = s.memByte q :=
  memByte_of_mem (by simp) (by simp) q

/-! ### otherStore -/

@[simp] theorem otherStore_getGr (s : State) (c : Host.Cell) (q : Reg) : (s.otherStore c).getGr q = s.getGr q :=
  getGr_of_gr (by simp) q
@[simp] theorem otherStore_getFr (s : State) (c : Host.Cell) (q : Reg) : (s.otherStore c).getFr q = s.getFr q :=
  getFr_of_fr (by simp) q
@[simp] theorem otherStore_getFrS (s : State) (c : Host.Cell) (q : Reg) : (s.otherStore c).getFrS q = s.getFrS q :=
  getFrS_of_fr (by simp) q
@[simp] theorem otherStore_getCf (s : State) (c : Host.Cell) (q : BitVec 3) : (s.otherStore c).getCf q = s.getCf q :=
  getCf_of_cfr (by simp) q

/-! ## A read after a write -/

@[simp] theorem getGr_zero (s : State) : s.getGr 0#5 = 0#64 := rfl

theorem setGr_getGr_same (s : State) (r : Reg) (x : Word) :
    (s.setGr r x).getGr r = if r = 0#5 then 0#64 else s.cfg.normGr x := by
  unfold State.setGr State.getGr
  split <;> simp_all

theorem setGr_getGr_other (s : State) {r q : Reg} (x : Word) (h : q ≠ r) : (s.setGr r x).getGr q = s.getGr q := by
  have hne : r.toNat ≠ q.toNat := fun e => h (BitVec.eq_of_toNat_eq e.symm)
  unfold State.setGr
  split
  · rfl
  · simp only [State.getGr, Vector.getElem_set_ne _ _ hne]

@[simp] theorem setFr_getFr_same (s : State) (r : Reg) (x : Word) : (s.setFr r x).getFr r = x := by
  simp [State.setFr, State.getFr]

theorem setFr_getFr_other (s : State) {r q : Reg} (x : Word) (h : q ≠ r) : (s.setFr r x).getFr q = s.getFr q := by
  have : r.toNat ≠ q.toNat := fun e => h (BitVec.eq_of_toNat_eq e.symm)
  simp [State.setFr, State.getFr, this]

@[simp] theorem setFrS_getFrS_same (s : State) (r : Reg) (x : BitVec 32) : (s.setFrS r x).getFrS r = x := by
  simp only [State.setFrS, State.getFrS, setFr_getFr_same, low32]
  exact BitVec.setWidth_append_eq_right

theorem setFrS_getFr_other (s : State) {r q : Reg} (x : BitVec 32) (h : q ≠ r) :
    (s.setFrS r x).getFr q = s.getFr q := by
  rw [State.setFrS, setFr_getFr_other _ _ h]; rfl

theorem setFmt_getFr_other (s : State) (f : Fmt) {r q : Reg} (x : Word) (h : q ≠ r) :
    (s.setFmt f r x).getFr q = s.getFr q := by
  cases f
  · exact setFrS_getFr_other s _ h
  · exact setFr_getFr_other s _ h

@[simp] theorem setCf_getCf_same (s : State) (c : BitVec 3) (b : Bool) : (s.setCf c b).getCf c = b := by
  simp [State.setCf, State.getCf]

theorem setCf_getCf_other (s : State) {c d : BitVec 3} (b : Bool) (h : d ≠ c) : (s.setCf c b).getCf d = s.getCf d := by
  have : c.toNat ≠ d.toNat := fun e => h (BitVec.eq_of_toNat_eq e.symm)
  simp [State.setCf, State.getCf, this]

/-! ## The pc -/

@[simp] theorem setPc_pc (s : State) (t : Word) : (s.setPc t).pc = s.cfg.wrap t := rfl

@[simp] theorem advance_pc (s : State) : s.advance.pc = s.cfg.wrap (s.pc + 4) := rfl

/-! ## Register width (log 2) -/

@[simp] theorem normGr_zero (c : Config) : c.normGr 0#64 = 0#64 := by
  unfold Config.normGr; split <;> rfl

theorem normGr_idem (c : Config) (x : Word) : c.normGr (c.normGr x) = c.normGr x := by
  unfold Config.normGr
  split
  · rfl
  · simp only [sext32, low32]; ext i hi; simp [BitVec.getElem_signExtend]; grind

theorem wrap_idem (c : Config) (x : Word) : c.wrap (c.wrap x) = c.wrap x := by
  unfold Config.wrap
  split
  · rfl
  · simp [zextLow32]

end Sys2Proof.Machine
end

