-- ==== Sys2Proof/Laws/Memory.lean ====
section
/-!
SUPPORT. Sparse data and memory: a read after a write, and that every operation keeps the canonical form.
-/

namespace Sys2Proof.Machine

/-! ## Sparse data -/

section Sparse

variable {α : Type} [DecidableEq α] {d : α}

theorem sparseWfFrom_cons {lo : Option Nat} {k : Nat} {v : α} {m : List (Nat × α)} :
    sparseWfFrom d lo ((k, v) :: m) = true ↔ (∀ l ∈ lo, l < k) ∧ v ≠ d ∧ sparseWfFrom d (some k) m = true := by
  cases lo <;> simp [sparseWfFrom, and_assoc]

/-- A canonical list above `l` has the default at every key up to `l`. -/
theorem sparseGet_below {l b : Nat} (hb : b ≤ l) :
    ∀ {m : List (Nat × α)} {l' : Nat}, sparseWfFrom d (some l') m = true → l ≤ l' → sparseGet d m b = d
  | [], _, _, _ => rfl
  | (k, v) :: m, l', h, hl => by
    rw [sparseWfFrom_cons] at h
    have hk : l' < k := h.1 l' rfl
    have : b ≠ k := by omega
    simp only [sparseGet, this, if_false]
    exact sparseGet_below hb h.2.2 (by omega)

/-- A read after a write. -/
theorem sparseGet_sparseSet (a b : Nat) (x : α) :
    ∀ {m : List (Nat × α)} {lo : Option Nat}, sparseWfFrom d lo m = true →
      sparseGet d (sparseSet d m a x) b = if b = a then x else sparseGet d m b
  | [], _, _ => by
    unfold sparseSet
    split <;> rename_i hx
    · simp [sparseGet, hx]
    · simp [sparseGet]
  | (k, v) :: m, lo, h => by
    rw [sparseWfFrom_cons] at h
    have below : ∀ c, c ≤ k → sparseGet d m c = d := fun c hc => sparseGet_below hc h.2.2 le_rfl
    unfold sparseSet
    split
    · rename_i hak
      have hm := below a (by omega)
      split <;> rename_i hx
      · by_cases hb : b = a
        · subst hb; have : b ≠ k := by omega
          simp [sparseGet, this, hm, hx]
        · simp [hb]
      · simp only [sparseGet]
    · split
      · rename_i hak; subst hak
        have hm := below a le_rfl
        split <;> rename_i hx
        · by_cases hb : b = a
          · subst hb; simp [hm, hx]
          · simp [sparseGet, hb]
        · by_cases hb : b = a <;> simp [sparseGet, hb]
      · rename_i h1 h2
        have ih := sparseGet_sparseSet a b x h.2.2
        simp only [sparseGet, ih]
        by_cases hb : b = k
        · have : b ≠ a := by omega
          simp [hb, show k ≠ a by omega]
        · simp [hb]

/-- A write keeps the canonical form. -/
theorem sparseWfFrom_sparseSet (a : Nat) (x : α) :
    ∀ {m : List (Nat × α)} {lo : Option Nat}, sparseWfFrom d lo m = true → (∀ l ∈ lo, l < a) →
      sparseWfFrom d lo (sparseSet d m a x) = true
  | [], lo, _, hlo => by
    unfold sparseSet
    split
    · cases lo <;> rfl
    · rename_i hx; rw [sparseWfFrom_cons]; exact ⟨hlo, hx, rfl⟩
  | (k, v) :: m, lo, h, hlo => by
    have h' := sparseWfFrom_cons.1 h
    unfold sparseSet
    split
    · rename_i hak
      split
      · exact h
      · rename_i hx
        rw [sparseWfFrom_cons, sparseWfFrom_cons]
        exact ⟨hlo, hx, fun l hl => by cases hl; exact hak, h'.2⟩
    · split
      · rename_i hak; subst hak
        split
        · cases lo with
          | none =>
            cases m with
            | nil => rfl
            | cons p m => obtain ⟨k', v'⟩ := p; rw [sparseWfFrom_cons] at *; exact ⟨fun l hl => (by cases hl), h'.2.2.2⟩
          | some l =>
            cases m with
            | nil => rfl
            | cons p m =>
              obtain ⟨k', v'⟩ := p
              have h2 := sparseWfFrom_cons.1 h'.2.2
              rw [sparseWfFrom_cons]
              refine ⟨fun l' hl' => ?_, h2.2⟩
              cases hl'
              exact lt_trans (hlo l rfl) (h2.1 a rfl)
        · rename_i hx; rw [sparseWfFrom_cons]; exact ⟨hlo, hx, h'.2.2⟩
      · rename_i h1 h2
        rw [sparseWfFrom_cons]
        exact ⟨h'.1, h'.2.1, sparseWfFrom_sparseSet a x h'.2.2 (fun l hl => by cases hl; omega)⟩

theorem sparseWf_sparseSet {m : List (Nat × α)} (h : sparseWf d m = true) (a : Nat) (x : α) :
    sparseWf d (sparseSet d m a x) = true :=
  sparseWfFrom_sparseSet a x h (fun _ hl => nomatch hl)

theorem sparseWf_get_set {m : List (Nat × α)} (h : sparseWf d m = true) (a b : Nat) (x : α) :
    sparseGet d (sparseSet d m a x) b = if b = a then x else sparseGet d m b :=
  sparseGet_sparseSet a b x h

theorem sparseWfFrom_weaken {m : List (Nat × α)} {l : Nat} {lo : Option Nat} (h : sparseWfFrom d (some l) m = true)
    (hl : ∀ k ∈ lo, k ≤ l) : sparseWfFrom d lo m = true := by
  cases m with
  | nil => cases lo <;> rfl
  | cons p m =>
    obtain ⟨k, v⟩ := p
    rw [sparseWfFrom_cons] at *
    exact ⟨fun k' hk' => lt_of_le_of_lt (hl k' hk') (h.1 l rfl), h.2⟩

/-- A change of every value keeps the canonical form. -/
theorem sparseWfFrom_sparseMap (f : Nat → α → α) :
    ∀ {m : List (Nat × α)} {lo : Option Nat}, sparseWfFrom d lo m = true → sparseWfFrom d lo (sparseMap d f m) = true
  | [], lo, _ => by cases lo <;> rfl
  | (k, v) :: m, lo, h => by
    have h' := sparseWfFrom_cons.1 h
    have ih := sparseWfFrom_sparseMap f h'.2.2
    unfold sparseMap
    split
    · exact sparseWfFrom_weaken ih (fun l hl => le_of_lt (h'.1 l hl))
    · rename_i hx; rw [sparseWfFrom_cons]; exact ⟨h'.1, hx, ih⟩

/-- A read after a change of every value, where the default stays the default. -/
theorem sparseGet_sparseMap (f : Nat → α → α) (hd : ∀ k, f k d = d) (a : Nat) :
    ∀ {m : List (Nat × α)} {lo : Option Nat}, sparseWfFrom d lo m = true →
      sparseGet d (sparseMap d f m) a = f a (sparseGet d m a)
  | [], _, _ => by simp [sparseMap, sparseGet, hd]
  | (k, v) :: m, lo, h => by
    have h' := sparseWfFrom_cons.1 h
    have ih := sparseGet_sparseMap f hd a h'.2.2
    unfold sparseMap
    split <;> rename_i hx
    · simp only [sparseGet, ih]
      by_cases ha : a = k
      · subst ha
        rw [sparseGet_below le_rfl h'.2.2 le_rfl]; simp [hx, hd]
      · simp [ha]
    · simp only [sparseGet, ih]
      by_cases ha : a = k <;> simp [ha]

end Sparse

/-! ## Bytes put at addresses -/

theorem putByte_wf (p : Nat → Bool) {m : List Host.Cell} (h : sparseWf 0#8 m = true) (a : Nat) (b : Byte) :
    sparseWf 0#8 (putByte p m a b) = true := by
  unfold putByte
  split
  · exact sparseWf_sparseSet h a b
  · exact h

/-- A read after one byte was put. -/
theorem putByte_get (p : Nat → Bool) {m : List Host.Cell} (h : sparseWf 0#8 m = true) (a : Nat) (b : Byte) (x : Nat) :
    sparseGet 0#8 (putByte p m a b) x = if x = a ∧ p a = true then b else sparseGet 0#8 m x := by
  unfold putByte
  split <;> rename_i hp
  · rw [sparseWf_get_set h]; simp [hp]
  · simp [hp]

theorem putBytes_wf (p : Nat → Bool) : ∀ {m : List Host.Cell} (as : List Nat) (bs : List Byte), sparseWf 0#8 m = true →
    sparseWf 0#8 (putBytes p m as bs) = true
  | _, [], _, h => by unfold putBytes; exact h
  | _, _ :: _, [], h => by unfold putBytes; exact h
  | _, a :: as, b :: bs, h => by unfold putBytes; exact putBytes_wf p as bs (putByte_wf p h a b)

theorem putBytes_other (p : Nat → Bool) {x : Nat} : ∀ {m : List Host.Cell} (as : List Nat) (bs : List Byte),
    sparseWf 0#8 m = true → x ∉ as → sparseGet 0#8 (putBytes p m as bs) x = sparseGet 0#8 m x
  | _, [], _, _, _ => by simp [putBytes]
  | _, _ :: _, [], _, _ => by simp [putBytes]
  | _, a :: as, b :: bs, h, hx => by
    simp only [List.mem_cons, not_or] at hx
    rw [putBytes, putBytes_other p as bs (putByte_wf p h a b) hx.2, putByte_get p h]
    simp [hx.1]

theorem putBytes_at (p : Nat → Bool) : ∀ {m : List Host.Cell} (as : List Nat) (bs : List Byte),
    sparseWf 0#8 m = true → as.Nodup → ∀ (k : Nat) (h1 : k < as.length) (h2 : k < bs.length), p as[k] = true →
      sparseGet 0#8 (putBytes p m as bs) as[k] = bs[k]
  | _, [], _, _, _, _, h1, _, _ => by simp at h1
  | _, _ :: _, [], _, _, _, _, h2, _ => by simp at h2
  | _, a :: as, b :: bs, h, hn, k, h1, h2, hp => by
    rw [List.nodup_cons] at hn
    rw [putBytes]
    cases k with
    | zero =>
      simp only [List.getElem_cons_zero] at *
      rw [putBytes_other p as bs (putByte_wf p h a b) hn.1, putByte_get p h]; simp [hp]
    | succ k =>
      exact putBytes_at p as bs (putByte_wf p h a b) hn.2 k (by simpa using h1) (by simpa using h2) (by simpa using hp)

theorem bytesOfWord_length : ∀ (n : Nat) (v : Word), (bytesOfWord n v).length = n
  | 0, _ => rfl
  | n + 1, v => by simp [bytesOfWord, bytesOfWord_length n]

theorem bytesOfWord_get : ∀ (n : Nat) (v : Word) (k : Nat) (h : k < (bytesOfWord n v).length),
    (bytesOfWord n v)[k] = v.extractLsb' (8 * k) 8
  | 0, _, _, h => by simp [bytesOfWord] at h
  | n + 1, v, 0, _ => by
    simp only [bytesOfWord, List.getElem_cons_zero]
    apply BitVec.eq_of_getLsbD_eq; intro i hi; simp
  | n + 1, v, k + 1, h => by
    simp only [bytesOfWord, List.getElem_cons_succ]
    rw [bytesOfWord_get n]
    apply BitVec.eq_of_getLsbD_eq; intro i hi
    simp only [BitVec.getLsbD_extractLsb', BitVec.getLsbD_ushiftRight]
    congr 2; ring

/-! ## Memory -/

/-- A store keeps memory canonical. -/
theorem writeBytes_wf {s : State} (h : sparseWf 0#8 s.mem = true) (as : List Nat) (v : Word) :
    sparseWf 0#8 (s.writeBytes as v).mem = true := putBytes_wf _ as _ h

/-- A store leaves every other byte as it was. -/
theorem writeBytes_other {s : State} (h : sparseWf 0#8 s.mem = true) {as : List Nat} {x : Nat} (v : Word)
    (hx : x ∉ as) : (s.writeBytes as v).memByte x = s.memByte x := by
  have := putBytes_other (backed s.cfg) as (bytesOfWord as.length v) h hx
  simp only [State.memByte, State.writeBytes, this]

/-- A store puts byte `k` of its value at its address `k`, where something stands behind it. -/
theorem writeBytes_at {s : State} (h : sparseWf 0#8 s.mem = true) {as : List Nat} (hn : as.Nodup) (v : Word)
    (k : Nat) (hk : k < as.length) : (s.writeBytes as v).memByte as[k] =
      if backed s.cfg as[k] then v.extractLsb' (8 * k) 8 else Config.unbackedByte as[k] := by
  have hl : k < (bytesOfWord as.length v).length := by rw [bytesOfWord_length]; exact hk
  by_cases hb : backed s.cfg as[k] = true
  · have := (putBytes_at (backed s.cfg) as _ h hn k hk hl hb).trans (bytesOfWord_get _ _ _ _)
    simp only [State.memByte, State.writeBytes, hb, if_true, this]
  · simp [State.memByte, State.writeBytes, hb]

/-- A store by another agent keeps memory canonical. -/
theorem otherStore_wf {s : State} (h : sparseWf 0#8 s.mem = true) (c : Host.Cell) :
    sparseWf 0#8 (s.otherStore c).mem = true := putByte_wf _ h _ _

theorem reset_mem_wf : sparseWf 0#8 State.reset.mem = true := rfl

/-! ## The IOCSR space -/

theorem iocsrWrite_wf {s : State} (h : sparseWf 0#8 s.iocsr = true) (a : Word) (n : Nat) (v : Word) :
    sparseWf 0#8 (s.iocsrWrite a n v).iocsr = true := putBytes_wf _ _ _ h

/-- A write by another core keeps the IOCSR space canonical. -/
theorem otherIocsr_wf {s : State} (h : sparseWf 0#8 s.iocsr = true) (c : Host.Cell) :
    sparseWf 0#8 (s.otherIocsr c).iocsr = true := putByte_wf _ h _ _

/-! ## The TLB -/

theorem setTlb_wf {s : State} (h : sparseWf TlbEntry.empty s.tlb = true) (i : Nat) (e : TlbEntry) :
    sparseWf TlbEntry.empty (s.setTlb i e).tlb = true := sparseWf_sparseSet h i e

theorem setTlb_tlbAt {s : State} (h : sparseWf TlbEntry.empty s.tlb = true) (i j : Nat) (e : TlbEntry) :
    (s.setTlb i e).tlbAt j = if j = i then e else s.tlbAt j := sparseWf_get_set h i j e

theorem tlbInvalidate_wf {s : State} (h : sparseWf TlbEntry.empty s.tlb = true) (p : Nat → TlbEntry → Bool) :
    sparseWf TlbEntry.empty (s.tlbInvalidate p).tlb = true := sparseWfFrom_sparseMap _ h

theorem tlbInvalidate_tlbAt {s : State} (h : sparseWf TlbEntry.empty s.tlb = true) (p : Nat → TlbEntry → Bool)
    (i : Nat) : (s.tlbInvalidate p).tlbAt i = if p i (s.tlbAt i) then { s.tlbAt i with e := false } else s.tlbAt i :=
  sparseGet_sparseMap _ (fun k => by split <;> rfl) i h

end Sys2Proof.Machine
end

