-- ==== Sys2Proof/Laws/Outcome.lean ====
section
/-!
SUPPORT. What the shared shapes of an instruction do, said once: writing a register and going on, the gates,
taking an exception, an access to memory, finishing a floating-point instruction.
-/

namespace Sys2Proof.Machine

/-! ## Frames -/

theorem SameGr.refl (s : State) : SameGr s s := fun _ => rfl
theorem SameFr.refl (s : State) : SameFr s s := fun _ => rfl
theorem SameCf.refl (s : State) : SameCf s s := fun _ => rfl
theorem SameMem.refl (s : State) : SameMem s s := fun _ => rfl

/-! ## Going on with the next instruction -/

/-- Nothing but the pc changes. -/
theorem skip_spec (s : State) : ∃ t, s.skip = .next t ∧ AtNext s t ∧ OnlyPc s t :=
  ⟨s.advance, rfl, rfl, ⟨fun _ => by simp, fun _ => by simp, fun _ => by simp, by simp, fun _ => by simp,
    ⟨by simp, by simp, by simp, by simp, by simp, by simp, by simp, by simp, by simp, by simp, by simp, by simp⟩,
    ⟨by simp, by simp, by simp, by simp, by simp, by simp⟩⟩⟩

/-- The pc becomes the target, nothing else changes. -/
theorem setPc_spec (s : State) (x : Word) : (s.setPc x).pc = s.cfg.wrap x ∧ OnlyPc s (s.setPc x) :=
  ⟨rfl, ⟨fun _ => by simp, fun _ => by simp, fun _ => by simp, by simp, fun _ => by simp,
    ⟨by simp, by simp, by simp, by simp, by simp, by simp, by simp, by simp, by simp, by simp, by simp, by simp⟩,
    ⟨by simp, by simp, by simp, by simp, by simp, by simp⟩⟩⟩

/-- A branch goes to one of two addresses and changes nothing else. -/
theorem branch_spec (s : State) (c : Bool) (x : Word) :
    ∃ t, s.branch c x = .next t ∧ t.pc = s.cfg.wrap (if c then s.pc + x else s.pc + 4) ∧ OnlyPc s t := by
  cases c
  · exact ⟨_, rfl, setPc_spec s _⟩
  · exact ⟨_, rfl, setPc_spec s _⟩

/-- One general register is written. -/
theorem putGr_spec (s : State) (rd : Reg) (x : Word) :
    ∃ t, s.putGr rd x = .next t ∧ GrIs s t rd x ∧ AtNext s t ∧ OnlyGr rd s t :=
  ⟨(s.setGr rd x).advance, rfl, by simp only [GrIs, advance_getGr]; exact setGr_getGr_same s rd x, by simp [AtNext],
    ⟨fun r hr => by rw [advance_getGr]; exact setGr_getGr_other s x hr, fun _ => by simp, fun _ => by simp, by simp,
    fun _ => by simp,
    ⟨by simp, by simp, by simp, by simp, by simp, by simp, by simp, by simp, by simp, by simp, by simp, by simp⟩,
    ⟨by simp, by simp, by simp, by simp, by simp, by simp⟩⟩⟩

/-- A word result is written sign-extended. -/
theorem putGrW_spec (s : State) (rd : Reg) (x : BitVec 32) :
    ∃ t, s.putGrW rd x = .next t ∧ GrIs s t rd (sext32 x) ∧ AtNext s t ∧ OnlyGr rd s t := putGr_spec s rd _

/-- A free value is written to one general register. -/
theorem putGrFree_spec (s : State) (rd : Reg) :
    ∃ t v, s.putGrFree rd = .next t ∧ GrIs s t rd v ∧ AtNext s t ∧ OnlyGr rd s t := by
  obtain ⟨t, ht, hg, hp, ho⟩ := putGr_spec s.draw.2 rd s.draw.1
  exact ⟨t, s.draw.1, ht, hg, hp, ⟨ho.gr, ho.fr, ho.cf, ho.fcsr, ho.mem,
    ⟨ho.sys.csr, ho.sys.mmu, ho.sys.timer, ho.sys.ras, ho.sys.pm, ho.sys.watch, ho.sys.dbg, ho.sys.tlb, ho.sys.iocsr,
      ho.sys.llbit, ho.sys.lladdr, ho.sys.idle⟩,
    ⟨ho.out.cfg, ho.out.extIrq, ho.out.merrPending, ho.out.inputs, ho.out.debugCall, ho.out.curInsn⟩⟩⟩

/-- One floating-point register is written, in its format. -/
theorem fpPut_spec (s : State) (f : Fmt) (fd : Reg) (x : Word) :
    ∃ t, s.fpPut f fd x = .next t ∧ FrIs t f fd x ∧ AtNext s t ∧ OnlyFr fd s t := by
  refine ⟨(s.setFmt f fd x).advance, rfl, ?_, by simp [AtNext], ⟨fun _ => by simp, fun r hr => ?_, fun _ => by simp,
    by simp, fun _ => by simp,
    ⟨by simp, by simp, by simp, by simp, by simp, by simp, by simp, by simp, by simp, by simp, by simp, by simp⟩,
    ⟨by simp, by simp, by simp, by simp, by simp, by simp⟩⟩⟩
  · cases f
    · simp [FrIs, State.setFmt]
    · simp [FrIs, State.setFmt]
  · rw [advance_getFr]; exact setFmt_getFr_other s f x hr

theorem putFr_spec (s : State) (fd : Reg) (x : Word) :
    ∃ t, s.putFr fd x = .next t ∧ FrIs t .d fd x ∧ AtNext s t ∧ OnlyFr fd s t := fpPut_spec s .d fd x

theorem putFrS_spec (s : State) (fd : Reg) (x : Word) :
    ∃ t, s.putFrS fd (low32 x) = .next t ∧ FrIs t .s fd x ∧ AtNext s t ∧ OnlyFr fd s t := fpPut_spec s .s fd x

/-! ## Gates -/

theorem need_of {s : State} {b : Bool} (h : b = true) (k : Out) : s.need b k = k := by simp [State.need, h]

theorem need_not {s : State} {b : Bool} (h : b = false) (k : Out) : s.need b k = s.raise .ine := by simp [State.need, h]

theorem la64Only_of {s : State} (h : s.cfg.la64 = true) (k : Out) : s.la64Only k = k := need_of h k

theorem la64Only_not {s : State} (h : s.cfg.la64 = false) (k : Out) : s.la64Only k = s.raise .ine := need_not h k

theorem privileged_of {s : State} (h : s.plv = 0#2) (k : Out) : s.privileged k = k := by simp [State.privileged, h]

theorem privileged_not {s : State} (h : s.plv ≠ 0#2) (k : Out) : s.privileged k = s.raise .ipe := by
  simp [State.privileged, h]

theorem fpGate_of {s : State} {dp : Bool} (h : FpReady dp s) (k : Out) : s.fpGate dp k = k := by
  obtain ⟨h1, h2, h3⟩ := h
  cases dp <;> simp_all [State.fpGate, State.need, State.fpEnabled]

theorem fpGate_absent {s : State} {dp : Bool} (h : s.cfg.hasFp = false ∨ (dp = true ∧ s.cfg.hasFpDp = false)) (k : Out) :
    s.fpGate dp k = s.raise .ine := by
  apply need_not
  rcases h with h | ⟨h1, h2⟩ <;> simp [*]

theorem fpGate_disabled {s : State} {dp : Bool} (h1 : s.cfg.hasFp = true) (h2 : dp = true → s.cfg.hasFpDp = true)
    (h3 : s.csr.euen.getLsbD 0 = false) (k : Out) : s.fpGate dp k = s.raise .fpd := by
  cases dp <;> simp_all [State.fpGate, State.need, State.fpEnabled]

theorem tlbGate_of {s : State} (h : s.cfg.hasTlb = true) (hp : s.plv = 0#2) (k : Out) : s.tlbGate k = k := by
  rw [State.tlbGate, need_of h, privileged_of hp]

/-! ## Taking an exception -/

theorem wrap_of_la64 {c : Config} (h : c.la64 = true) (x : Word) : c.wrap x = x := by simp [Config.wrap, h]

theorem vaddr_pc (s : State) : s.vaddr s.pc = s.recordedPc := by
  unfold State.vaddr State.recordedPc Config.wrap
  by_cases h : s.va32 = true <;> by_cases h2 : s.cfg.la64 = true <;> simp [h, h2]

theorem putBits_get {n : Nat} (x : BitVec n) (lo w : Nat) (v : BitVec w) (i : Nat) (hi : i < n) :
    (putBits x lo w v).getLsbD i = if lo ≤ i ∧ i < lo + w then v.getLsbD (i - lo) else x.getLsbD i := by
  unfold putBits
  simp only [BitVec.getLsbD_or, BitVec.getLsbD_and, BitVec.getLsbD_not, BitVec.getLsbD_shiftLeft,
    BitVec.getLsbD_setWidth, BitVec.getLsbD_allOnes, hi, decide_true, Bool.true_and]
  by_cases h1 : i < lo
  · simp [h1, show ¬(lo ≤ i) by omega]
  · by_cases h2 : i - lo < w
    · simp [h1, h2, show lo ≤ i by omega, show i < lo + w by omega, show i - lo < n by omega]
    · simp [h1, h2, show ¬(i < lo + w) by omega, BitVec.getLsbD_of_ge v (i - lo) (by omega)]

/-- `x` with bit `i` replaced. -/
theorem putBit_get {n : Nat} (x : BitVec n) (k : Nat) (b : Bool) (i : Nat) (hi : i < n) :
    (putBit x k b).getLsbD i = if i = k then b else x.getLsbD i := by
  rw [putBit, putBits_get _ _ _ _ _ hi]
  by_cases h : i = k
  · subst h; simp
  · rw [if_neg h, if_neg (by omega)]

/-- The saved mode of general entry, bit by bit. -/
theorem savedMode_get (w : BitVec 1) (m : BitVec 3) (i : Nat) :
    ((w ++ m).setWidth 32).getLsbD i = if i < 3 then m.getLsbD i else if i = 3 then w.getLsbD 0 else false := by
  rw [BitVec.getLsbD_setWidth, BitVec.getLsbD_append]
  by_cases h : i < 3
  · simp [h]; omega
  · by_cases h3 : i = 3
    · subst h3; simp
    · rw [if_neg h, if_neg h3, if_neg h, BitVec.getLsbD_of_ge w (i - 3) (by omega), Bool.and_false]

/-- What an exception of code `e` records in the debug registers (R857), said once. -/
theorem noteDebug_spec {s t : State} {e : BitVec 6} (h : t.dbg = s.noteDebug e) : DebugNoted s t e := by
  unfold State.noteDebug at h
  by_cases hd : s.dbg.dbg.getLsbD 0 = true
  · rw [if_pos hd] at h
    refine ⟨by rw [h], by rw [h], fun h0 => absurd (hd.symm.trans h0) (by decide), fun _ => ⟨?_, fun i hi => ?_⟩⟩
    · apply BitVec.eq_of_getLsbD_eq; intro i hi
      rw [h, BitVec.getLsbD_extractLsb']
      simp only [hi, decide_true, Bool.true_and]
      rw [putBits_get _ _ _ _ _ (by omega), if_pos (by omega)]
      congr 1; omega
    · by_cases h32 : i < 32
      · rw [h]; simp only; rw [putBits_get _ _ _ _ _ h32, if_neg (by omega)]
      · rw [BitVec.getLsbD_of_ge _ _ (by omega), BitVec.getLsbD_of_ge _ _ (by omega)]
  · rw [if_neg hd] at h
    exact ⟨by rw [h], by rw [h], fun _ => by rw [h], fun h1 => absurd h1 hd⟩

/-- Only the debug registers matter to what is recorded there. -/
theorem DebugNoted.of_dbg {s u t : State} {e : BitVec 6} (h : DebugNoted u t e) (hu : u.dbg = s.dbg) :
    DebugNoted s t e :=
  ⟨by rw [← hu]; exact h.dera, by rw [← hu]; exact h.dsave, by rw [← hu]; exact h.outside, by rw [← hu]; exact h.inside⟩

/-- General exception entry (R851), said once. -/
theorem enterGeneral_spec (s : State) (n : Nat) (e : BitVec 6) (sub : BitVec 9) :
    GeneralEntry s (s.enterGeneral n e sub) n e sub where
  pplv := by
    apply BitVec.eq_of_getLsbD_eq; intro i hi
    have : i = 0 ∨ i = 1 := by omega
    rw [BitVec.getLsbD_extractLsb']
    rcases this with rfl | rfl <;> exact (congrArg _ (savedMode_get _ _ _)).trans (by simp)
  pie := (savedMode_get _ _ _).trans (by simp)
  pwe := (savedMode_get _ _ _).trans (by simp)
  prmdRest := by
    apply BitVec.eq_of_getLsbD_eq; intro i hi
    rw [BitVec.getLsbD_extractLsb']
    refine (congrArg _ (savedMode_get _ _ _)).trans ?_
    rw [if_neg (by omega), if_neg (by omega)]; simp
  plv := by
    apply BitVec.eq_of_getLsbD_eq; intro i hi
    have : i = 0 ∨ i = 1 := by omega
    rcases this with rfl | rfl <;> simp [State.enterGeneral, State.plv]
  ie := by simp [State.enterGeneral]
  we := by simp [State.enterGeneral]
  crmdMid := by
    apply BitVec.eq_of_getLsbD_eq; intro i hi
    have : i = 0 ∨ i = 1 ∨ i = 2 ∨ i = 3 ∨ i = 4 ∨ i = 5 := by omega
    rcases this with rfl | rfl | rfl | rfl | rfl | rfl <;> simp [State.enterGeneral]
  crmdHigh := by
    apply BitVec.eq_of_getLsbD_eq; intro i hi
    have h1 : (0x207#32).getLsbD (10 + i) = false := by
      have : ∀ j < 22, (0x207#32).getLsbD (10 + j) = false := by decide
      exact this i hi
    simp only [State.enterGeneral, BitVec.getLsbD_extractLsb', BitVec.getLsbD_and, BitVec.getLsbD_not, h1,
      show 10 + i < 32 by omega, decide_true, Bool.not_false, Bool.and_true]
  era := vaddr_pc s
  ecode := by
    apply BitVec.eq_of_getLsbD_eq; intro i hi
    simp only [State.enterGeneral, BitVec.getLsbD_extractLsb', hi, decide_true, Bool.true_and]
    rw [putBits_get _ _ _ _ _ (by omega), putBits_get _ _ _ _ _ (by omega)]
    simp [show ¬(22 ≤ 16 + i) by omega, show 16 + i < 22 by omega]
  esub := by
    apply BitVec.eq_of_getLsbD_eq; intro i hi
    simp only [State.enterGeneral, BitVec.getLsbD_extractLsb', hi, decide_true, Bool.true_and]
    rw [putBits_get _ _ _ _ _ (by omega)]
    simp [show 22 + i < 31 by omega]
  estatLow := by
    apply BitVec.eq_of_getLsbD_eq; intro i hi
    simp only [State.enterGeneral, BitVec.getLsbD_extractLsb', hi, decide_true, Bool.true_and]
    rw [putBits_get _ _ _ _ _ (by omega), putBits_get _ _ _ _ _ (by omega)]
    simp [show ¬(22 ≤ i) by omega, show ¬(16 ≤ i) by omega]
  pc := by
    simp only [State.enterGeneral, entryOffset]
    congr 2
    by_cases h : BitVec.extractLsb' 16 3 s.csr.ecfg = 0#3
    · rw [if_pos h, if_pos (by rw [h]; rfl)]
    · have h0 : (BitVec.extractLsb' 16 3 s.csr.ecfg).toNat ≠ 0 := fun h' => h (BitVec.eq_of_toNat_eq h')
      rw [if_neg h, if_neg h0]
  gr := fun _ => by simp
  fr := fun _ => by simp
  cf := fun _ => by simp
  mem := fun _ => by simp
  other := ⟨rfl, rfl, rfl, rfl, rfl, rfl, rfl, rfl⟩
  mmu := rfl
  units := ⟨rfl, rfl, rfl, rfl, rfl⟩
  reservation := ⟨rfl, rfl⟩
  idle := rfl
  dbg := noteDebug_spec rfl
  out := ⟨rfl, rfl, rfl, rfl, rfl, rfl⟩

/-- What general entry leaves of the parts `GeneralEntry` does not speak of. -/
theorem enterGeneral_rest (s : State) (n : Nat) (e : BitVec 6) (sub : BitVec 9) :
    (s.enterGeneral n e sub).csr.badv = s.csr.badv ∧ (s.enterGeneral n e sub).csr.badi = s.csr.badi := ⟨rfl, rfl⟩

/-- General entry from a state that differs in BADI, BADV, TLBEHI and the count of free values only. -/
theorem GeneralEntry.of_records {s u t : State} {n : Nat} {e : BitVec 6} {sub : BitVec 9} (h : GeneralEntry u t n e sub)
    (hcsr : u.csr = { s.csr with badi := u.csr.badi, badv := u.csr.badv })
    (hmmu : u.mmu = { s.mmu with tlbehi := u.mmu.tlbehi })
    (hrest : u = { s with csr := u.csr, mmu := u.mmu, freeCount := u.freeCount, fcsr0 := u.fcsr0, watch := u.watch }) :
    GeneralEntry s t n e sub := by
  obtain ⟨c, m, fc, f0, wt, hu⟩ : ∃ c m fc f0 wt, u =
      { s with csr := c, mmu := m, freeCount := fc, fcsr0 := f0, watch := wt } := ⟨_, _, _, _, _, hrest⟩
  subst hu
  simp only at hcsr hmmu
  obtain ⟨bi, bv, hc⟩ : ∃ bi bv, c = { s.csr with badi := bi, badv := bv } := ⟨_, _, hcsr⟩
  obtain ⟨te, hm⟩ : ∃ te, m = { s.mmu with tlbehi := te } := ⟨_, hmmu⟩
  subst hc hm
  exact ⟨h.pplv, h.pie, h.pwe, h.prmdRest, h.plv, h.ie, h.we, h.crmdMid, h.crmdHigh, h.era, h.ecode, h.esub, h.estatLow,
    h.pc, h.gr, h.fr, h.cf, h.mem, h.other, congrArg (fun m => { m with tlbehi := s.mmu.tlbehi }) h.mmu, h.units, h.reservation, h.idle,
    h.dbg.of_dbg rfl, ⟨h.out.cfg, h.out.extIrq, h.out.merrPending, h.out.inputs, h.out.debugCall, h.out.curInsn⟩⟩

/-- Taking any exception but the refill (R850, R851, R852, R845). -/
theorem takeExc_spec (s : State) (fetch : Bool) (x : Exc) (hx : ∀ va, x ≠ .tlbr va) :
    GeneralEntry s (s.takeExc fetch x) x.code.1.toNat x.code.1 x.code.2 ∧
    (fetch = false → (s.takeExc fetch x).csr.badi = s.curInsn) ∧
    (s.takeExc fetch x).csr.badv = (match x.badVa with | none => s.csr.badv | some va => s.vaddr va) ∧
    (s.takeExc fetch x).mmu = (match x.badVa with
      | none => s.mmu
      | some va => if x.isPage then { s.mmu with tlbehi := s.cfg.vppnField (s.vaddr va) } else s.mmu) ∧
    (s.takeExc fetch x).watch = s.watch ∧ (s.takeExc fetch x).fcsr0 = s.fcsr0 := by
  have key : s.takeExc fetch x = ((s.recordBadi fetch).recordBadv x).enterGeneral x.code.1.toNat x.code.1 x.code.2 := by
    cases x <;> first | rfl | exact absurd rfl (hx _)
  rw [key]
  have hva : ∀ va, (s.recordBadi fetch).vaddr va = s.vaddr va := by intro va; cases fetch <;> rfl
  refine ⟨(enterGeneral_spec _ _ _ _).of_records ?_ ?_ ?_, ?_, ?_, ?_, ?_, ?_⟩
  · cases fetch <;> (unfold State.recordBadv; split <;> rfl)
  · cases fetch <;> (unfold State.recordBadv; split <;> (try split) <;> rfl)
  · cases fetch <;> (unfold State.recordBadv; split <;> rfl)
  · rintro rfl; unfold State.recordBadv; split <;> rfl
  · rw [(enterGeneral_rest _ _ _ _).1]; unfold State.recordBadv
    cases hb : x.badVa with
    | none => cases fetch <;> rfl
    | some va => simp only [hva]
  · rw [enterGeneral_mmu]; unfold State.recordBadv
    cases hb : x.badVa with
    | none => cases fetch <;> rfl
    | some va => simp only [hva, recordBadi_cfg, recordBadi_mmu]
  · rw [enterGeneral_watch, recordBadv_watch, recordBadi_watch]
  · rw [enterGeneral_fcsr0, recordBadv_fcsr0, recordBadi_fcsr0]

/-- An instruction that raises an exception without an address. -/
theorem traps_of {i : Instr} {P : State → Prop} {x : Exc} (hb : x.badVa = none) (hx : ∀ va, x ≠ .tlbr va)
    (h : ∀ s, P s → exec i s = s.raise x) : Traps i P x.code.1 x.code.2 keepBadv := by
  intro s hs
  obtain ⟨h1, h2, h3, h4, h5, h6⟩ := takeExc_spec s false x hx
  rw [hb] at h3 h4
  exact ⟨_, h s hs, h1, h2 rfl, h3, h6, h4, h5⟩

theorem trapsIne_of {i : Instr} {P : State → Prop} (h : ∀ s, P s → exec i s = s.raise .ine) : TrapsIne i P :=
  traps_of (x := .ine) rfl (fun _ h => nomatch h) h

theorem trapsIpe_of {i : Instr} {P : State → Prop} (h : ∀ s, P s → exec i s = s.raise .ipe) : TrapsIpe i P :=
  traps_of (x := .ipe) rfl (fun _ h => nomatch h) h

theorem trapsFpd_of {i : Instr} {P : State → Prop} (h : ∀ s, P s → exec i s = s.raise .fpd) : TrapsFpd i P :=
  traps_of (x := .fpd) rfl (fun _ h => nomatch h) h

/-- An instruction that raises BCE for an address (ASRT). -/
theorem trapsBce_of {i : Instr} {P : State → Prop} {va : State → Word}
    (h : ∀ s, P s → exec i s = s.raise (.bce (va s))) : Traps i P 0xA#6 0#9 (fun s => s.vaddr (va s)) := by
  intro s hs
  obtain ⟨h1, h2, h3, h4, h5, h6⟩ := takeExc_spec s false (.bce (va s)) (fun _ h => nomatch h)
  exact ⟨_, h s hs, h1, h2 rfl, h3, h6, h4, h5⟩

/-! ## Results of an instruction -/

theorem writesGr_of {i : Instr} {P : State → Prop} {rd : Reg} {v : State → Word}
    (h : ∀ s, P s → exec i s = s.putGr rd (v s)) : WritesGr i P rd v := fun s hs => by
  rw [h s hs]; exact putGr_spec s rd _

theorem writesGrSome_of {i : Instr} {P : State → Prop} {rd : Reg} {R : State → Word → Prop} (v : State → Word)
    (h : ∀ s, P s → exec i s = s.putGr rd (v s)) (hR : ∀ s, P s → R s (v s)) : WritesGrSome i P rd R := fun s hs => by
  obtain ⟨t, h1, h2⟩ := putGr_spec s rd (v s)
  exact ⟨t, v s, (h s hs).trans h1, hR s hs, h2⟩

theorem goesTo_skip {i : Instr} {P : State → Prop} (h : ∀ s, P s → exec i s = s.skip) :
    GoesTo i P (fun s => s.pc + 4) := fun s hs => by
  rw [h s hs]; exact skip_spec s

theorem goesTo_branch {i : Instr} {P : State → Prop} {c : State → Bool} {x : Word}
    (h : ∀ s, P s → exec i s = s.branch (c s) x) : GoesTo i P (fun s => if c s then s.pc + x else s.pc + 4) :=
  fun s hs => by rw [h s hs]; exact branch_spec s _ _

theorem writesFr_of {i : Instr} {P : State → Prop} {f : Fmt} {fd : Reg} {x : State → Word}
    (h : ∀ s, P s → exec i s = s.fpPut f fd (x s)) : WritesFr i P f fd x := fun s hs => by
  rw [h s hs]; exact fpPut_spec s f fd _

/-! ## Pending interrupts -/

/-- An interrupt is pending and locally enabled (R868), bit by bit: what `irqTaken` and `wakes` ask for. -/
theorem intVec_pending (s : State) :
    (s.intVec != 0#13) = true ↔ ∃ n < 13, s.isBits.getLsbD n = true ∧ s.csr.ecfg.getLsbD n = true := by
  rw [bne_iff_ne, ne_eq, BitVec.eq_of_getLsbD_eq_iff]
  constructor
  · intro h
    push Not at h
    obtain ⟨n, hn, hb⟩ := h
    refine ⟨n, hn, ?_⟩
    simpa [State.intVec, hn] using hb
  · rintro ⟨n, hn, h1, h2⟩ h
    have h0 := h n hn
    rw [State.intVec, BitVec.getLsbD_and, h1, BitVec.getLsbD_extractLsb'] at h0
    simp [hn, h2] at h0

/-! ## The inputs of a step, and the clock -/

/-- What the inputs of a step leave. -/
theorem applyInput_spec (s : State) : SameUnderInputs s s.applyInput :=
  ⟨by simp, by simp, getGr_of_gr (by simp), getFr_of_fr (by simp), getCf_of_cfr (by simp), by simp, by simp, by simp,
    by simp, by simp, by simp, by simp, by simp, by simp, by simp, by simp, by simp, by simp⟩

/-- The Stable Counter after `n` ticks. -/
theorem ticks_stableCounter (n : Nat) :
    ∀ t : TimerState, (t.ticks n).stableCounter = t.stableCounter + BitVec.ofNat 64 n := by
  induction n with
  | zero => intro t; simp [TimerState.ticks]
  | succ n ih =>
    intro t
    rw [TimerState.ticks, ih, TimerState.tick, BitVec.add_assoc]
    congr 1
    apply BitVec.eq_of_toNat_eq
    simp [Nat.add_comm]

/-- A write of TCFG leaves the Stable Counter. -/
@[simp] theorem writeTcfg_stableCounter (t : TimerState) (c : Config) (v m : Word) :
    (t.writeTcfg c v m).stableCounter = t.stableCounter := by
  unfold TimerState.writeTcfg
  simp only
  split <;> rfl

/-- No CSR write changes the Stable Counter. -/
theorem csrWrite_stableCounter {s t : State} {id : CsrId} {v m : Word} (h : s.csrWrite id v m = .ok t) :
    t.timer.stableCounter = s.timer.stableCounter := by
  cases id <;> simp only [State.csrWrite] at h
  case tcfg => cases h; exact writeTcfg_stableCounter _ _ _ _
  case ticlr => cases h; split <;> rfl
  case ecfg => split at h <;> cases h; rfl
  case rvacfg => split at h <;> cases h; rfl
  all_goals cases h; rfl

end Sys2Proof.Machine
end

