-- ==== Sys2Proof/Laws/Numbers.lean ====
section
/-!
SUPPORT. The integers that statements speak of, as bit vectors: cutting to 32 or 64 bits, sign extension, operands.
-/

namespace Sys2Proof.Machine

/-- Cutting an integer to 32 bits and sign-extending is what a W form delivers. -/
theorem wordOf_eq (n : Int) : wordOf n = sext32 (BitVec.ofInt 32 n) := by
  apply BitVec.eq_of_toInt_eq
  rw [wordOf, sext32, BitVec.toInt_signExtend_of_le (by omega), BitVec.toInt_ofInt, BitVec.toInt_ofInt]
  have h1 := Int.bmod_lt (x := n) (m := 2 ^ 32) (by norm_num)
  have h2 := Int.le_bmod (x := n) (m := 2 ^ 32) (by norm_num)
  rw [Int.bmod_eq_of_le] <;> (norm_num at *; omega)

theorem sw_eq (s : State) (r : Reg) : s.sw r = (s.getGrW r).toInt := by
  exact (BitVec.toInt_setWidth (s.getGr r)).symm

theorem uw_eq (s : State) (r : Reg) : s.uw r = (s.getGrW r).toNat := by
  exact (BitVec.toNat_setWidth 32 (s.getGr r)).symm

/-- A signed immediate as an integer. -/
theorem simm12_eq (i : BitVec 12) : simm12 i = BitVec.ofInt 64 i.toInt := rfl

/-- An immediate scaled by 4, sign-extended. -/
theorem scaled_eq {w : Nat} (i : BitVec w) (h : w + 2 ≤ 64) : (i ++ 0#2).signExtend 64 = BitVec.ofInt 64 (i.toInt * 4) := by
  apply BitVec.eq_of_toInt_eq
  rw [BitVec.toInt_signExtend_of_le h, BitVec.toInt_append, BitVec.toInt_ofInt]
  have h1 := BitVec.two_mul_toInt_lt (x := i)
  have h2 := BitVec.le_two_mul_toInt (x := i)
  have h3 : (2 : Int) ^ w ≤ 2 ^ 62 := pow_le_pow_right₀ (by norm_num) (by omega)
  by_cases h0 : w = 0
  · subst h0; simp [BitVec.eq_nil i]
  · rw [if_neg (by simpa using h0)]
    rw [Int.bmod_eq_of_le] <;> (norm_num at *; omega)

end Sys2Proof.Machine
end

