-- ==== Sys2Proof/Laws/Access.lean ====
section
/-!
SUPPORT. Accesses to memory, said once: which bytes an access touches, what happens where it passes every check and
where it does not, what a load delivers, what a store leaves, what TLB refill and machine error entry leave.
-/

namespace Sys2Proof.Machine

/-! ## Little-endian numbers -/

theorem shiftLeft_or_byte (x : Word) (b : Byte) : (x <<< 8) ||| b.setWidth 64 = x * 256#64 + b.setWidth 64 := by
  rw [← BitVec.add_eq_or_of_and_eq_zero, BitVec.shiftLeft_eq_mul_twoPow]
  · rfl
  · apply BitVec.eq_of_getLsbD_eq; intro i hi
    by_cases h : i < 8
    · simp [h]
    · simp [h, BitVec.getLsbD_of_ge b i (by omega)]

/-- Gathering bytes gives the little-endian number they spell. -/
theorem wordOfBytes_eq : ∀ bs : List Byte, wordOfBytes bs = BitVec.ofNat 64 (littleEndian bs)
  | [] => rfl
  | b :: bs => by
    rw [wordOfBytes, shiftLeft_or_byte, wordOfBytes_eq bs]
    apply BitVec.eq_of_toNat_eq
    have hb := b.isLt
    simp [littleEndian]
    omega

theorem readBytes_eq (s : State) (as : List Nat) : s.readBytes as = BitVec.ofNat 64 (s.bytesAt as) :=
  wordOfBytes_eq _

theorem littleEndian_lt : ∀ bs : List Byte, littleEndian bs < 2 ^ (8 * bs.length)
  | [] => by simp [littleEndian]
  | b :: bs => by
    have hb := b.isLt
    have := littleEndian_lt bs
    have h : (2 : Nat) ^ (8 * (b :: bs).length) = 256 * 2 ^ (8 * bs.length) := by
      rw [List.length_cons, Nat.mul_succ, pow_add]; ring
    rw [h]
    simp only [littleEndian, List.foldr_cons] at *
    omega

theorem bytesAt_lt (s : State) (as : List Nat) : s.bytesAt as < 2 ^ (8 * as.length) := by
  have := littleEndian_lt (as.map s.memByte)
  rwa [List.length_map] at this

/-- `sextFrom` of a number cut to `8 * n` bits. -/
theorem sextFrom_eq {n : Nat} (hn : n = 1 ∨ n = 2 ∨ n = 4 ∨ n = 8) (k : Nat) :
    sextFrom (8 * n) (BitVec.ofNat 64 k) = signedBytes n k := by
  apply BitVec.eq_of_toInt_eq
  rw [sextFrom, signedBytes, BitVec.toInt_sshiftRight, BitVec.toInt_ofInt]
  rcases hn with rfl | rfl | rfl | rfl <;>
    simp [BitVec.toInt_eq_toNat_bmod, Int.bmod, Int.shiftRight_eq_div_pow, Nat.shiftLeft_eq] <;> omega

/-! ## The bytes of an access -/

theorem misaligned_of_aligned {s : State} {a : Access} (h : a.va.toNat % a.size = 0) : s.misaligned a = false := by
  simp [State.misaligned, h]

/-- A naturally aligned access stands in one page. -/
theorem firstPart_of_aligned {a : Access} (hs : a.size = 1 ∨ a.size = 2 ∨ a.size = 4 ∨ a.size = 8)
    (h : a.va.toNat % a.size = 0) : a.firstPart = a.size := by
  unfold Access.firstPart
  rcases hs with hs | hs | hs | hs <;> rw [hs] at h ⊢ <;> omega

/-- A check that passes passed its first half. -/
theorem Check.bind_ok {α β : Type} {c : Check α} {k : α → Check β} {b : β} (h : c.bind k = .ok b) :
    ∃ a, c = .ok a ∧ k a = .ok b := by
  cases c with
  | ok a => exact ⟨a, rfl, h⟩
  | trap x => cases h
  | fault f => cases h
  | refused r => cases h

/-- The address part of an access that passes: the checks it passed and the bytes it touches (R250), said once. -/
theorem accessAddrs_ok {s : State} {a : Access} {as : List Nat} {mat : BitVec 2}
    (h : s.accessAddrs a = .ok (as, mat)) :
    s.misaligned a = false ∧ a.outOfBound = false ∧ s.addressError a.kind a.va = false ∧
    ∃ p, s.translate a.kind a.va = .ok (p, mat) ∧
      (a.firstPart = a.size ∧ as = physBytes p a.size ∨
       a.firstPart ≠ a.size ∧ ∃ q, s.translate a.kind (s.vaPlus a.va a.firstPart) = .ok (q, mat) ∧
        as = physBytes p a.firstPart ++ physBytes q (a.size - a.firstPart)) := by
  unfold State.accessAddrs at h
  simp only at h
  split at h
  · cases h
  rename_i h1
  split at h
  · cases h
  rename_i h2
  split at h
  · cases h
  rename_i h3
  obtain ⟨p, hp, h⟩ := Check.bind_ok h
  refine ⟨by simpa using h1, by simpa using h3, by simp only [Bool.or_eq_true, not_or] at h2; simpa using h2.1, p.1, ?_⟩
  split at h <;> rename_i hf
  · cases h; exact ⟨hp, .inl ⟨hf, rfl⟩⟩
  · obtain ⟨q, hq, h⟩ := Check.bind_ok h
    split at h
    · cases h
    · rename_i hm
      cases h
      exact ⟨hp, .inr ⟨hf, q.1, by rw [hq, show q = (q.1, p.2) from Prod.ext rfl (not_not.1 hm).symm], rfl⟩⟩

/-- An access that reaches memory passed the address part, and its bytes may be used. -/
theorem accessBytes_ok {s : State} {a : Access} {as : List Nat} {mat : BitVec 2}
    (h : s.accessBytes a = .ok (as, mat)) : s.accessAddrs a = .ok (as, mat) ∧ physCheck s.cfg a.kind mat as = .ok () := by
  obtain ⟨r, hr, h⟩ := Check.bind_ok h
  obtain ⟨u, hu, h⟩ := Check.bind_ok h
  cases h
  exact ⟨hr, hu⟩

/-- An access whose addresses are found touches as many bytes as its size. -/
theorem accessAddrs_length {s : State} {a : Access} {as : List Nat} {mat : BitVec 2}
    (h : s.accessAddrs a = .ok (as, mat)) : as.length = a.size := by
  have hle : a.firstPart ≤ a.size := Nat.min_le_left _ _
  obtain ⟨-, -, -, p, -, ⟨-, rfl⟩ | ⟨-, q, -, rfl⟩⟩ := accessAddrs_ok h
  · simp [physBytes]
  · simp [physBytes]; omega

/-- An access that passes touches as many bytes as its size. -/
theorem accessBytes_length {s : State} {a : Access} {as : List Nat} {mat : BitVec 2}
    (h : s.accessBytes a = .ok (as, mat)) : as.length = a.size := accessAddrs_length (accessBytes_ok h).1

/-- An access that must be aligned and passes touches consecutive bytes. -/
theorem accessBytes_strict {s : State} {a : Access} {as : List Nat} {mat : BitVec 2} (ha : a.strict = true)
    (hs : a.size = 1 ∨ a.size = 2 ∨ a.size = 4 ∨ a.size = 8) (h : s.accessBytes a = .ok (as, mat)) :
    ∃ pa, as = physBytes pa a.size := by
  obtain ⟨hm, -, -, p, -, ⟨-, rfl⟩ | ⟨hf, -⟩⟩ := accessAddrs_ok (accessBytes_ok h).1
  · exact ⟨p, rfl⟩
  · exact absurd (firstPart_of_aligned hs (by simpa [State.misaligned, ha] using hm)) hf

theorem physBytes_nodup (pa n : Nat) : (physBytes pa n).Nodup :=
  (List.nodup_range).map (fun _ _ h => Nat.add_left_cancel h)

/-! ## The watchpoint test and what follows it -/

theorem afterWatch_accessAddrs (s : State) (a b : Access) : (s.afterWatch a).accessAddrs b = s.accessAddrs b := rfl

theorem afterWatch_accessBytes (s : State) (a b : Access) : (s.afterWatch a).accessBytes b = s.accessBytes b := rfl

theorem afterWatch_bytesAt (s : State) (a : Access) (as : List Nat) : (s.afterWatch a).bytesAt as = s.bytesAt as := rfl

/-- Where the address part of an access passes, its instruction goes on with the addresses. -/
theorem withAddrs_of {s : State} {a : Access} {as : List Nat} {mat : BitVec 2} (h : ReachesAddrs s a as mat)
    (k : State → List Nat → BitVec 2 → Out) : s.withAddrs a k = k (s.afterWatch a) as mat := by
  obtain ⟨h1, h2⟩ := h
  unfold State.withAddrs
  have h3 : (s.watchMem a).1.accessAddrs a = .ok (as, mat) := h2
  simp only [h1, h3, Check.run]
  rfl

/-- Where the address part of an access raises an exception, it is taken. -/
theorem withAddrs_trap {s : State} {a : Access} {x : Exc} (h1 : (s.watchMem a).2 = false)
    (h2 : s.accessAddrs a = .trap x) (k : State → List Nat → BitVec 2 → Out) :
    s.withAddrs a k = (s.afterWatch a).raise x := by
  unfold State.withAddrs
  have h3 : (s.watchMem a).1.accessAddrs a = .trap x := h2
  simp only [h1, h3, Check.run]
  rfl

/-- A watchpoint that hits is taken before any other check. -/
theorem withAddrs_watch {s : State} {a : Access} (h1 : (s.watchMem a).2 = true)
    (k : State → List Nat → BitVec 2 → Out) : s.withAddrs a k = (s.afterWatch a).raise .wpem := by
  unfold State.withAddrs
  simp only [h1, if_true]
  rfl

/-- An access that reaches memory has its addresses. -/
theorem Reaches.addrs {s : State} {a : Access} {as : List Nat} {mat : BitVec 2} (h : Reaches s a as mat) :
    ReachesAddrs s a as mat := ⟨h.1, (accessBytes_ok h.2).1⟩

/-- Where an access reaches memory, its instruction goes on with the bytes. -/
theorem withAccess_of {s : State} {a : Access} {as : List Nat} {mat : BitVec 2} (h : Reaches s a as mat)
    (k : State → List Nat → BitVec 2 → Out) : s.withAccess a k = k (s.afterWatch a) as mat := by
  have h2 : physCheck (s.afterWatch a).cfg a.kind mat as = .ok () := (accessBytes_ok h.2).2
  rw [State.withAccess, withAddrs_of h.addrs]
  simp only [h2, Check.run]

/-- What the check of the physical bytes can answer (U13, U14). -/
theorem physCheck_cases (c : Config) (k : AccessKind) (mat : BitVec 2) (as : List Nat) :
    physCheck c k mat as = .ok () ∨ ∃ r, physCheck c k mat as = .refused r := by
  unfold physCheck
  split
  · exact .inr ⟨_, rfl⟩
  · split
    · exact .inr ⟨_, rfl⟩
    · exact .inl rfl

/-- The checks of the physical bytes raise no exception: one of an access comes from its address part. -/
theorem accessBytes_trap {s : State} {a : Access} {x : Exc} (h : s.accessBytes a = .trap x) :
    s.accessAddrs a = .trap x := by
  unfold State.accessBytes at h
  cases hr : s.accessAddrs a with
  | ok r =>
    rw [hr] at h
    rcases physCheck_cases s.cfg a.kind r.2 r.1 with hp | ⟨f, hp⟩ <;> simp only [Check.bind, hp] at h <;> cases h
  | trap y => rw [hr] at h; exact h
  | fault f => rw [hr] at h; cases h
  | refused r => rw [hr] at h; cases h

/-- Where a check of an access raises an exception, it is taken. -/
theorem withAccess_trap {s : State} {a : Access} {x : Exc} (h1 : (s.watchMem a).2 = false)
    (h2 : s.accessBytes a = .trap x) (k : State → List Nat → BitVec 2 → Out) :
    s.withAccess a k = (s.afterWatch a).raise x := withAddrs_trap h1 (accessBytes_trap h2) _

/-- A watchpoint that hits is taken before any other check. -/
theorem withAccess_watch {s : State} {a : Access} (h1 : (s.watchMem a).2 = true)
    (k : State → List Nat → BitVec 2 → Out) : s.withAccess a k = (s.afterWatch a).raise .wpem := withAddrs_watch h1 _

/-! ## Loads and stores -/

theorem loadS_spec {s : State} {a : Access} {as : List Nat} {mat : BitVec 2} (h : Reaches s a as mat)
    (hs : a.size = 1 ∨ a.size = 2 ∨ a.size = 4 ∨ a.size = 8) (rd : Reg) :
    ∃ t, s.loadS a rd = .next t ∧ as.length = a.size ∧ GrIs s t rd (signedBytes a.size (s.bytesAt as)) ∧
      AtNext s t ∧ OnlyGr rd (s.afterWatch a) t := by
  rw [State.loadS, withAccess_of h, readBytes_eq, sextFrom_eq hs]
  obtain ⟨t, h1, h2⟩ := putGr_spec (s.afterWatch a) rd (signedBytes a.size ((s.afterWatch a).bytesAt as))
  exact ⟨t, h1, accessBytes_length h.2, h2⟩

theorem loadU_spec {s : State} {a : Access} {as : List Nat} {mat : BitVec 2} (h : Reaches s a as mat) (rd : Reg) :
    ∃ t, s.loadU a rd = .next t ∧ as.length = a.size ∧ GrIs s t rd (BitVec.ofNat 64 (s.bytesAt as)) ∧
      AtNext s t ∧ OnlyGr rd (s.afterWatch a) t := by
  rw [State.loadU, withAccess_of h, readBytes_eq]
  obtain ⟨t, h1, h2⟩ := putGr_spec (s.afterWatch a) rd (BitVec.ofNat 64 ((s.afterWatch a).bytesAt as))
  exact ⟨t, h1, accessBytes_length h.2, h2⟩

theorem loadFp_spec {s : State} {a : Access} {as : List Nat} {mat : BitVec 2} (h : Reaches s a as mat) (f : Fmt)
    (fd : Reg) : ∃ t, s.loadFp f a fd = .next t ∧ as.length = a.size ∧
      FrIs t f fd (BitVec.ofNat 64 (s.bytesAt as)) ∧ AtNext s t ∧ OnlyFr fd (s.afterWatch a) t := by
  rw [State.loadFp, withAccess_of h, readBytes_eq]
  obtain ⟨t, h1, h2⟩ := fpPut_spec (s.afterWatch a) f fd (BitVec.ofNat 64 ((s.afterWatch a).bytesAt as))
  exact ⟨t, h1, accessBytes_length h.2, h2⟩

/-- Bytes are stored and the pc advances; nothing else changes. -/
theorem writeBytes_spec {s : State} (hm : s.MemOk) (as : List Nat) (v : Word) :
    (as.Nodup → StoredAt as v (s.writeBytes as v).advance) ∧ AtNext s (s.writeBytes as v).advance ∧
      OnlyMem as s (s.writeBytes as v).advance :=
  ⟨fun hn k hk => by rw [advance_memByte]; exact writeBytes_at hm hn v k hk, by simp [AtNext],
    ⟨fun _ => by simp, fun _ => by simp, fun _ => by simp, by simp,
      fun x hx => by rw [advance_memByte]; exact writeBytes_other hm v hx,
      ⟨by simp, by simp, by simp, by simp, by simp, by simp, by simp, by simp, by simp, by simp, by simp, by simp⟩,
      ⟨by simp, by simp, by simp, by simp, by simp, by simp⟩⟩⟩

theorem store_spec {s : State} {a : Access} {as : List Nat} {mat : BitVec 2} (hm : s.MemOk) (h : Reaches s a as mat)
    (v : Word) : ∃ t, s.store a v = .next t ∧ as.length = a.size ∧ (as.Nodup → StoredAt as v t) ∧ AtNext s t ∧
      OnlyMem as (s.afterWatch a) t := by
  rw [State.store, withAccess_of h]
  obtain ⟨h1, h2, h3⟩ := writeBytes_spec (s := s.afterWatch a) hm as v
  exact ⟨_, rfl, accessBytes_length h.2, h1, h2, h3⟩

/-- SC without its store: memory is as it was, whatever stands at the addresses (R593). -/
theorem storeIf_not {mat : BitVec 2} (h : mat ≠ 3#2) (s : State) (as : List Nat) (v : Word) (k : State → Out) :
    s.storeIf false as mat v k = k s := by
  simp [State.storeIf, physCheck, h, Check.run, State.writeBytes, putBytes]

/-- SC with its store, where the bytes may be used. -/
theorem storeIf_of {s : State} {as : List Nat} {mat : BitVec 2} (h : physCheck s.cfg .rmw mat as = .ok ()) (v : Word)
    (k : State → Out) : s.storeIf true as mat v k = k (s.writeBytes as v) := by
  simp [State.storeIf, h, Check.run]

/-! ## The alignment rule of LDDIR, LDPTE and the IOCSR instructions (R784, R807, R98, R243; log 54) -/

/-- Nothing happens at an aligned address, or where the rule does not apply. -/
theorem alignGate_of {s : State} {x : Word} {n : Nat}
    (h : s.cfg.alclCoversAll = true → s.alignChecked = true → x.toNat % n = 0) (k : Out) : s.alignGate x n k = k := by
  unfold State.alignGate
  rw [if_neg]
  simp only [Bool.and_eq_true, bne_iff_ne, ne_eq]
  exact fun h' => h'.1.2 (h h'.1.1 h'.2)

/-- ALE otherwise. -/
theorem alignGate_not {s : State} {x : Word} {n : Nat} (h1 : s.cfg.alclCoversAll = true) (h2 : s.alignChecked = true)
    (h3 : x.toNat % n ≠ 0) (k : Out) : s.alignGate x n k = s.raise (.ale x) := by
  simp [State.alignGate, h1, h2, h3]

/-! ## Exceptions of an access -/

theorem vaddr_vaddr (s : State) (a : Word) : s.vaddr (s.vaddr a) = s.vaddr a := by
  unfold State.vaddr Config.wrap zextLow32
  split
  · simp
  · split <;> simp

/-- An exception with an address, other than the refill, taken by an access: MWPS is as the watchpoint test left it. -/
theorem raise_spec {s : State} (a : Access) (x : Exc) (hx : ∀ va, x ≠ .tlbr va) :
    ∃ t, (s.afterWatch a).raise x = .next t ∧ GeneralEntry s t x.code.1.toNat x.code.1 x.code.2 ∧
      t.csr.badi = s.curInsn ∧
      t.csr.badv = (match x.badVa with | none => s.csr.badv | some va => s.vaddr va) ∧ t.fcsr0 = s.fcsr0 ∧
      t.mmu = (match x.badVa with
        | none => s.mmu
        | some va => if x.isPage then { s.mmu with tlbehi := s.cfg.vppnField (s.vaddr va) } else s.mmu) ∧
      t.watch = (s.afterWatch a).watch := by
  obtain ⟨h1, h2, h3, h4, h5, h6⟩ := takeExc_spec (s.afterWatch a) false x hx
  exact ⟨_, rfl, h1.of_records rfl rfl rfl, h2 rfl, h3, h6, h4, h5⟩

/-- The saved mode of refill entry, bit by bit. -/
theorem refillMode_get (w : BitVec 1) (m : BitVec 3) (i : Nat) :
    ((w ++ 0#1 ++ m).setWidth 32).getLsbD i =
      if i < 3 then m.getLsbD i else if i = 4 then w.getLsbD 0 else false := by
  rw [BitVec.getLsbD_setWidth, BitVec.getLsbD_append, BitVec.getLsbD_append]
  by_cases h : i < 3
  · simp [h]; omega
  · by_cases h3 : i = 3
    · subst h3; simp
    · by_cases h4 : i = 4
      · subst h4; simp
      · rw [if_neg h, if_neg h4, if_neg h, if_neg (by omega), BitVec.getLsbD_of_ge w (i - 3 - 1) (by omega),
          Bool.and_false]

/-- TLB refill entry (R853), said once. -/
theorem enterRefill_spec (s : State) (va : Word) : RefillEntry s (s.enterRefill va) va where
  pplv := by
    apply BitVec.eq_of_getLsbD_eq; intro i hi
    rw [BitVec.getLsbD_extractLsb']
    refine (congrArg _ (refillMode_get _ _ _)).trans ?_
    rw [if_pos (by omega)]
    simp [hi]
  pwe := (refillMode_get _ _ _).trans (by simp)
  crmdLow := by
    apply BitVec.eq_of_getLsbD_eq; intro i hi
    simp only [State.enterRefill, BitVec.getLsbD_extractLsb', hi, decide_true, Bool.true_and]
    interval_cases i <;> simp
  crmdMid := by
    apply BitVec.eq_of_getLsbD_eq; intro i hi
    simp only [State.enterRefill, BitVec.getLsbD_extractLsb', hi, decide_true, Bool.true_and]
    interval_cases i <;> simp
  we := by simp [State.enterRefill]
  crmdHigh := by
    apply BitVec.eq_of_getLsbD_eq; intro i hi
    simp only [State.enterRefill, BitVec.getLsbD_extractLsb', hi, decide_true, Bool.true_and]
    interval_cases i <;> simp
  era := by
    apply BitVec.eq_of_getLsbD_eq; intro i hi
    simp only [State.enterRefill, BitVec.getLsbD_extractLsb', hi, decide_true, Bool.true_and, vaddr_pc]
    have h3 : (3#64).getLsbD (2 + i) = false := by
      have : ∀ j < 62, (3#64).getLsbD (2 + j) = false := by decide
      exact this i hi
    have h1 : (1#64).getLsbD (2 + i) = false := by
      have : ∀ j < 62, (1#64).getLsbD (2 + j) = false := by decide
      exact this i hi
    simp only [BitVec.getLsbD_or, BitVec.getLsbD_and, BitVec.getLsbD_not, h3, h1, show 2 + i < 64 by omega,
      decide_true, Bool.not_false, Bool.and_true, Bool.or_false]
  isTlbr := by simp [State.enterRefill]
  badv := rfl
  vppn := fun hv i h1 h2 => by
    have hi : i < 64 := by split at h2 <;> omega
    have h3 : (0x3F#64).getLsbD i = false := by
      have : ∀ j < 64, 13 ≤ j → (0x3F#64).getLsbD j = false := by decide
      exact this i hi h1
    have h4 : (0x1FFF#64).getLsbD i = false := by
      have : ∀ j < 64, 13 ≤ j → (0x1FFF#64).getLsbD j = false := by decide
      exact this i hi h1
    simp only [State.enterRefill, Config.vppnField, BitVec.getLsbD_or, BitVec.getLsbD_and, BitVec.getLsbD_not, h3, h4, hi,
      decide_true, Bool.not_false, Bool.and_true, Bool.and_false, Bool.false_or]
    split at h2
    · rw [if_pos ‹_›, sextFrom, BitVec.getLsbD_sshiftRight, show decide (64 ≤ i) = false by simpa using hi,
        if_pos (by omega), BitVec.getLsbD_shiftLeft]
      simp [show 64 - s.cfg.valen + i < 64 by omega]
    · rw [if_neg ‹_›]
      simp [zextLow32, hi, h2]
  ps := by
    apply BitVec.eq_of_getLsbD_eq; intro i hi
    simp only [State.enterRefill, Config.vppnField, BitVec.getLsbD_extractLsb', hi, decide_true, Bool.true_and]
    interval_cases i <;> simp
  pc := rfl
  csr := rfl
  mmu := rfl
  gr := fun _ => rfl
  fr := fun _ => rfl
  cf := fun _ => rfl
  fcsr := rfl
  mem := fun _ => rfl
  units := ⟨rfl, rfl, rfl, rfl, rfl⟩
  reservation := ⟨rfl, rfl⟩
  idle := rfl
  dbg := noteDebug_spec rfl
  out := ⟨rfl, rfl, rfl, rfl, rfl, rfl⟩

/-- The refill exception of an executing instruction or of an access. -/
theorem takeExc_tlbr_spec (s : State) (fetch : Bool) (va : Word) :
    RefillEntry s (s.takeExc fetch (.tlbr va)) va ∧ (fetch = false → (s.takeExc fetch (.tlbr va)).csr.badi = s.curInsn) ∧
      (s.takeExc fetch (.tlbr va)).watch = s.watch := by
  have h := enterRefill_spec (s.recordBadi fetch) va
  refine ⟨?_, fun hf => by subst hf; rfl, by cases fetch <;> rfl⟩
  cases fetch <;> exact ⟨h.pplv, h.pwe, h.crmdLow, h.crmdMid, h.we, h.crmdHigh, h.era, h.isTlbr, h.badv, h.vppn, h.ps,
    h.pc, rfl, h.mmu, h.gr, h.fr, h.cf, h.fcsr, h.mem, h.units,
    h.reservation, h.idle,
    h.dbg.of_dbg rfl, ⟨h.out.cfg, h.out.extIrq, h.out.merrPending, h.out.inputs, h.out.debugCall, h.out.curInsn⟩⟩

/-- Machine error entry (R860), said once. -/
theorem enterMerr_spec (s : State) (ev : MerrEvent) : MerrEntry s (s.enterMerr ev) ev where
  plvIe := by
    apply BitVec.eq_of_getLsbD_eq; intro i hi
    simp only [State.enterMerr, BitVec.getLsbD_extractLsb', hi, decide_true, Bool.true_and, BitVec.getLsbD_append]
    interval_cases i <;> simp
  pwe := by simp only [State.enterMerr, BitVec.getLsbD_append]; simp
  mode := by
    apply BitVec.eq_of_getLsbD_eq; intro i hi
    simp only [State.enterMerr, BitVec.getLsbD_extractLsb', hi, decide_true, Bool.true_and, BitVec.getLsbD_append]
    interval_cases i <;> simp
  isMerr := by simp only [State.enterMerr, BitVec.getLsbD_append]; simp
  repairable := by simp only [State.enterMerr, BitVec.getLsbD_append]; simp
  cause := by
    apply BitVec.eq_of_getLsbD_eq; intro i hi
    simp only [State.enterMerr, BitVec.getLsbD_extractLsb', hi, decide_true, Bool.true_and, BitVec.getLsbD_append]
    interval_cases i <;> simp
  crmd := rfl
  era := rfl
  info := ⟨rfl, rfl⟩
  pc := rfl
  consumed := rfl
  csr := rfl
  ras := rfl
  mmu := rfl
  gr := fun _ => rfl
  fr := fun _ => rfl
  cf := fun _ => rfl
  fcsr := rfl
  mem := fun _ => rfl
  units := ⟨rfl, rfl, rfl, rfl⟩
  reservation := ⟨rfl, rfl⟩
  idle := rfl
  outside := ⟨rfl, rfl, rfl, rfl⟩
  dbg := noteDebug_spec rfl

/-- An instruction that makes its access first takes WPEM where the watchpoint test raises. -/
theorem takesWpem_of {i : Instr} {P : State → Prop} {acc : State → Access}
    (h : ∀ s, P s → ∃ k, exec i s = s.withAddrs (acc s) k) : TakesWpem i P acc := fun s ⟨hp, hw⟩ => by
  obtain ⟨k, hk⟩ := h s hp
  obtain ⟨t, h1, h2, h3, h4, h5, h6, h7⟩ := raise_spec (s := s) (acc s) .wpem (fun _ h => nomatch h)
  exact ⟨t, by rw [hk, withAddrs_watch hw, h1], h2, h3, h4, h5, h6, h7⟩

/-- VPPN as TLBEHI records it holds the bits of the address. -/
theorem vppnField_get {c : Config} (hv : c.valen ≤ 64) {va : Word} (hw : c.la64 = false → va = zextLow32 va) {j : Nat}
    (h1 : 13 ≤ j) (h2 : j < c.valen) : (c.vppnField va).getLsbD j = va.getLsbD j := by
  have h4 : (0x1FFF#64).getLsbD j = false := by
    have : ∀ j < 64, 13 ≤ j → (0x1FFF#64).getLsbD j = false := by decide
    exact this j (by omega) h1
  have hj : j < 64 := by omega
  unfold Config.vppnField
  rw [BitVec.getLsbD_and, BitVec.getLsbD_not, h4]
  split
  · rw [sextFrom, BitVec.getLsbD_sshiftRight, show decide (64 ≤ j) = false by simpa using hj, if_pos (by omega),
      BitVec.getLsbD_shiftLeft]
    simp [show 64 - c.valen + j < 64 by omega, hj]
  · rename_i h
    rw [← hw (by simpa using h)]
    simp [hj]

/-- In LA32 an address that `vaddr` gave has 32 bits. -/
theorem vaddr_la32 {s : State} (h : s.cfg.la64 = false) (a : Word) : s.vaddr a = zextLow32 (s.vaddr a) := by
  unfold State.vaddr Config.wrap zextLow32
  split <;> simp [h]

/-- An instruction that makes its access first takes the exceptions of its address part. -/
theorem takesAddressExceptions_of {i : Instr} {P : State → Prop} {acc : State → Access}
    (h : ∀ s, P s → ∃ k, exec i s = s.withAddrs (acc s) k) : TakesAddressExceptions i P acc := fun s hp hw => by
  obtain ⟨k, hk⟩ := h s hp
  refine ⟨fun va ha => ?_, fun va x hx ha => ?_⟩
  · obtain ⟨h1, h2, h3⟩ := takeExc_tlbr_spec (s.afterWatch (acc s)) false va
    exact ⟨_, by rw [hk, withAddrs_trap hw ha]; rfl, ⟨h1.pplv, h1.pwe, h1.crmdLow, h1.crmdMid, h1.we, h1.crmdHigh, h1.era,
      h1.isTlbr, h1.badv, h1.vppn, h1.ps, h1.pc, h1.csr, h1.mmu, h1.gr, h1.fr, h1.cf, h1.fcsr, h1.mem, h1.units,
      h1.reservation, h1.idle, h1.dbg.of_dbg rfl, ⟨h1.out.cfg, h1.out.extIrq, h1.out.merrPending, h1.out.inputs, h1.out.debugCall,
      h1.out.curInsn⟩⟩, h2 rfl, h3⟩
  · have hb : x.badVa = some va ∧ (∀ v, x ≠ .tlbr v) ∧
        (x ∈ [Exc.adem va, .ale va, .bce va] → x.isPage = false) ∧
        (x ∈ [Exc.pil va, .pis va, .pme va, .pnr va, .ppi va] → x.isPage = true) := by
      simp only [List.mem_cons, List.not_mem_nil, or_false] at hx
      rcases hx with rfl | rfl | rfl | rfl | rfl | rfl | rfl | rfl <;> simp [Exc.badVa, Exc.isPage]
    obtain ⟨t, h1, h2, h3, h4, h5, h6, h7⟩ := raise_spec (s := s) (acc s) x hb.2.1
    rw [hb.1] at h4 h6
    refine ⟨t, by rw [hk, withAddrs_trap hw ha, h1], h2, h3, h4, h5, h7, fun hm => ?_, fun hm => ?_⟩
    · rw [h6]; simp [hb.2.2.1 hm]
    · rw [h6]
      simp only [hb.2.2.2 hm, if_true, true_and]
      exact fun hv j h1 h2 => vppnField_get hv (fun hl => vaddr_la32 hl _) h1 h2

end Sys2Proof.Machine
end

