-- ==== Sys2Proof/Laws/Encoding.lean ====
section
/-!
SUPPORT. What an encoded word holds, layout by layout (spec/30_encoding.md R331-R334): the word as one number, and each
field of it read back at its place.
-/

namespace Sys2Proof

/-- The bits [hi:lo] of the word `n` are each `v`, for a list of (hi, lo, v). -/
def Agrees (n : Nat) : List (Nat × Nat × Nat) → Prop
  | [] => True
  | (hi, lo, v) :: fs => n / 2 ^ lo % 2 ^ (hi + 1 - lo) = v ∧ Agrees n fs

/-- A concatenation as a number. -/
theorem append_toNat {n m : Nat} (x : BitVec n) (y : BitVec m) :
    (x ++ y).toNat = x.toNat * 2 ^ m + y.toNat := by
  rw [BitVec.toNat_append, Nat.shiftLeft_eq, Nat.mul_comm, ← Nat.two_pow_add_eq_or_of_lt y.isLt]

/-- The word of this layout as a number. -/
theorem enc4R_toNat (p : BitVec 12) (a : BitVec 5) (k : BitVec 5) (j : BitVec 5) (d : BitVec 5) :
    (enc4R p a k j d).toNat = p.toNat * 1048576 + a.toNat * 32768 + k.toNat * 1024 + j.toNat * 32 + d.toNat := by
  have h0 := p.isLt
  have h1 := a.isLt
  have h2 := k.isLt
  have h3 := j.isLt
  have h4 := d.isLt
  rw [enc4R]
  simp only [append_toNat]
  omega

/-- Each field of this layout stands at its place. -/
theorem enc4R_agrees (p : BitVec 12) (a : BitVec 5) (k : BitVec 5) (j : BitVec 5) (d : BitVec 5) :
    Agrees (enc4R p a k j d).toNat
      [(31, 20, p.toNat), (19, 15, a.toNat), (14, 10, k.toNat), (9, 5, j.toNat), (4, 0, d.toNat)] := by
  have h0 := p.isLt
  have h1 := a.isLt
  have h2 := k.isLt
  have h3 := j.isLt
  have h4 := d.isLt
  simp only [Agrees, enc4R_toNat, Nat.reduceAdd, Nat.reduceSub, Nat.reducePow, and_true]
  omega

/-- The word of this layout as a number. -/
theorem enc3R_toNat (p : BitVec 17) (k : BitVec 5) (j : BitVec 5) (d : BitVec 5) :
    (enc3R p k j d).toNat = p.toNat * 32768 + k.toNat * 1024 + j.toNat * 32 + d.toNat := by
  have h0 := p.isLt
  have h1 := k.isLt
  have h2 := j.isLt
  have h3 := d.isLt
  rw [enc3R]
  simp only [append_toNat]
  omega

/-- Each field of this layout stands at its place. -/
theorem enc3R_agrees (p : BitVec 17) (k : BitVec 5) (j : BitVec 5) (d : BitVec 5) :
    Agrees (enc3R p k j d).toNat
      [(31, 15, p.toNat), (14, 10, k.toNat), (9, 5, j.toNat), (4, 0, d.toNat)] := by
  have h0 := p.isLt
  have h1 := k.isLt
  have h2 := j.isLt
  have h3 := d.isLt
  simp only [Agrees, enc3R_toNat, Nat.reduceAdd, Nat.reduceSub, Nat.reducePow, and_true]
  omega

/-- The word of this layout as a number. -/
theorem enc2R_toNat (p : BitVec 22) (j : BitVec 5) (d : BitVec 5) :
    (enc2R p j d).toNat = p.toNat * 1024 + j.toNat * 32 + d.toNat := by
  have h0 := p.isLt
  have h1 := j.isLt
  have h2 := d.isLt
  rw [enc2R]
  simp only [append_toNat]
  omega

/-- Each field of this layout stands at its place. -/
theorem enc2R_agrees (p : BitVec 22) (j : BitVec 5) (d : BitVec 5) :
    Agrees (enc2R p j d).toNat
      [(31, 10, p.toNat), (9, 5, j.toNat), (4, 0, d.toNat)] := by
  have h0 := p.isLt
  have h1 := j.isLt
  have h2 := d.isLt
  simp only [Agrees, enc2R_toNat, Nat.reduceAdd, Nat.reduceSub, Nat.reducePow, and_true]
  omega

/-- The word of this layout as a number. -/
theorem encSa2_toNat (p : BitVec 15) (sa : BitVec 2) (k : BitVec 5) (j : BitVec 5) (d : BitVec 5) :
    (encSa2 p sa k j d).toNat = p.toNat * 131072 + sa.toNat * 32768 + k.toNat * 1024 + j.toNat * 32 + d.toNat := by
  have h0 := p.isLt
  have h1 := sa.isLt
  have h2 := k.isLt
  have h3 := j.isLt
  have h4 := d.isLt
  rw [encSa2]
  simp only [append_toNat]
  omega

/-- Each field of this layout stands at its place. -/
theorem encSa2_agrees (p : BitVec 15) (sa : BitVec 2) (k : BitVec 5) (j : BitVec 5) (d : BitVec 5) :
    Agrees (encSa2 p sa k j d).toNat
      [(31, 17, p.toNat), (16, 15, sa.toNat), (14, 10, k.toNat), (9, 5, j.toNat), (4, 0, d.toNat)] := by
  have h0 := p.isLt
  have h1 := sa.isLt
  have h2 := k.isLt
  have h3 := j.isLt
  have h4 := d.isLt
  simp only [Agrees, encSa2_toNat, Nat.reduceAdd, Nat.reduceSub, Nat.reducePow, and_true]
  omega

/-- The word of this layout as a number. -/
theorem encSa3_toNat (p : BitVec 14) (sa : BitVec 3) (k : BitVec 5) (j : BitVec 5) (d : BitVec 5) :
    (encSa3 p sa k j d).toNat = p.toNat * 262144 + sa.toNat * 32768 + k.toNat * 1024 + j.toNat * 32 + d.toNat := by
  have h0 := p.isLt
  have h1 := sa.isLt
  have h2 := k.isLt
  have h3 := j.isLt
  have h4 := d.isLt
  rw [encSa3]
  simp only [append_toNat]
  omega

/-- Each field of this layout stands at its place. -/
theorem encSa3_agrees (p : BitVec 14) (sa : BitVec 3) (k : BitVec 5) (j : BitVec 5) (d : BitVec 5) :
    Agrees (encSa3 p sa k j d).toNat
      [(31, 18, p.toNat), (17, 15, sa.toNat), (14, 10, k.toNat), (9, 5, j.toNat), (4, 0, d.toNat)] := by
  have h0 := p.isLt
  have h1 := sa.isLt
  have h2 := k.isLt
  have h3 := j.isLt
  have h4 := d.isLt
  simp only [Agrees, encSa3_toNat, Nat.reduceAdd, Nat.reduceSub, Nat.reducePow, and_true]
  omega

/-- The word of this layout as a number. -/
theorem encU6_toNat (p : BitVec 16) (i : BitVec 6) (j : BitVec 5) (d : BitVec 5) :
    (encU6 p i j d).toNat = p.toNat * 65536 + i.toNat * 1024 + j.toNat * 32 + d.toNat := by
  have h0 := p.isLt
  have h1 := i.isLt
  have h2 := j.isLt
  have h3 := d.isLt
  rw [encU6]
  simp only [append_toNat]
  omega

/-- Each field of this layout stands at its place. -/
theorem encU6_agrees (p : BitVec 16) (i : BitVec 6) (j : BitVec 5) (d : BitVec 5) :
    Agrees (encU6 p i j d).toNat
      [(31, 16, p.toNat), (15, 10, i.toNat), (9, 5, j.toNat), (4, 0, d.toNat)] := by
  have h0 := p.isLt
  have h1 := i.isLt
  have h2 := j.isLt
  have h3 := d.isLt
  simp only [Agrees, encU6_toNat, Nat.reduceAdd, Nat.reduceSub, Nat.reducePow, and_true]
  omega

/-- The word of this layout as a number. -/
theorem encI8_toNat (p : BitVec 14) (i : BitVec 8) (j : BitVec 5) (d : BitVec 5) :
    (encI8 p i j d).toNat = p.toNat * 262144 + i.toNat * 1024 + j.toNat * 32 + d.toNat := by
  have h0 := p.isLt
  have h1 := i.isLt
  have h2 := j.isLt
  have h3 := d.isLt
  rw [encI8]
  simp only [append_toNat]
  omega

/-- Each field of this layout stands at its place. -/
theorem encI8_agrees (p : BitVec 14) (i : BitVec 8) (j : BitVec 5) (d : BitVec 5) :
    Agrees (encI8 p i j d).toNat
      [(31, 18, p.toNat), (17, 10, i.toNat), (9, 5, j.toNat), (4, 0, d.toNat)] := by
  have h0 := p.isLt
  have h1 := i.isLt
  have h2 := j.isLt
  have h3 := d.isLt
  simp only [Agrees, encI8_toNat, Nat.reduceAdd, Nat.reduceSub, Nat.reducePow, and_true]
  omega

/-- The word of this layout as a number. -/
theorem encI12_toNat (p : BitVec 10) (i : BitVec 12) (j : BitVec 5) (d : BitVec 5) :
    (encI12 p i j d).toNat = p.toNat * 4194304 + i.toNat * 1024 + j.toNat * 32 + d.toNat := by
  have h0 := p.isLt
  have h1 := i.isLt
  have h2 := j.isLt
  have h3 := d.isLt
  rw [encI12]
  simp only [append_toNat]
  omega

/-- Each field of this layout stands at its place. -/
theorem encI12_agrees (p : BitVec 10) (i : BitVec 12) (j : BitVec 5) (d : BitVec 5) :
    Agrees (encI12 p i j d).toNat
      [(31, 22, p.toNat), (21, 10, i.toNat), (9, 5, j.toNat), (4, 0, d.toNat)] := by
  have h0 := p.isLt
  have h1 := i.isLt
  have h2 := j.isLt
  have h3 := d.isLt
  simp only [Agrees, encI12_toNat, Nat.reduceAdd, Nat.reduceSub, Nat.reducePow, and_true]
  omega

/-- The word of this layout as a number. -/
theorem encI14_toNat (p : BitVec 8) (i : BitVec 14) (j : BitVec 5) (d : BitVec 5) :
    (encI14 p i j d).toNat = p.toNat * 16777216 + i.toNat * 1024 + j.toNat * 32 + d.toNat := by
  have h0 := p.isLt
  have h1 := i.isLt
  have h2 := j.isLt
  have h3 := d.isLt
  rw [encI14]
  simp only [append_toNat]
  omega

/-- Each field of this layout stands at its place. -/
theorem encI14_agrees (p : BitVec 8) (i : BitVec 14) (j : BitVec 5) (d : BitVec 5) :
    Agrees (encI14 p i j d).toNat
      [(31, 24, p.toNat), (23, 10, i.toNat), (9, 5, j.toNat), (4, 0, d.toNat)] := by
  have h0 := p.isLt
  have h1 := i.isLt
  have h2 := j.isLt
  have h3 := d.isLt
  simp only [Agrees, encI14_toNat, Nat.reduceAdd, Nat.reduceSub, Nat.reducePow, and_true]
  omega

/-- The word of this layout as a number. -/
theorem encI16_toNat (p : BitVec 6) (i : BitVec 16) (j : BitVec 5) (d : BitVec 5) :
    (encI16 p i j d).toNat = p.toNat * 67108864 + i.toNat * 1024 + j.toNat * 32 + d.toNat := by
  have h0 := p.isLt
  have h1 := i.isLt
  have h2 := j.isLt
  have h3 := d.isLt
  rw [encI16]
  simp only [append_toNat]
  omega

/-- Each field of this layout stands at its place. -/
theorem encI16_agrees (p : BitVec 6) (i : BitVec 16) (j : BitVec 5) (d : BitVec 5) :
    Agrees (encI16 p i j d).toNat
      [(31, 26, p.toNat), (25, 10, i.toNat), (9, 5, j.toNat), (4, 0, d.toNat)] := by
  have h0 := p.isLt
  have h1 := i.isLt
  have h2 := j.isLt
  have h3 := d.isLt
  simp only [Agrees, encI16_toNat, Nat.reduceAdd, Nat.reduceSub, Nat.reducePow, and_true]
  omega

/-- The word of this layout as a number. -/
theorem encI20_toNat (p : BitVec 7) (i : BitVec 20) (d : BitVec 5) :
    (encI20 p i d).toNat = p.toNat * 33554432 + i.toNat * 32 + d.toNat := by
  have h0 := p.isLt
  have h1 := i.isLt
  have h2 := d.isLt
  rw [encI20]
  simp only [append_toNat]
  omega

/-- Each field of this layout stands at its place. -/
theorem encI20_agrees (p : BitVec 7) (i : BitVec 20) (d : BitVec 5) :
    Agrees (encI20 p i d).toNat
      [(31, 25, p.toNat), (24, 5, i.toNat), (4, 0, d.toNat)] := by
  have h0 := p.isLt
  have h1 := i.isLt
  have h2 := d.isLt
  simp only [Agrees, encI20_toNat, Nat.reduceAdd, Nat.reduceSub, Nat.reducePow, and_true]
  omega

/-- The word of this layout as a number. -/
theorem encCode_toNat (p : BitVec 17) (c : BitVec 15) :
    (encCode p c).toNat = p.toNat * 32768 + c.toNat := by
  have h0 := p.isLt
  have h1 := c.isLt
  rw [encCode]
  simp only [append_toNat]
  omega

/-- Each field of this layout stands at its place. -/
theorem encCode_agrees (p : BitVec 17) (c : BitVec 15) :
    Agrees (encCode p c).toNat
      [(31, 15, p.toNat), (14, 0, c.toNat)] := by
  have h0 := p.isLt
  have h1 := c.isLt
  simp only [Agrees, encCode_toNat, Nat.reduceAdd, Nat.reduceSub, Nat.reducePow, and_true]
  omega

/-- The word of this layout as a number. -/
theorem encBstrD_toNat (p : BitVec 10) (msb : BitVec 6) (lsb : BitVec 6) (j : BitVec 5) (d : BitVec 5) :
    (encBstrD p msb lsb j d).toNat = p.toNat * 4194304 + msb.toNat * 65536 + lsb.toNat * 1024 + j.toNat * 32 + d.toNat := by
  have h0 := p.isLt
  have h1 := msb.isLt
  have h2 := lsb.isLt
  have h3 := j.isLt
  have h4 := d.isLt
  rw [encBstrD]
  simp only [append_toNat]
  omega

/-- Each field of this layout stands at its place. -/
theorem encBstrD_agrees (p : BitVec 10) (msb : BitVec 6) (lsb : BitVec 6) (j : BitVec 5) (d : BitVec 5) :
    Agrees (encBstrD p msb lsb j d).toNat
      [(31, 22, p.toNat), (21, 16, msb.toNat), (15, 10, lsb.toNat), (9, 5, j.toNat), (4, 0, d.toNat)] := by
  have h0 := p.isLt
  have h1 := msb.isLt
  have h2 := lsb.isLt
  have h3 := j.isLt
  have h4 := d.isLt
  simp only [Agrees, encBstrD_toNat, Nat.reduceAdd, Nat.reduceSub, Nat.reducePow, and_true]
  omega

/-- The word of this layout as a number. -/
theorem encBstrW_toNat (p : BitVec 11) (msb : BitVec 5) (sub : BitVec 1) (lsb : BitVec 5) (j : BitVec 5) (d : BitVec 5) :
    (encBstrW p msb sub lsb j d).toNat = p.toNat * 2097152 + msb.toNat * 65536 + sub.toNat * 32768 + lsb.toNat * 1024 + j.toNat * 32 + d.toNat := by
  have h0 := p.isLt
  have h1 := msb.isLt
  have h2 := sub.isLt
  have h3 := lsb.isLt
  have h4 := j.isLt
  have h5 := d.isLt
  rw [encBstrW]
  simp only [append_toNat]
  omega

/-- Each field of this layout stands at its place. -/
theorem encBstrW_agrees (p : BitVec 11) (msb : BitVec 5) (sub : BitVec 1) (lsb : BitVec 5) (j : BitVec 5) (d : BitVec 5) :
    Agrees (encBstrW p msb sub lsb j d).toNat
      [(31, 21, p.toNat), (20, 16, msb.toNat), (15, 15, sub.toNat), (14, 10, lsb.toNat), (9, 5, j.toNat), (4, 0, d.toNat)] := by
  have h0 := p.isLt
  have h1 := msb.isLt
  have h2 := sub.isLt
  have h3 := lsb.isLt
  have h4 := j.isLt
  have h5 := d.isLt
  simp only [Agrees, encBstrW_toNat, Nat.reduceAdd, Nat.reduceSub, Nat.reducePow, and_true]
  omega

/-- The word of this layout as a number. -/
theorem encOffs21_toNat (p : BitVec 6) (offs : BitVec 21) (j : BitVec 5) :
    (encOffs21 p offs j).toNat = p.toNat * 67108864 + (offs.toNat % 65536) * 1024 + j.toNat * 32 + offs.toNat / 65536 := by
  have h0 := p.isLt
  have h1 := offs.isLt
  have h2 := j.isLt
  rw [encOffs21]
  simp only [append_toNat, BitVec.extractLsb'_toNat, Nat.shiftRight_eq_div_pow]
  omega

/-- Each field of this layout stands at its place. -/
theorem encOffs21_agrees (p : BitVec 6) (offs : BitVec 21) (j : BitVec 5) :
    Agrees (encOffs21 p offs j).toNat
      [(31, 26, p.toNat), (25, 10, offs.toNat % 65536), (9, 5, j.toNat), (4, 0, offs.toNat / 65536)] := by
  have h0 := p.isLt
  have h1 := offs.isLt
  have h2 := j.isLt
  simp only [Agrees, encOffs21_toNat, Nat.reduceAdd, Nat.reduceSub, Nat.reducePow, and_true]
  have hl : offs.toNat % 65536 < 65536 := Nat.mod_lt _ (by decide)
  have hh : offs.toNat / 65536 < 32 := by omega
  generalize offs.toNat % 65536 = lo at *
  generalize offs.toNat / 65536 = hi at *
  omega

/-- The word of this layout as a number. -/
theorem encOffs26_toNat (p : BitVec 6) (offs : BitVec 26) :
    (encOffs26 p offs).toNat = p.toNat * 67108864 + (offs.toNat % 65536) * 1024 + offs.toNat / 65536 := by
  have h0 := p.isLt
  have h1 := offs.isLt
  rw [encOffs26]
  simp only [append_toNat, BitVec.extractLsb'_toNat, Nat.shiftRight_eq_div_pow]
  omega

/-- Each field of this layout stands at its place. -/
theorem encOffs26_agrees (p : BitVec 6) (offs : BitVec 26) :
    Agrees (encOffs26 p offs).toNat
      [(31, 26, p.toNat), (25, 10, offs.toNat % 65536), (9, 0, offs.toNat / 65536)] := by
  have h0 := p.isLt
  have h1 := offs.isLt
  simp only [Agrees, encOffs26_toNat, Nat.reduceAdd, Nat.reduceSub, Nat.reducePow, and_true]
  have hl : offs.toNat % 65536 < 65536 := Nat.mod_lt _ (by decide)
  have hh : offs.toNat / 65536 < 1024 := by omega
  generalize offs.toNat % 65536 = lo at *
  generalize offs.toNat / 65536 = hi at *
  omega

/-- A condition flag's number with two bits above it, as a 5-bit register field. -/
theorem flagField_toNat (h : BitVec 2) (c : BitVec 3) :
    BitVec.toNat (w := 5) (h ++ c) = h.toNat * 8 + c.toNat := append_toNat h c

end Sys2Proof
end

