-- ==== Sys2Proof/Laws/PerInstr.lean ====
section
/-!
SUPPORT. The per-instruction family `OpcodeRow`: an instruction's encoded word agrees with the whole row that
spec/opcode_table.json gives its mnemonic (R330-R336). `tableFields` is copied from the table's `fixed` and `fields`
entries and knows nothing of the encoder, so a prefix or a field at a wrong place would make its lemma fail.
-/

namespace Sys2Proof.Laws.OpcodeRow

/-- The fields of an instruction's row of spec/opcode_table.json, fixed bits included: (hi, lo, value). -/
def tableFields : Instr → List (Nat × Nat × Nat)
  | .addW rd rj rk => [(31, 15, 32), (14, 10, rk.toNat), (9, 5, rj.toNat), (4, 0, rd.toNat)]
  | .subW rd rj rk => [(31, 15, 34), (14, 10, rk.toNat), (9, 5, rj.toNat), (4, 0, rd.toNat)]
  | .addD rd rj rk => [(31, 15, 33), (14, 10, rk.toNat), (9, 5, rj.toNat), (4, 0, rd.toNat)]
  | .subD rd rj rk => [(31, 15, 35), (14, 10, rk.toNat), (9, 5, rj.toNat), (4, 0, rd.toNat)]
  | .addiW rd rj i12 => [(31, 22, 10), (21, 10, i12.toNat), (9, 5, rj.toNat), (4, 0, rd.toNat)]
  | .addiD rd rj i12 => [(31, 22, 11), (21, 10, i12.toNat), (9, 5, rj.toNat), (4, 0, rd.toNat)]
  | .addu16iD rd rj i16 => [(31, 26, 4), (25, 10, i16.toNat), (9, 5, rj.toNat), (4, 0, rd.toNat)]
  | .alslW rd rj rk sa2 => [(31, 17, 2), (16, 15, sa2.toNat), (14, 10, rk.toNat), (9, 5, rj.toNat), (4, 0, rd.toNat)]
  | .alslWu rd rj rk sa2 => [(31, 17, 3), (16, 15, sa2.toNat), (14, 10, rk.toNat), (9, 5, rj.toNat), (4, 0, rd.toNat)]
  | .alslD rd rj rk sa2 => [(31, 17, 22), (16, 15, sa2.toNat), (14, 10, rk.toNat), (9, 5, rj.toNat), (4, 0, rd.toNat)]
  | .lu12iW rd si20 => [(31, 25, 10), (24, 5, si20.toNat), (4, 0, rd.toNat)]
  | .lu32iD rd si20 => [(31, 25, 11), (24, 5, si20.toNat), (4, 0, rd.toNat)]
  | .lu52iD rd rj i12 => [(31, 22, 12), (21, 10, i12.toNat), (9, 5, rj.toNat), (4, 0, rd.toNat)]
  | .slt rd rj rk => [(31, 15, 36), (14, 10, rk.toNat), (9, 5, rj.toNat), (4, 0, rd.toNat)]
  | .sltu rd rj rk => [(31, 15, 37), (14, 10, rk.toNat), (9, 5, rj.toNat), (4, 0, rd.toNat)]
  | .slti rd rj i12 => [(31, 22, 8), (21, 10, i12.toNat), (9, 5, rj.toNat), (4, 0, rd.toNat)]
  | .sltui rd rj i12 => [(31, 22, 9), (21, 10, i12.toNat), (9, 5, rj.toNat), (4, 0, rd.toNat)]
  | .pcaddi rd si20 => [(31, 25, 12), (24, 5, si20.toNat), (4, 0, rd.toNat)]
  | .pcaddu12i rd si20 => [(31, 25, 14), (24, 5, si20.toNat), (4, 0, rd.toNat)]
  | .pcaddu18i rd si20 => [(31, 25, 15), (24, 5, si20.toNat), (4, 0, rd.toNat)]
  | .pcalau12i rd si20 => [(31, 25, 13), (24, 5, si20.toNat), (4, 0, rd.toNat)]
  | .and rd rj rk => [(31, 15, 41), (14, 10, rk.toNat), (9, 5, rj.toNat), (4, 0, rd.toNat)]
  | .or rd rj rk => [(31, 15, 42), (14, 10, rk.toNat), (9, 5, rj.toNat), (4, 0, rd.toNat)]
  | .nor rd rj rk => [(31, 15, 40), (14, 10, rk.toNat), (9, 5, rj.toNat), (4, 0, rd.toNat)]
  | .xor rd rj rk => [(31, 15, 43), (14, 10, rk.toNat), (9, 5, rj.toNat), (4, 0, rd.toNat)]
  | .andn rd rj rk => [(31, 15, 45), (14, 10, rk.toNat), (9, 5, rj.toNat), (4, 0, rd.toNat)]
  | .orn rd rj rk => [(31, 15, 44), (14, 10, rk.toNat), (9, 5, rj.toNat), (4, 0, rd.toNat)]
  | .andi rd rj i12 => [(31, 22, 13), (21, 10, i12.toNat), (9, 5, rj.toNat), (4, 0, rd.toNat)]
  | .ori rd rj i12 => [(31, 22, 14), (21, 10, i12.toNat), (9, 5, rj.toNat), (4, 0, rd.toNat)]
  | .xori rd rj i12 => [(31, 22, 15), (21, 10, i12.toNat), (9, 5, rj.toNat), (4, 0, rd.toNat)]
  | .mulW rd rj rk => [(31, 15, 56), (14, 10, rk.toNat), (9, 5, rj.toNat), (4, 0, rd.toNat)]
  | .mulhW rd rj rk => [(31, 15, 57), (14, 10, rk.toNat), (9, 5, rj.toNat), (4, 0, rd.toNat)]
  | .mulhWu rd rj rk => [(31, 15, 58), (14, 10, rk.toNat), (9, 5, rj.toNat), (4, 0, rd.toNat)]
  | .mulD rd rj rk => [(31, 15, 59), (14, 10, rk.toNat), (9, 5, rj.toNat), (4, 0, rd.toNat)]
  | .mulhD rd rj rk => [(31, 15, 60), (14, 10, rk.toNat), (9, 5, rj.toNat), (4, 0, rd.toNat)]
  | .mulhDu rd rj rk => [(31, 15, 61), (14, 10, rk.toNat), (9, 5, rj.toNat), (4, 0, rd.toNat)]
  | .mulwDW rd rj rk => [(31, 15, 62), (14, 10, rk.toNat), (9, 5, rj.toNat), (4, 0, rd.toNat)]
  | .mulwDWu rd rj rk => [(31, 15, 63), (14, 10, rk.toNat), (9, 5, rj.toNat), (4, 0, rd.toNat)]
  | .divW rd rj rk => [(31, 15, 64), (14, 10, rk.toNat), (9, 5, rj.toNat), (4, 0, rd.toNat)]
  | .modW rd rj rk => [(31, 15, 65), (14, 10, rk.toNat), (9, 5, rj.toNat), (4, 0, rd.toNat)]
  | .divWu rd rj rk => [(31, 15, 66), (14, 10, rk.toNat), (9, 5, rj.toNat), (4, 0, rd.toNat)]
  | .modWu rd rj rk => [(31, 15, 67), (14, 10, rk.toNat), (9, 5, rj.toNat), (4, 0, rd.toNat)]
  | .divD rd rj rk => [(31, 15, 68), (14, 10, rk.toNat), (9, 5, rj.toNat), (4, 0, rd.toNat)]
  | .modD rd rj rk => [(31, 15, 69), (14, 10, rk.toNat), (9, 5, rj.toNat), (4, 0, rd.toNat)]
  | .divDu rd rj rk => [(31, 15, 70), (14, 10, rk.toNat), (9, 5, rj.toNat), (4, 0, rd.toNat)]
  | .modDu rd rj rk => [(31, 15, 71), (14, 10, rk.toNat), (9, 5, rj.toNat), (4, 0, rd.toNat)]
  | .sllW rd rj rk => [(31, 15, 46), (14, 10, rk.toNat), (9, 5, rj.toNat), (4, 0, rd.toNat)]
  | .srlW rd rj rk => [(31, 15, 47), (14, 10, rk.toNat), (9, 5, rj.toNat), (4, 0, rd.toNat)]
  | .sraW rd rj rk => [(31, 15, 48), (14, 10, rk.toNat), (9, 5, rj.toNat), (4, 0, rd.toNat)]
  | .rotrW rd rj rk => [(31, 15, 54), (14, 10, rk.toNat), (9, 5, rj.toNat), (4, 0, rd.toNat)]
  | .slliW rd rj ui5 => [(31, 15, 129), (14, 10, ui5.toNat), (9, 5, rj.toNat), (4, 0, rd.toNat)]
  | .srliW rd rj ui5 => [(31, 15, 137), (14, 10, ui5.toNat), (9, 5, rj.toNat), (4, 0, rd.toNat)]
  | .sraiW rd rj ui5 => [(31, 15, 145), (14, 10, ui5.toNat), (9, 5, rj.toNat), (4, 0, rd.toNat)]
  | .rotriW rd rj ui5 => [(31, 15, 153), (14, 10, ui5.toNat), (9, 5, rj.toNat), (4, 0, rd.toNat)]
  | .sllD rd rj rk => [(31, 15, 49), (14, 10, rk.toNat), (9, 5, rj.toNat), (4, 0, rd.toNat)]
  | .srlD rd rj rk => [(31, 15, 50), (14, 10, rk.toNat), (9, 5, rj.toNat), (4, 0, rd.toNat)]
  | .sraD rd rj rk => [(31, 15, 51), (14, 10, rk.toNat), (9, 5, rj.toNat), (4, 0, rd.toNat)]
  | .rotrD rd rj rk => [(31, 15, 55), (14, 10, rk.toNat), (9, 5, rj.toNat), (4, 0, rd.toNat)]
  | .slliD rd rj ui6 => [(31, 16, 65), (15, 10, ui6.toNat), (9, 5, rj.toNat), (4, 0, rd.toNat)]
  | .srliD rd rj ui6 => [(31, 16, 69), (15, 10, ui6.toNat), (9, 5, rj.toNat), (4, 0, rd.toNat)]
  | .sraiD rd rj ui6 => [(31, 16, 73), (15, 10, ui6.toNat), (9, 5, rj.toNat), (4, 0, rd.toNat)]
  | .rotriD rd rj ui6 => [(31, 16, 77), (15, 10, ui6.toNat), (9, 5, rj.toNat), (4, 0, rd.toNat)]
  | .extWB rd rj => [(31, 10, 23), (9, 5, rj.toNat), (4, 0, rd.toNat)]
  | .extWH rd rj => [(31, 10, 22), (9, 5, rj.toNat), (4, 0, rd.toNat)]
  | .cloW rd rj => [(31, 10, 4), (9, 5, rj.toNat), (4, 0, rd.toNat)]
  | .clzW rd rj => [(31, 10, 5), (9, 5, rj.toNat), (4, 0, rd.toNat)]
  | .ctoW rd rj => [(31, 10, 6), (9, 5, rj.toNat), (4, 0, rd.toNat)]
  | .ctzW rd rj => [(31, 10, 7), (9, 5, rj.toNat), (4, 0, rd.toNat)]
  | .cloD rd rj => [(31, 10, 8), (9, 5, rj.toNat), (4, 0, rd.toNat)]
  | .clzD rd rj => [(31, 10, 9), (9, 5, rj.toNat), (4, 0, rd.toNat)]
  | .ctoD rd rj => [(31, 10, 10), (9, 5, rj.toNat), (4, 0, rd.toNat)]
  | .ctzD rd rj => [(31, 10, 11), (9, 5, rj.toNat), (4, 0, rd.toNat)]
  | .bytepickW rd rj rk sa2 => [(31, 17, 4), (16, 15, sa2.toNat), (14, 10, rk.toNat), (9, 5, rj.toNat), (4, 0, rd.toNat)]
  | .bytepickD rd rj rk sa3 => [(31, 18, 3), (17, 15, sa3.toNat), (14, 10, rk.toNat), (9, 5, rj.toNat), (4, 0, rd.toNat)]
  | .revb2h rd rj => [(31, 10, 12), (9, 5, rj.toNat), (4, 0, rd.toNat)]
  | .revb4h rd rj => [(31, 10, 13), (9, 5, rj.toNat), (4, 0, rd.toNat)]
  | .revb2w rd rj => [(31, 10, 14), (9, 5, rj.toNat), (4, 0, rd.toNat)]
  | .revbD rd rj => [(31, 10, 15), (9, 5, rj.toNat), (4, 0, rd.toNat)]
  | .revh2w rd rj => [(31, 10, 16), (9, 5, rj.toNat), (4, 0, rd.toNat)]
  | .revhD rd rj => [(31, 10, 17), (9, 5, rj.toNat), (4, 0, rd.toNat)]
  | .bitrev4b rd rj => [(31, 10, 18), (9, 5, rj.toNat), (4, 0, rd.toNat)]
  | .bitrev8b rd rj => [(31, 10, 19), (9, 5, rj.toNat), (4, 0, rd.toNat)]
  | .bitrevW rd rj => [(31, 10, 20), (9, 5, rj.toNat), (4, 0, rd.toNat)]
  | .bitrevD rd rj => [(31, 10, 21), (9, 5, rj.toNat), (4, 0, rd.toNat)]
  | .bstrinsW rd rj lsbw msbw => [(31, 21, 3), (20, 16, msbw.toNat), (15, 15, 0), (14, 10, lsbw.toNat), (9, 5, rj.toNat), (4, 0, rd.toNat)]
  | .bstrinsD rd rj lsbd msbd => [(31, 22, 2), (21, 16, msbd.toNat), (15, 10, lsbd.toNat), (9, 5, rj.toNat), (4, 0, rd.toNat)]
  | .bstrpickW rd rj lsbw msbw => [(31, 21, 3), (20, 16, msbw.toNat), (15, 15, 1), (14, 10, lsbw.toNat), (9, 5, rj.toNat), (4, 0, rd.toNat)]
  | .bstrpickD rd rj lsbd msbd => [(31, 22, 3), (21, 16, msbd.toNat), (15, 10, lsbd.toNat), (9, 5, rj.toNat), (4, 0, rd.toNat)]
  | .maskeqz rd rj rk => [(31, 15, 38), (14, 10, rk.toNat), (9, 5, rj.toNat), (4, 0, rd.toNat)]
  | .masknez rd rj rk => [(31, 15, 39), (14, 10, rk.toNat), (9, 5, rj.toNat), (4, 0, rd.toNat)]
  | .beq rd rj i16 => [(31, 26, 22), (25, 10, i16.toNat), (9, 5, rj.toNat), (4, 0, rd.toNat)]
  | .bne rd rj i16 => [(31, 26, 23), (25, 10, i16.toNat), (9, 5, rj.toNat), (4, 0, rd.toNat)]
  | .blt rd rj i16 => [(31, 26, 24), (25, 10, i16.toNat), (9, 5, rj.toNat), (4, 0, rd.toNat)]
  | .bge rd rj i16 => [(31, 26, 25), (25, 10, i16.toNat), (9, 5, rj.toNat), (4, 0, rd.toNat)]
  | .bltu rd rj i16 => [(31, 26, 26), (25, 10, i16.toNat), (9, 5, rj.toNat), (4, 0, rd.toNat)]
  | .bgeu rd rj i16 => [(31, 26, 27), (25, 10, i16.toNat), (9, 5, rj.toNat), (4, 0, rd.toNat)]
  | .beqz rj offs => [(31, 26, 16), (25, 10, offs.toNat % 65536), (9, 5, rj.toNat), (4, 0, offs.toNat / 65536)]
  | .bnez rj offs => [(31, 26, 17), (25, 10, offs.toNat % 65536), (9, 5, rj.toNat), (4, 0, offs.toNat / 65536)]
  | .b offs => [(31, 26, 20), (25, 10, offs.toNat % 65536), (9, 0, offs.toNat / 65536)]
  | .bl offs => [(31, 26, 21), (25, 10, offs.toNat % 65536), (9, 0, offs.toNat / 65536)]
  | .jirl rd rj i16 => [(31, 26, 19), (25, 10, i16.toNat), (9, 5, rj.toNat), (4, 0, rd.toNat)]
  | .ldB rd rj i12 => [(31, 22, 160), (21, 10, i12.toNat), (9, 5, rj.toNat), (4, 0, rd.toNat)]
  | .ldH rd rj i12 => [(31, 22, 161), (21, 10, i12.toNat), (9, 5, rj.toNat), (4, 0, rd.toNat)]
  | .ldW rd rj i12 => [(31, 22, 162), (21, 10, i12.toNat), (9, 5, rj.toNat), (4, 0, rd.toNat)]
  | .ldD rd rj i12 => [(31, 22, 163), (21, 10, i12.toNat), (9, 5, rj.toNat), (4, 0, rd.toNat)]
  | .ldBu rd rj i12 => [(31, 22, 168), (21, 10, i12.toNat), (9, 5, rj.toNat), (4, 0, rd.toNat)]
  | .ldHu rd rj i12 => [(31, 22, 169), (21, 10, i12.toNat), (9, 5, rj.toNat), (4, 0, rd.toNat)]
  | .ldWu rd rj i12 => [(31, 22, 170), (21, 10, i12.toNat), (9, 5, rj.toNat), (4, 0, rd.toNat)]
  | .stB rd rj i12 => [(31, 22, 164), (21, 10, i12.toNat), (9, 5, rj.toNat), (4, 0, rd.toNat)]
  | .stH rd rj i12 => [(31, 22, 165), (21, 10, i12.toNat), (9, 5, rj.toNat), (4, 0, rd.toNat)]
  | .stW rd rj i12 => [(31, 22, 166), (21, 10, i12.toNat), (9, 5, rj.toNat), (4, 0, rd.toNat)]
  | .stD rd rj i12 => [(31, 22, 167), (21, 10, i12.toNat), (9, 5, rj.toNat), (4, 0, rd.toNat)]
  | .ldxB rd rj rk => [(31, 15, 28672), (14, 10, rk.toNat), (9, 5, rj.toNat), (4, 0, rd.toNat)]
  | .ldxH rd rj rk => [(31, 15, 28680), (14, 10, rk.toNat), (9, 5, rj.toNat), (4, 0, rd.toNat)]
  | .ldxW rd rj rk => [(31, 15, 28688), (14, 10, rk.toNat), (9, 5, rj.toNat), (4, 0, rd.toNat)]
  | .ldxD rd rj rk => [(31, 15, 28696), (14, 10, rk.toNat), (9, 5, rj.toNat), (4, 0, rd.toNat)]
  | .ldxBu rd rj rk => [(31, 15, 28736), (14, 10, rk.toNat), (9, 5, rj.toNat), (4, 0, rd.toNat)]
  | .ldxHu rd rj rk => [(31, 15, 28744), (14, 10, rk.toNat), (9, 5, rj.toNat), (4, 0, rd.toNat)]
  | .ldxWu rd rj rk => [(31, 15, 28752), (14, 10, rk.toNat), (9, 5, rj.toNat), (4, 0, rd.toNat)]
  | .stxB rd rj rk => [(31, 15, 28704), (14, 10, rk.toNat), (9, 5, rj.toNat), (4, 0, rd.toNat)]
  | .stxH rd rj rk => [(31, 15, 28712), (14, 10, rk.toNat), (9, 5, rj.toNat), (4, 0, rd.toNat)]
  | .stxW rd rj rk => [(31, 15, 28720), (14, 10, rk.toNat), (9, 5, rj.toNat), (4, 0, rd.toNat)]
  | .stxD rd rj rk => [(31, 15, 28728), (14, 10, rk.toNat), (9, 5, rj.toNat), (4, 0, rd.toNat)]
  | .ldptrW rd rj i14 => [(31, 24, 36), (23, 10, i14.toNat), (9, 5, rj.toNat), (4, 0, rd.toNat)]
  | .ldptrD rd rj i14 => [(31, 24, 38), (23, 10, i14.toNat), (9, 5, rj.toNat), (4, 0, rd.toNat)]
  | .stptrW rd rj i14 => [(31, 24, 37), (23, 10, i14.toNat), (9, 5, rj.toNat), (4, 0, rd.toNat)]
  | .stptrD rd rj i14 => [(31, 24, 39), (23, 10, i14.toNat), (9, 5, rj.toNat), (4, 0, rd.toNat)]
  | .preld hint rj i12 => [(31, 22, 171), (21, 10, i12.toNat), (9, 5, rj.toNat), (4, 0, hint.toNat)]
  | .preldx hint rj rk => [(31, 15, 28760), (14, 10, rk.toNat), (9, 5, rj.toNat), (4, 0, hint.toNat)]
  | .ldgtB rd rj rk => [(31, 15, 28912), (14, 10, rk.toNat), (9, 5, rj.toNat), (4, 0, rd.toNat)]
  | .ldgtH rd rj rk => [(31, 15, 28913), (14, 10, rk.toNat), (9, 5, rj.toNat), (4, 0, rd.toNat)]
  | .ldgtW rd rj rk => [(31, 15, 28914), (14, 10, rk.toNat), (9, 5, rj.toNat), (4, 0, rd.toNat)]
  | .ldgtD rd rj rk => [(31, 15, 28915), (14, 10, rk.toNat), (9, 5, rj.toNat), (4, 0, rd.toNat)]
  | .ldleB rd rj rk => [(31, 15, 28916), (14, 10, rk.toNat), (9, 5, rj.toNat), (4, 0, rd.toNat)]
  | .ldleH rd rj rk => [(31, 15, 28917), (14, 10, rk.toNat), (9, 5, rj.toNat), (4, 0, rd.toNat)]
  | .ldleW rd rj rk => [(31, 15, 28918), (14, 10, rk.toNat), (9, 5, rj.toNat), (4, 0, rd.toNat)]
  | .ldleD rd rj rk => [(31, 15, 28919), (14, 10, rk.toNat), (9, 5, rj.toNat), (4, 0, rd.toNat)]
  | .stgtB rd rj rk => [(31, 15, 28920), (14, 10, rk.toNat), (9, 5, rj.toNat), (4, 0, rd.toNat)]
  | .stgtH rd rj rk => [(31, 15, 28921), (14, 10, rk.toNat), (9, 5, rj.toNat), (4, 0, rd.toNat)]
  | .stgtW rd rj rk => [(31, 15, 28922), (14, 10, rk.toNat), (9, 5, rj.toNat), (4, 0, rd.toNat)]
  | .stgtD rd rj rk => [(31, 15, 28923), (14, 10, rk.toNat), (9, 5, rj.toNat), (4, 0, rd.toNat)]
  | .stleB rd rj rk => [(31, 15, 28924), (14, 10, rk.toNat), (9, 5, rj.toNat), (4, 0, rd.toNat)]
  | .stleH rd rj rk => [(31, 15, 28925), (14, 10, rk.toNat), (9, 5, rj.toNat), (4, 0, rd.toNat)]
  | .stleW rd rj rk => [(31, 15, 28926), (14, 10, rk.toNat), (9, 5, rj.toNat), (4, 0, rd.toNat)]
  | .stleD rd rj rk => [(31, 15, 28927), (14, 10, rk.toNat), (9, 5, rj.toNat), (4, 0, rd.toNat)]
  | .amswapW rd rj rk => [(31, 15, 28864), (14, 10, rk.toNat), (9, 5, rj.toNat), (4, 0, rd.toNat)]
  | .amswapD rd rj rk => [(31, 15, 28865), (14, 10, rk.toNat), (9, 5, rj.toNat), (4, 0, rd.toNat)]
  | .amaddW rd rj rk => [(31, 15, 28866), (14, 10, rk.toNat), (9, 5, rj.toNat), (4, 0, rd.toNat)]
  | .amaddD rd rj rk => [(31, 15, 28867), (14, 10, rk.toNat), (9, 5, rj.toNat), (4, 0, rd.toNat)]
  | .amandW rd rj rk => [(31, 15, 28868), (14, 10, rk.toNat), (9, 5, rj.toNat), (4, 0, rd.toNat)]
  | .amandD rd rj rk => [(31, 15, 28869), (14, 10, rk.toNat), (9, 5, rj.toNat), (4, 0, rd.toNat)]
  | .amorW rd rj rk => [(31, 15, 28870), (14, 10, rk.toNat), (9, 5, rj.toNat), (4, 0, rd.toNat)]
  | .amorD rd rj rk => [(31, 15, 28871), (14, 10, rk.toNat), (9, 5, rj.toNat), (4, 0, rd.toNat)]
  | .amxorW rd rj rk => [(31, 15, 28872), (14, 10, rk.toNat), (9, 5, rj.toNat), (4, 0, rd.toNat)]
  | .amxorD rd rj rk => [(31, 15, 28873), (14, 10, rk.toNat), (9, 5, rj.toNat), (4, 0, rd.toNat)]
  | .ammaxW rd rj rk => [(31, 15, 28874), (14, 10, rk.toNat), (9, 5, rj.toNat), (4, 0, rd.toNat)]
  | .ammaxD rd rj rk => [(31, 15, 28875), (14, 10, rk.toNat), (9, 5, rj.toNat), (4, 0, rd.toNat)]
  | .amminW rd rj rk => [(31, 15, 28876), (14, 10, rk.toNat), (9, 5, rj.toNat), (4, 0, rd.toNat)]
  | .amminD rd rj rk => [(31, 15, 28877), (14, 10, rk.toNat), (9, 5, rj.toNat), (4, 0, rd.toNat)]
  | .ammaxWu rd rj rk => [(31, 15, 28878), (14, 10, rk.toNat), (9, 5, rj.toNat), (4, 0, rd.toNat)]
  | .ammaxDu rd rj rk => [(31, 15, 28879), (14, 10, rk.toNat), (9, 5, rj.toNat), (4, 0, rd.toNat)]
  | .amminWu rd rj rk => [(31, 15, 28880), (14, 10, rk.toNat), (9, 5, rj.toNat), (4, 0, rd.toNat)]
  | .amminDu rd rj rk => [(31, 15, 28881), (14, 10, rk.toNat), (9, 5, rj.toNat), (4, 0, rd.toNat)]
  | .amswapDbW rd rj rk => [(31, 15, 28882), (14, 10, rk.toNat), (9, 5, rj.toNat), (4, 0, rd.toNat)]
  | .amswapDbD rd rj rk => [(31, 15, 28883), (14, 10, rk.toNat), (9, 5, rj.toNat), (4, 0, rd.toNat)]
  | .amaddDbW rd rj rk => [(31, 15, 28884), (14, 10, rk.toNat), (9, 5, rj.toNat), (4, 0, rd.toNat)]
  | .amaddDbD rd rj rk => [(31, 15, 28885), (14, 10, rk.toNat), (9, 5, rj.toNat), (4, 0, rd.toNat)]
  | .amandDbW rd rj rk => [(31, 15, 28886), (14, 10, rk.toNat), (9, 5, rj.toNat), (4, 0, rd.toNat)]
  | .amandDbD rd rj rk => [(31, 15, 28887), (14, 10, rk.toNat), (9, 5, rj.toNat), (4, 0, rd.toNat)]
  | .amorDbW rd rj rk => [(31, 15, 28888), (14, 10, rk.toNat), (9, 5, rj.toNat), (4, 0, rd.toNat)]
  | .amorDbD rd rj rk => [(31, 15, 28889), (14, 10, rk.toNat), (9, 5, rj.toNat), (4, 0, rd.toNat)]
  | .amxorDbW rd rj rk => [(31, 15, 28890), (14, 10, rk.toNat), (9, 5, rj.toNat), (4, 0, rd.toNat)]
  | .amxorDbD rd rj rk => [(31, 15, 28891), (14, 10, rk.toNat), (9, 5, rj.toNat), (4, 0, rd.toNat)]
  | .ammaxDbW rd rj rk => [(31, 15, 28892), (14, 10, rk.toNat), (9, 5, rj.toNat), (4, 0, rd.toNat)]
  | .ammaxDbD rd rj rk => [(31, 15, 28893), (14, 10, rk.toNat), (9, 5, rj.toNat), (4, 0, rd.toNat)]
  | .amminDbW rd rj rk => [(31, 15, 28894), (14, 10, rk.toNat), (9, 5, rj.toNat), (4, 0, rd.toNat)]
  | .amminDbD rd rj rk => [(31, 15, 28895), (14, 10, rk.toNat), (9, 5, rj.toNat), (4, 0, rd.toNat)]
  | .ammaxDbWu rd rj rk => [(31, 15, 28896), (14, 10, rk.toNat), (9, 5, rj.toNat), (4, 0, rd.toNat)]
  | .ammaxDbDu rd rj rk => [(31, 15, 28897), (14, 10, rk.toNat), (9, 5, rj.toNat), (4, 0, rd.toNat)]
  | .amminDbWu rd rj rk => [(31, 15, 28898), (14, 10, rk.toNat), (9, 5, rj.toNat), (4, 0, rd.toNat)]
  | .amminDbDu rd rj rk => [(31, 15, 28899), (14, 10, rk.toNat), (9, 5, rj.toNat), (4, 0, rd.toNat)]
  | .llW rd rj i14 => [(31, 24, 32), (23, 10, i14.toNat), (9, 5, rj.toNat), (4, 0, rd.toNat)]
  | .scW rd rj i14 => [(31, 24, 33), (23, 10, i14.toNat), (9, 5, rj.toNat), (4, 0, rd.toNat)]
  | .llD rd rj i14 => [(31, 24, 34), (23, 10, i14.toNat), (9, 5, rj.toNat), (4, 0, rd.toNat)]
  | .scD rd rj i14 => [(31, 24, 35), (23, 10, i14.toNat), (9, 5, rj.toNat), (4, 0, rd.toNat)]
  | .dbar code => [(31, 15, 28900), (14, 0, code.toNat)]
  | .ibar code => [(31, 15, 28901), (14, 0, code.toNat)]
  | .crcWBW rd rj rk => [(31, 15, 72), (14, 10, rk.toNat), (9, 5, rj.toNat), (4, 0, rd.toNat)]
  | .crcWHW rd rj rk => [(31, 15, 73), (14, 10, rk.toNat), (9, 5, rj.toNat), (4, 0, rd.toNat)]
  | .crcWWW rd rj rk => [(31, 15, 74), (14, 10, rk.toNat), (9, 5, rj.toNat), (4, 0, rd.toNat)]
  | .crcWDW rd rj rk => [(31, 15, 75), (14, 10, rk.toNat), (9, 5, rj.toNat), (4, 0, rd.toNat)]
  | .crccWBW rd rj rk => [(31, 15, 76), (14, 10, rk.toNat), (9, 5, rj.toNat), (4, 0, rd.toNat)]
  | .crccWHW rd rj rk => [(31, 15, 77), (14, 10, rk.toNat), (9, 5, rj.toNat), (4, 0, rd.toNat)]
  | .crccWWW rd rj rk => [(31, 15, 78), (14, 10, rk.toNat), (9, 5, rj.toNat), (4, 0, rd.toNat)]
  | .crccWDW rd rj rk => [(31, 15, 79), (14, 10, rk.toNat), (9, 5, rj.toNat), (4, 0, rd.toNat)]
  | .syscall code => [(31, 15, 86), (14, 0, code.toNat)]
  | .brk code => [(31, 15, 84), (14, 0, code.toNat)]
  | .asrtleD rj rk => [(31, 15, 2), (14, 10, rk.toNat), (9, 5, rj.toNat), (4, 0, 0)]
  | .asrtgtD rj rk => [(31, 15, 3), (14, 10, rk.toNat), (9, 5, rj.toNat), (4, 0, 0)]
  | .rdtimelW rd rj => [(31, 10, 24), (9, 5, rj.toNat), (4, 0, rd.toNat)]
  | .rdtimehW rd rj => [(31, 10, 25), (9, 5, rj.toNat), (4, 0, rd.toNat)]
  | .rdtimeD rd rj => [(31, 10, 26), (9, 5, rj.toNat), (4, 0, rd.toNat)]
  | .cpucfg rd rj => [(31, 10, 27), (9, 5, rj.toNat), (4, 0, rd.toNat)]
  | .faddS fd fj fk => [(31, 15, 513), (14, 10, fk.toNat), (9, 5, fj.toNat), (4, 0, fd.toNat)]
  | .faddD fd fj fk => [(31, 15, 514), (14, 10, fk.toNat), (9, 5, fj.toNat), (4, 0, fd.toNat)]
  | .fsubS fd fj fk => [(31, 15, 517), (14, 10, fk.toNat), (9, 5, fj.toNat), (4, 0, fd.toNat)]
  | .fsubD fd fj fk => [(31, 15, 518), (14, 10, fk.toNat), (9, 5, fj.toNat), (4, 0, fd.toNat)]
  | .fmulS fd fj fk => [(31, 15, 521), (14, 10, fk.toNat), (9, 5, fj.toNat), (4, 0, fd.toNat)]
  | .fmulD fd fj fk => [(31, 15, 522), (14, 10, fk.toNat), (9, 5, fj.toNat), (4, 0, fd.toNat)]
  | .fdivS fd fj fk => [(31, 15, 525), (14, 10, fk.toNat), (9, 5, fj.toNat), (4, 0, fd.toNat)]
  | .fdivD fd fj fk => [(31, 15, 526), (14, 10, fk.toNat), (9, 5, fj.toNat), (4, 0, fd.toNat)]
  | .fmaddS fd fj fk fa => [(31, 20, 129), (19, 15, fa.toNat), (14, 10, fk.toNat), (9, 5, fj.toNat), (4, 0, fd.toNat)]
  | .fmaddD fd fj fk fa => [(31, 20, 130), (19, 15, fa.toNat), (14, 10, fk.toNat), (9, 5, fj.toNat), (4, 0, fd.toNat)]
  | .fmsubS fd fj fk fa => [(31, 20, 133), (19, 15, fa.toNat), (14, 10, fk.toNat), (9, 5, fj.toNat), (4, 0, fd.toNat)]
  | .fmsubD fd fj fk fa => [(31, 20, 134), (19, 15, fa.toNat), (14, 10, fk.toNat), (9, 5, fj.toNat), (4, 0, fd.toNat)]
  | .fnmaddS fd fj fk fa => [(31, 20, 137), (19, 15, fa.toNat), (14, 10, fk.toNat), (9, 5, fj.toNat), (4, 0, fd.toNat)]
  | .fnmaddD fd fj fk fa => [(31, 20, 138), (19, 15, fa.toNat), (14, 10, fk.toNat), (9, 5, fj.toNat), (4, 0, fd.toNat)]
  | .fnmsubS fd fj fk fa => [(31, 20, 141), (19, 15, fa.toNat), (14, 10, fk.toNat), (9, 5, fj.toNat), (4, 0, fd.toNat)]
  | .fnmsubD fd fj fk fa => [(31, 20, 142), (19, 15, fa.toNat), (14, 10, fk.toNat), (9, 5, fj.toNat), (4, 0, fd.toNat)]
  | .fmaxS fd fj fk => [(31, 15, 529), (14, 10, fk.toNat), (9, 5, fj.toNat), (4, 0, fd.toNat)]
  | .fmaxD fd fj fk => [(31, 15, 530), (14, 10, fk.toNat), (9, 5, fj.toNat), (4, 0, fd.toNat)]
  | .fminS fd fj fk => [(31, 15, 533), (14, 10, fk.toNat), (9, 5, fj.toNat), (4, 0, fd.toNat)]
  | .fminD fd fj fk => [(31, 15, 534), (14, 10, fk.toNat), (9, 5, fj.toNat), (4, 0, fd.toNat)]
  | .fmaxaS fd fj fk => [(31, 15, 537), (14, 10, fk.toNat), (9, 5, fj.toNat), (4, 0, fd.toNat)]
  | .fmaxaD fd fj fk => [(31, 15, 538), (14, 10, fk.toNat), (9, 5, fj.toNat), (4, 0, fd.toNat)]
  | .fminaS fd fj fk => [(31, 15, 541), (14, 10, fk.toNat), (9, 5, fj.toNat), (4, 0, fd.toNat)]
  | .fminaD fd fj fk => [(31, 15, 542), (14, 10, fk.toNat), (9, 5, fj.toNat), (4, 0, fd.toNat)]
  | .fabsS fd fj => [(31, 10, 17665), (9, 5, fj.toNat), (4, 0, fd.toNat)]
  | .fabsD fd fj => [(31, 10, 17666), (9, 5, fj.toNat), (4, 0, fd.toNat)]
  | .fnegS fd fj => [(31, 10, 17669), (9, 5, fj.toNat), (4, 0, fd.toNat)]
  | .fnegD fd fj => [(31, 10, 17670), (9, 5, fj.toNat), (4, 0, fd.toNat)]
  | .fsqrtS fd fj => [(31, 10, 17681), (9, 5, fj.toNat), (4, 0, fd.toNat)]
  | .fsqrtD fd fj => [(31, 10, 17682), (9, 5, fj.toNat), (4, 0, fd.toNat)]
  | .frecipS fd fj => [(31, 10, 17685), (9, 5, fj.toNat), (4, 0, fd.toNat)]
  | .frecipD fd fj => [(31, 10, 17686), (9, 5, fj.toNat), (4, 0, fd.toNat)]
  | .frsqrtS fd fj => [(31, 10, 17689), (9, 5, fj.toNat), (4, 0, fd.toNat)]
  | .frsqrtD fd fj => [(31, 10, 17690), (9, 5, fj.toNat), (4, 0, fd.toNat)]
  | .fscalebS fd fj fk => [(31, 15, 545), (14, 10, fk.toNat), (9, 5, fj.toNat), (4, 0, fd.toNat)]
  | .fscalebD fd fj fk => [(31, 15, 546), (14, 10, fk.toNat), (9, 5, fj.toNat), (4, 0, fd.toNat)]
  | .flogbS fd fj => [(31, 10, 17673), (9, 5, fj.toNat), (4, 0, fd.toNat)]
  | .flogbD fd fj => [(31, 10, 17674), (9, 5, fj.toNat), (4, 0, fd.toNat)]
  | .fcopysignS fd fj fk => [(31, 15, 549), (14, 10, fk.toNat), (9, 5, fj.toNat), (4, 0, fd.toNat)]
  | .fcopysignD fd fj fk => [(31, 15, 550), (14, 10, fk.toNat), (9, 5, fj.toNat), (4, 0, fd.toNat)]
  | .fclassS fd fj => [(31, 10, 17677), (9, 5, fj.toNat), (4, 0, fd.toNat)]
  | .fclassD fd fj => [(31, 10, 17678), (9, 5, fj.toNat), (4, 0, fd.toNat)]
  | .fcmpCondS cd fj fk cond => [(31, 20, 193), (19, 15, cond.toNat), (14, 10, fk.toNat), (9, 5, fj.toNat), (4, 3, 0), (2, 0, cd.toNat)]
  | .fcmpCondD cd fj fk cond => [(31, 20, 194), (19, 15, cond.toNat), (14, 10, fk.toNat), (9, 5, fj.toNat), (4, 3, 0), (2, 0, cd.toNat)]
  | .fcvtSD fd fj => [(31, 10, 17990), (9, 5, fj.toNat), (4, 0, fd.toNat)]
  | .fcvtDS fd fj => [(31, 10, 17993), (9, 5, fj.toNat), (4, 0, fd.toNat)]
  | .ffintSW fd fj => [(31, 10, 18244), (9, 5, fj.toNat), (4, 0, fd.toNat)]
  | .ffintSL fd fj => [(31, 10, 18246), (9, 5, fj.toNat), (4, 0, fd.toNat)]
  | .ffintDW fd fj => [(31, 10, 18248), (9, 5, fj.toNat), (4, 0, fd.toNat)]
  | .ffintDL fd fj => [(31, 10, 18250), (9, 5, fj.toNat), (4, 0, fd.toNat)]
  | .ftintWS fd fj => [(31, 10, 18113), (9, 5, fj.toNat), (4, 0, fd.toNat)]
  | .ftintWD fd fj => [(31, 10, 18114), (9, 5, fj.toNat), (4, 0, fd.toNat)]
  | .ftintLS fd fj => [(31, 10, 18121), (9, 5, fj.toNat), (4, 0, fd.toNat)]
  | .ftintLD fd fj => [(31, 10, 18122), (9, 5, fj.toNat), (4, 0, fd.toNat)]
  | .ftintrmWS fd fj => [(31, 10, 18049), (9, 5, fj.toNat), (4, 0, fd.toNat)]
  | .ftintrmWD fd fj => [(31, 10, 18050), (9, 5, fj.toNat), (4, 0, fd.toNat)]
  | .ftintrmLS fd fj => [(31, 10, 18057), (9, 5, fj.toNat), (4, 0, fd.toNat)]
  | .ftintrmLD fd fj => [(31, 10, 18058), (9, 5, fj.toNat), (4, 0, fd.toNat)]
  | .ftintrpWS fd fj => [(31, 10, 18065), (9, 5, fj.toNat), (4, 0, fd.toNat)]
  | .ftintrpWD fd fj => [(31, 10, 18066), (9, 5, fj.toNat), (4, 0, fd.toNat)]
  | .ftintrpLS fd fj => [(31, 10, 18073), (9, 5, fj.toNat), (4, 0, fd.toNat)]
  | .ftintrpLD fd fj => [(31, 10, 18074), (9, 5, fj.toNat), (4, 0, fd.toNat)]
  | .ftintrzWS fd fj => [(31, 10, 18081), (9, 5, fj.toNat), (4, 0, fd.toNat)]
  | .ftintrzWD fd fj => [(31, 10, 18082), (9, 5, fj.toNat), (4, 0, fd.toNat)]
  | .ftintrzLS fd fj => [(31, 10, 18089), (9, 5, fj.toNat), (4, 0, fd.toNat)]
  | .ftintrzLD fd fj => [(31, 10, 18090), (9, 5, fj.toNat), (4, 0, fd.toNat)]
  | .ftintrneWS fd fj => [(31, 10, 18097), (9, 5, fj.toNat), (4, 0, fd.toNat)]
  | .ftintrneWD fd fj => [(31, 10, 18098), (9, 5, fj.toNat), (4, 0, fd.toNat)]
  | .ftintrneLS fd fj => [(31, 10, 18105), (9, 5, fj.toNat), (4, 0, fd.toNat)]
  | .ftintrneLD fd fj => [(31, 10, 18106), (9, 5, fj.toNat), (4, 0, fd.toNat)]
  | .frintS fd fj => [(31, 10, 18321), (9, 5, fj.toNat), (4, 0, fd.toNat)]
  | .frintD fd fj => [(31, 10, 18322), (9, 5, fj.toNat), (4, 0, fd.toNat)]
  | .fmovS fd fj => [(31, 10, 17701), (9, 5, fj.toNat), (4, 0, fd.toNat)]
  | .fmovD fd fj => [(31, 10, 17702), (9, 5, fj.toNat), (4, 0, fd.toNat)]
  | .fsel fd fj fk ca => [(31, 18, 832), (17, 15, ca.toNat), (14, 10, fk.toNat), (9, 5, fj.toNat), (4, 0, fd.toNat)]
  | .movgr2frW fd rj => [(31, 10, 17705), (9, 5, rj.toNat), (4, 0, fd.toNat)]
  | .movgr2frD fd rj => [(31, 10, 17706), (9, 5, rj.toNat), (4, 0, fd.toNat)]
  | .movgr2frhW fd rj => [(31, 10, 17707), (9, 5, rj.toNat), (4, 0, fd.toNat)]
  | .movfr2grS rd fj => [(31, 10, 17709), (9, 5, fj.toNat), (4, 0, rd.toNat)]
  | .movfr2grD rd fj => [(31, 10, 17710), (9, 5, fj.toNat), (4, 0, rd.toNat)]
  | .movfrh2grS rd fj => [(31, 10, 17711), (9, 5, fj.toNat), (4, 0, rd.toNat)]
  | .movgr2fcsr fcsr rj => [(31, 10, 17712), (9, 5, rj.toNat), (4, 0, fcsr.toNat)]
  | .movfcsr2gr rd fcsr => [(31, 10, 17714), (9, 5, fcsr.toNat), (4, 0, rd.toNat)]
  | .movfr2cf cd fj => [(31, 10, 17716), (9, 5, fj.toNat), (4, 3, 0), (2, 0, cd.toNat)]
  | .movcf2fr fd cj => [(31, 8, 70868), (7, 5, cj.toNat), (4, 0, fd.toNat)]
  | .movgr2cf cd rj => [(31, 10, 17718), (9, 5, rj.toNat), (4, 3, 0), (2, 0, cd.toNat)]
  | .movcf2gr rd cj => [(31, 8, 70876), (7, 5, cj.toNat), (4, 0, rd.toNat)]
  | .bceqz cj offs => [(31, 26, 18), (25, 10, offs.toNat % 65536), (9, 8, 0), (7, 5, cj.toNat), (4, 0, offs.toNat / 65536)]
  | .bcnez cj offs => [(31, 26, 18), (25, 10, offs.toNat % 65536), (9, 8, 1), (7, 5, cj.toNat), (4, 0, offs.toNat / 65536)]
  | .fldS fd rj i12 => [(31, 22, 172), (21, 10, i12.toNat), (9, 5, rj.toNat), (4, 0, fd.toNat)]
  | .fldD fd rj i12 => [(31, 22, 174), (21, 10, i12.toNat), (9, 5, rj.toNat), (4, 0, fd.toNat)]
  | .fstS fd rj i12 => [(31, 22, 173), (21, 10, i12.toNat), (9, 5, rj.toNat), (4, 0, fd.toNat)]
  | .fstD fd rj i12 => [(31, 22, 175), (21, 10, i12.toNat), (9, 5, rj.toNat), (4, 0, fd.toNat)]
  | .fldxS fd rj rk => [(31, 15, 28768), (14, 10, rk.toNat), (9, 5, rj.toNat), (4, 0, fd.toNat)]
  | .fldxD fd rj rk => [(31, 15, 28776), (14, 10, rk.toNat), (9, 5, rj.toNat), (4, 0, fd.toNat)]
  | .fstxS fd rj rk => [(31, 15, 28784), (14, 10, rk.toNat), (9, 5, rj.toNat), (4, 0, fd.toNat)]
  | .fstxD fd rj rk => [(31, 15, 28792), (14, 10, rk.toNat), (9, 5, rj.toNat), (4, 0, fd.toNat)]
  | .fldgtS fd rj rk => [(31, 15, 28904), (14, 10, rk.toNat), (9, 5, rj.toNat), (4, 0, fd.toNat)]
  | .fldgtD fd rj rk => [(31, 15, 28905), (14, 10, rk.toNat), (9, 5, rj.toNat), (4, 0, fd.toNat)]
  | .fldleS fd rj rk => [(31, 15, 28906), (14, 10, rk.toNat), (9, 5, rj.toNat), (4, 0, fd.toNat)]
  | .fldleD fd rj rk => [(31, 15, 28907), (14, 10, rk.toNat), (9, 5, rj.toNat), (4, 0, fd.toNat)]
  | .fstgtS fd rj rk => [(31, 15, 28908), (14, 10, rk.toNat), (9, 5, rj.toNat), (4, 0, fd.toNat)]
  | .fstgtD fd rj rk => [(31, 15, 28909), (14, 10, rk.toNat), (9, 5, rj.toNat), (4, 0, fd.toNat)]
  | .fstleS fd rj rk => [(31, 15, 28910), (14, 10, rk.toNat), (9, 5, rj.toNat), (4, 0, fd.toNat)]
  | .fstleD fd rj rk => [(31, 15, 28911), (14, 10, rk.toNat), (9, 5, rj.toNat), (4, 0, fd.toNat)]
  | .csrrd rd csr => [(31, 24, 4), (23, 10, csr.toNat), (9, 5, 0), (4, 0, rd.toNat)]
  | .csrwr rd csr => [(31, 24, 4), (23, 10, csr.toNat), (9, 5, 1), (4, 0, rd.toNat)]
  | .csrxchg rd rj csr => [(31, 24, 4), (23, 10, csr.toNat), (9, 5, rj.toNat), (4, 0, rd.toNat)]
  | .iocsrrdB rd rj => [(31, 10, 102912), (9, 5, rj.toNat), (4, 0, rd.toNat)]
  | .iocsrrdH rd rj => [(31, 10, 102913), (9, 5, rj.toNat), (4, 0, rd.toNat)]
  | .iocsrrdW rd rj => [(31, 10, 102914), (9, 5, rj.toNat), (4, 0, rd.toNat)]
  | .iocsrrdD rd rj => [(31, 10, 102915), (9, 5, rj.toNat), (4, 0, rd.toNat)]
  | .iocsrwrB rd rj => [(31, 10, 102916), (9, 5, rj.toNat), (4, 0, rd.toNat)]
  | .iocsrwrH rd rj => [(31, 10, 102917), (9, 5, rj.toNat), (4, 0, rd.toNat)]
  | .iocsrwrW rd rj => [(31, 10, 102918), (9, 5, rj.toNat), (4, 0, rd.toNat)]
  | .iocsrwrD rd rj => [(31, 10, 102919), (9, 5, rj.toNat), (4, 0, rd.toNat)]
  | .cacop code rj si12 => [(31, 22, 24), (21, 10, si12.toNat), (9, 5, rj.toNat), (4, 0, code.toNat)]
  | .tlbsrch => [(31, 0, 105392128)]
  | .tlbrd => [(31, 0, 105393152)]
  | .tlbwr => [(31, 0, 105394176)]
  | .tlbfill => [(31, 0, 105395200)]
  | .tlbclr => [(31, 0, 105390080)]
  | .tlbflush => [(31, 0, 105391104)]
  | .invtlb op rj rk => [(31, 15, 3219), (14, 10, rk.toNat), (9, 5, rj.toNat), (4, 0, op.toNat)]
  | .ertn => [(31, 0, 105396224)]
  | .dbcl code => [(31, 15, 85), (14, 0, code.toNat)]
  | .idle code => [(31, 15, 3217), (14, 0, code.toNat)]
  | .lddir rd rj i8 => [(31, 18, 400), (17, 10, i8.toNat), (9, 5, rj.toNat), (4, 0, rd.toNat)]
  | .ldpte rj seq => [(31, 18, 401), (17, 10, seq.toNat), (9, 5, rj.toNat), (4, 0, 0)]

/-- The word the encoder writes agrees with the instruction's row in every one of its 32 bits. -/
def Statement (i : Instr) : Prop := Agrees (encode i).toNat (tableFields i)

/-- The row of add.w. -/
theorem addW (rd : BitVec 5) (rj : BitVec 5) (rk : BitVec 5) :
    Statement (.addW rd rj rk) := enc3R_agrees 0x00020#17 rk rj rd

/-- The row of sub.w. -/
theorem subW (rd : BitVec 5) (rj : BitVec 5) (rk : BitVec 5) :
    Statement (.subW rd rj rk) := enc3R_agrees 0x00022#17 rk rj rd

/-- The row of add.d. -/
theorem addD (rd : BitVec 5) (rj : BitVec 5) (rk : BitVec 5) :
    Statement (.addD rd rj rk) := enc3R_agrees 0x00021#17 rk rj rd

/-- The row of sub.d. -/
theorem subD (rd : BitVec 5) (rj : BitVec 5) (rk : BitVec 5) :
    Statement (.subD rd rj rk) := enc3R_agrees 0x00023#17 rk rj rd

/-- The row of addi.w. -/
theorem addiW (rd : BitVec 5) (rj : BitVec 5) (i12 : BitVec 12) :
    Statement (.addiW rd rj i12) := encI12_agrees 0x00A#10 i12 rj rd

/-- The row of addi.d. -/
theorem addiD (rd : BitVec 5) (rj : BitVec 5) (i12 : BitVec 12) :
    Statement (.addiD rd rj i12) := encI12_agrees 0x00B#10 i12 rj rd

/-- The row of addu16i.d. -/
theorem addu16iD (rd : BitVec 5) (rj : BitVec 5) (i16 : BitVec 16) :
    Statement (.addu16iD rd rj i16) := encI16_agrees 0x04#6 i16 rj rd

/-- The row of alsl.w. -/
theorem alslW (rd : BitVec 5) (rj : BitVec 5) (rk : BitVec 5) (sa2 : BitVec 2) :
    Statement (.alslW rd rj rk sa2) := encSa2_agrees 0x0002#15 sa2 rk rj rd

/-- The row of alsl.wu. -/
theorem alslWu (rd : BitVec 5) (rj : BitVec 5) (rk : BitVec 5) (sa2 : BitVec 2) :
    Statement (.alslWu rd rj rk sa2) := encSa2_agrees 0x0003#15 sa2 rk rj rd

/-- The row of alsl.d. -/
theorem alslD (rd : BitVec 5) (rj : BitVec 5) (rk : BitVec 5) (sa2 : BitVec 2) :
    Statement (.alslD rd rj rk sa2) := encSa2_agrees 0x0016#15 sa2 rk rj rd

/-- The row of lu12i.w. -/
theorem lu12iW (rd : BitVec 5) (si20 : BitVec 20) :
    Statement (.lu12iW rd si20) := encI20_agrees 0x0A#7 si20 rd

/-- The row of lu32i.d. -/
theorem lu32iD (rd : BitVec 5) (si20 : BitVec 20) :
    Statement (.lu32iD rd si20) := encI20_agrees 0x0B#7 si20 rd

/-- The row of lu52i.d. -/
theorem lu52iD (rd : BitVec 5) (rj : BitVec 5) (i12 : BitVec 12) :
    Statement (.lu52iD rd rj i12) := encI12_agrees 0x00C#10 i12 rj rd

/-- The row of slt. -/
theorem slt (rd : BitVec 5) (rj : BitVec 5) (rk : BitVec 5) :
    Statement (.slt rd rj rk) := enc3R_agrees 0x00024#17 rk rj rd

/-- The row of sltu. -/
theorem sltu (rd : BitVec 5) (rj : BitVec 5) (rk : BitVec 5) :
    Statement (.sltu rd rj rk) := enc3R_agrees 0x00025#17 rk rj rd

/-- The row of slti. -/
theorem slti (rd : BitVec 5) (rj : BitVec 5) (i12 : BitVec 12) :
    Statement (.slti rd rj i12) := encI12_agrees 0x008#10 i12 rj rd

/-- The row of sltui. -/
theorem sltui (rd : BitVec 5) (rj : BitVec 5) (i12 : BitVec 12) :
    Statement (.sltui rd rj i12) := encI12_agrees 0x009#10 i12 rj rd

/-- The row of pcaddi. -/
theorem pcaddi (rd : BitVec 5) (si20 : BitVec 20) :
    Statement (.pcaddi rd si20) := encI20_agrees 0x0C#7 si20 rd

/-- The row of pcaddu12i. -/
theorem pcaddu12i (rd : BitVec 5) (si20 : BitVec 20) :
    Statement (.pcaddu12i rd si20) := encI20_agrees 0x0E#7 si20 rd

/-- The row of pcaddu18i. -/
theorem pcaddu18i (rd : BitVec 5) (si20 : BitVec 20) :
    Statement (.pcaddu18i rd si20) := encI20_agrees 0x0F#7 si20 rd

/-- The row of pcalau12i. -/
theorem pcalau12i (rd : BitVec 5) (si20 : BitVec 20) :
    Statement (.pcalau12i rd si20) := encI20_agrees 0x0D#7 si20 rd

/-- The row of and. -/
theorem and (rd : BitVec 5) (rj : BitVec 5) (rk : BitVec 5) :
    Statement (.and rd rj rk) := enc3R_agrees 0x00029#17 rk rj rd

/-- The row of or. -/
theorem or (rd : BitVec 5) (rj : BitVec 5) (rk : BitVec 5) :
    Statement (.or rd rj rk) := enc3R_agrees 0x0002A#17 rk rj rd

/-- The row of nor. -/
theorem nor (rd : BitVec 5) (rj : BitVec 5) (rk : BitVec 5) :
    Statement (.nor rd rj rk) := enc3R_agrees 0x00028#17 rk rj rd

/-- The row of xor. -/
theorem xor (rd : BitVec 5) (rj : BitVec 5) (rk : BitVec 5) :
    Statement (.xor rd rj rk) := enc3R_agrees 0x0002B#17 rk rj rd

/-- The row of andn. -/
theorem andn (rd : BitVec 5) (rj : BitVec 5) (rk : BitVec 5) :
    Statement (.andn rd rj rk) := enc3R_agrees 0x0002D#17 rk rj rd

/-- The row of orn. -/
theorem orn (rd : BitVec 5) (rj : BitVec 5) (rk : BitVec 5) :
    Statement (.orn rd rj rk) := enc3R_agrees 0x0002C#17 rk rj rd

/-- The row of andi. -/
theorem andi (rd : BitVec 5) (rj : BitVec 5) (i12 : BitVec 12) :
    Statement (.andi rd rj i12) := encI12_agrees 0x00D#10 i12 rj rd

/-- The row of ori. -/
theorem ori (rd : BitVec 5) (rj : BitVec 5) (i12 : BitVec 12) :
    Statement (.ori rd rj i12) := encI12_agrees 0x00E#10 i12 rj rd

/-- The row of xori. -/
theorem xori (rd : BitVec 5) (rj : BitVec 5) (i12 : BitVec 12) :
    Statement (.xori rd rj i12) := encI12_agrees 0x00F#10 i12 rj rd

/-- The row of mul.w. -/
theorem mulW (rd : BitVec 5) (rj : BitVec 5) (rk : BitVec 5) :
    Statement (.mulW rd rj rk) := enc3R_agrees 0x00038#17 rk rj rd

/-- The row of mulh.w. -/
theorem mulhW (rd : BitVec 5) (rj : BitVec 5) (rk : BitVec 5) :
    Statement (.mulhW rd rj rk) := enc3R_agrees 0x00039#17 rk rj rd

/-- The row of mulh.wu. -/
theorem mulhWu (rd : BitVec 5) (rj : BitVec 5) (rk : BitVec 5) :
    Statement (.mulhWu rd rj rk) := enc3R_agrees 0x0003A#17 rk rj rd

/-- The row of mul.d. -/
theorem mulD (rd : BitVec 5) (rj : BitVec 5) (rk : BitVec 5) :
    Statement (.mulD rd rj rk) := enc3R_agrees 0x0003B#17 rk rj rd

/-- The row of mulh.d. -/
theorem mulhD (rd : BitVec 5) (rj : BitVec 5) (rk : BitVec 5) :
    Statement (.mulhD rd rj rk) := enc3R_agrees 0x0003C#17 rk rj rd

/-- The row of mulh.du. -/
theorem mulhDu (rd : BitVec 5) (rj : BitVec 5) (rk : BitVec 5) :
    Statement (.mulhDu rd rj rk) := enc3R_agrees 0x0003D#17 rk rj rd

/-- The row of mulw.d.w. -/
theorem mulwDW (rd : BitVec 5) (rj : BitVec 5) (rk : BitVec 5) :
    Statement (.mulwDW rd rj rk) := enc3R_agrees 0x0003E#17 rk rj rd

/-- The row of mulw.d.wu. -/
theorem mulwDWu (rd : BitVec 5) (rj : BitVec 5) (rk : BitVec 5) :
    Statement (.mulwDWu rd rj rk) := enc3R_agrees 0x0003F#17 rk rj rd

/-- The row of div.w. -/
theorem divW (rd : BitVec 5) (rj : BitVec 5) (rk : BitVec 5) :
    Statement (.divW rd rj rk) := enc3R_agrees 0x00040#17 rk rj rd

/-- The row of mod.w. -/
theorem modW (rd : BitVec 5) (rj : BitVec 5) (rk : BitVec 5) :
    Statement (.modW rd rj rk) := enc3R_agrees 0x00041#17 rk rj rd

/-- The row of div.wu. -/
theorem divWu (rd : BitVec 5) (rj : BitVec 5) (rk : BitVec 5) :
    Statement (.divWu rd rj rk) := enc3R_agrees 0x00042#17 rk rj rd

/-- The row of mod.wu. -/
theorem modWu (rd : BitVec 5) (rj : BitVec 5) (rk : BitVec 5) :
    Statement (.modWu rd rj rk) := enc3R_agrees 0x00043#17 rk rj rd

/-- The row of div.d. -/
theorem divD (rd : BitVec 5) (rj : BitVec 5) (rk : BitVec 5) :
    Statement (.divD rd rj rk) := enc3R_agrees 0x00044#17 rk rj rd

/-- The row of mod.d. -/
theorem modD (rd : BitVec 5) (rj : BitVec 5) (rk : BitVec 5) :
    Statement (.modD rd rj rk) := enc3R_agrees 0x00045#17 rk rj rd

/-- The row of div.du. -/
theorem divDu (rd : BitVec 5) (rj : BitVec 5) (rk : BitVec 5) :
    Statement (.divDu rd rj rk) := enc3R_agrees 0x00046#17 rk rj rd

/-- The row of mod.du. -/
theorem modDu (rd : BitVec 5) (rj : BitVec 5) (rk : BitVec 5) :
    Statement (.modDu rd rj rk) := enc3R_agrees 0x00047#17 rk rj rd

/-- The row of sll.w. -/
theorem sllW (rd : BitVec 5) (rj : BitVec 5) (rk : BitVec 5) :
    Statement (.sllW rd rj rk) := enc3R_agrees 0x0002E#17 rk rj rd

/-- The row of srl.w. -/
theorem srlW (rd : BitVec 5) (rj : BitVec 5) (rk : BitVec 5) :
    Statement (.srlW rd rj rk) := enc3R_agrees 0x0002F#17 rk rj rd

/-- The row of sra.w. -/
theorem sraW (rd : BitVec 5) (rj : BitVec 5) (rk : BitVec 5) :
    Statement (.sraW rd rj rk) := enc3R_agrees 0x00030#17 rk rj rd

/-- The row of rotr.w. -/
theorem rotrW (rd : BitVec 5) (rj : BitVec 5) (rk : BitVec 5) :
    Statement (.rotrW rd rj rk) := enc3R_agrees 0x00036#17 rk rj rd

/-- The row of slli.w. -/
theorem slliW (rd : BitVec 5) (rj : BitVec 5) (ui5 : BitVec 5) :
    Statement (.slliW rd rj ui5) := enc3R_agrees 0x00081#17 ui5 rj rd

/-- The row of srli.w. -/
theorem srliW (rd : BitVec 5) (rj : BitVec 5) (ui5 : BitVec 5) :
    Statement (.srliW rd rj ui5) := enc3R_agrees 0x00089#17 ui5 rj rd

/-- The row of srai.w. -/
theorem sraiW (rd : BitVec 5) (rj : BitVec 5) (ui5 : BitVec 5) :
    Statement (.sraiW rd rj ui5) := enc3R_agrees 0x00091#17 ui5 rj rd

/-- The row of rotri.w. -/
theorem rotriW (rd : BitVec 5) (rj : BitVec 5) (ui5 : BitVec 5) :
    Statement (.rotriW rd rj ui5) := enc3R_agrees 0x00099#17 ui5 rj rd

/-- The row of sll.d. -/
theorem sllD (rd : BitVec 5) (rj : BitVec 5) (rk : BitVec 5) :
    Statement (.sllD rd rj rk) := enc3R_agrees 0x00031#17 rk rj rd

/-- The row of srl.d. -/
theorem srlD (rd : BitVec 5) (rj : BitVec 5) (rk : BitVec 5) :
    Statement (.srlD rd rj rk) := enc3R_agrees 0x00032#17 rk rj rd

/-- The row of sra.d. -/
theorem sraD (rd : BitVec 5) (rj : BitVec 5) (rk : BitVec 5) :
    Statement (.sraD rd rj rk) := enc3R_agrees 0x00033#17 rk rj rd

/-- The row of rotr.d. -/
theorem rotrD (rd : BitVec 5) (rj : BitVec 5) (rk : BitVec 5) :
    Statement (.rotrD rd rj rk) := enc3R_agrees 0x00037#17 rk rj rd

/-- The row of slli.d. -/
theorem slliD (rd : BitVec 5) (rj : BitVec 5) (ui6 : BitVec 6) :
    Statement (.slliD rd rj ui6) := encU6_agrees 0x0041#16 ui6 rj rd

/-- The row of srli.d. -/
theorem srliD (rd : BitVec 5) (rj : BitVec 5) (ui6 : BitVec 6) :
    Statement (.srliD rd rj ui6) := encU6_agrees 0x0045#16 ui6 rj rd

/-- The row of srai.d. -/
theorem sraiD (rd : BitVec 5) (rj : BitVec 5) (ui6 : BitVec 6) :
    Statement (.sraiD rd rj ui6) := encU6_agrees 0x0049#16 ui6 rj rd

/-- The row of rotri.d. -/
theorem rotriD (rd : BitVec 5) (rj : BitVec 5) (ui6 : BitVec 6) :
    Statement (.rotriD rd rj ui6) := encU6_agrees 0x004D#16 ui6 rj rd

/-- The row of ext.w.b. -/
theorem extWB (rd : BitVec 5) (rj : BitVec 5) :
    Statement (.extWB rd rj) := enc2R_agrees 0x000017#22 rj rd

/-- The row of ext.w.h. -/
theorem extWH (rd : BitVec 5) (rj : BitVec 5) :
    Statement (.extWH rd rj) := enc2R_agrees 0x000016#22 rj rd

/-- The row of clo.w. -/
theorem cloW (rd : BitVec 5) (rj : BitVec 5) :
    Statement (.cloW rd rj) := enc2R_agrees 0x000004#22 rj rd

/-- The row of clz.w. -/
theorem clzW (rd : BitVec 5) (rj : BitVec 5) :
    Statement (.clzW rd rj) := enc2R_agrees 0x000005#22 rj rd

/-- The row of cto.w. -/
theorem ctoW (rd : BitVec 5) (rj : BitVec 5) :
    Statement (.ctoW rd rj) := enc2R_agrees 0x000006#22 rj rd

/-- The row of ctz.w. -/
theorem ctzW (rd : BitVec 5) (rj : BitVec 5) :
    Statement (.ctzW rd rj) := enc2R_agrees 0x000007#22 rj rd

/-- The row of clo.d. -/
theorem cloD (rd : BitVec 5) (rj : BitVec 5) :
    Statement (.cloD rd rj) := enc2R_agrees 0x000008#22 rj rd

/-- The row of clz.d. -/
theorem clzD (rd : BitVec 5) (rj : BitVec 5) :
    Statement (.clzD rd rj) := enc2R_agrees 0x000009#22 rj rd

/-- The row of cto.d. -/
theorem ctoD (rd : BitVec 5) (rj : BitVec 5) :
    Statement (.ctoD rd rj) := enc2R_agrees 0x00000A#22 rj rd

/-- The row of ctz.d. -/
theorem ctzD (rd : BitVec 5) (rj : BitVec 5) :
    Statement (.ctzD rd rj) := enc2R_agrees 0x00000B#22 rj rd

/-- The row of bytepick.w. -/
theorem bytepickW (rd : BitVec 5) (rj : BitVec 5) (rk : BitVec 5) (sa2 : BitVec 2) :
    Statement (.bytepickW rd rj rk sa2) := encSa2_agrees 0x0004#15 sa2 rk rj rd

/-- The row of bytepick.d. -/
theorem bytepickD (rd : BitVec 5) (rj : BitVec 5) (rk : BitVec 5) (sa3 : BitVec 3) :
    Statement (.bytepickD rd rj rk sa3) := encSa3_agrees 0x0003#14 sa3 rk rj rd

/-- The row of revb.2h. -/
theorem revb2h (rd : BitVec 5) (rj : BitVec 5) :
    Statement (.revb2h rd rj) := enc2R_agrees 0x00000C#22 rj rd

/-- The row of revb.4h. -/
theorem revb4h (rd : BitVec 5) (rj : BitVec 5) :
    Statement (.revb4h rd rj) := enc2R_agrees 0x00000D#22 rj rd

/-- The row of revb.2w. -/
theorem revb2w (rd : BitVec 5) (rj : BitVec 5) :
    Statement (.revb2w rd rj) := enc2R_agrees 0x00000E#22 rj rd

/-- The row of revb.d. -/
theorem revbD (rd : BitVec 5) (rj : BitVec 5) :
    Statement (.revbD rd rj) := enc2R_agrees 0x00000F#22 rj rd

/-- The row of revh.2w. -/
theorem revh2w (rd : BitVec 5) (rj : BitVec 5) :
    Statement (.revh2w rd rj) := enc2R_agrees 0x000010#22 rj rd

/-- The row of revh.d. -/
theorem revhD (rd : BitVec 5) (rj : BitVec 5) :
    Statement (.revhD rd rj) := enc2R_agrees 0x000011#22 rj rd

/-- The row of bitrev.4b. -/
theorem bitrev4b (rd : BitVec 5) (rj : BitVec 5) :
    Statement (.bitrev4b rd rj) := enc2R_agrees 0x000012#22 rj rd

/-- The row of bitrev.8b. -/
theorem bitrev8b (rd : BitVec 5) (rj : BitVec 5) :
    Statement (.bitrev8b rd rj) := enc2R_agrees 0x000013#22 rj rd

/-- The row of bitrev.w. -/
theorem bitrevW (rd : BitVec 5) (rj : BitVec 5) :
    Statement (.bitrevW rd rj) := enc2R_agrees 0x000014#22 rj rd

/-- The row of bitrev.d. -/
theorem bitrevD (rd : BitVec 5) (rj : BitVec 5) :
    Statement (.bitrevD rd rj) := enc2R_agrees 0x000015#22 rj rd

/-- The row of bstrins.w. -/
theorem bstrinsW (rd : BitVec 5) (rj : BitVec 5) (lsbw : BitVec 5) (msbw : BitVec 5) :
    Statement (.bstrinsW rd rj lsbw msbw) := encBstrW_agrees 0x003#11 msbw 0x0#1 lsbw rj rd

/-- The row of bstrins.d. -/
theorem bstrinsD (rd : BitVec 5) (rj : BitVec 5) (lsbd : BitVec 6) (msbd : BitVec 6) :
    Statement (.bstrinsD rd rj lsbd msbd) := encBstrD_agrees 0x002#10 msbd lsbd rj rd

/-- The row of bstrpick.w. -/
theorem bstrpickW (rd : BitVec 5) (rj : BitVec 5) (lsbw : BitVec 5) (msbw : BitVec 5) :
    Statement (.bstrpickW rd rj lsbw msbw) := encBstrW_agrees 0x003#11 msbw 0x1#1 lsbw rj rd

/-- The row of bstrpick.d. -/
theorem bstrpickD (rd : BitVec 5) (rj : BitVec 5) (lsbd : BitVec 6) (msbd : BitVec 6) :
    Statement (.bstrpickD rd rj lsbd msbd) := encBstrD_agrees 0x003#10 msbd lsbd rj rd

/-- The row of maskeqz. -/
theorem maskeqz (rd : BitVec 5) (rj : BitVec 5) (rk : BitVec 5) :
    Statement (.maskeqz rd rj rk) := enc3R_agrees 0x00026#17 rk rj rd

/-- The row of masknez. -/
theorem masknez (rd : BitVec 5) (rj : BitVec 5) (rk : BitVec 5) :
    Statement (.masknez rd rj rk) := enc3R_agrees 0x00027#17 rk rj rd

/-- The row of beq. -/
theorem beq (rd : BitVec 5) (rj : BitVec 5) (i16 : BitVec 16) :
    Statement (.beq rd rj i16) := encI16_agrees 0x16#6 i16 rj rd

/-- The row of bne. -/
theorem bne (rd : BitVec 5) (rj : BitVec 5) (i16 : BitVec 16) :
    Statement (.bne rd rj i16) := encI16_agrees 0x17#6 i16 rj rd

/-- The row of blt. -/
theorem blt (rd : BitVec 5) (rj : BitVec 5) (i16 : BitVec 16) :
    Statement (.blt rd rj i16) := encI16_agrees 0x18#6 i16 rj rd

/-- The row of bge. -/
theorem bge (rd : BitVec 5) (rj : BitVec 5) (i16 : BitVec 16) :
    Statement (.bge rd rj i16) := encI16_agrees 0x19#6 i16 rj rd

/-- The row of bltu. -/
theorem bltu (rd : BitVec 5) (rj : BitVec 5) (i16 : BitVec 16) :
    Statement (.bltu rd rj i16) := encI16_agrees 0x1A#6 i16 rj rd

/-- The row of bgeu. -/
theorem bgeu (rd : BitVec 5) (rj : BitVec 5) (i16 : BitVec 16) :
    Statement (.bgeu rd rj i16) := encI16_agrees 0x1B#6 i16 rj rd

/-- The row of beqz. -/
theorem beqz (rj : BitVec 5) (offs : BitVec 21) :
    Statement (.beqz rj offs) := encOffs21_agrees 0x10#6 offs rj

/-- The row of bnez. -/
theorem bnez (rj : BitVec 5) (offs : BitVec 21) :
    Statement (.bnez rj offs) := encOffs21_agrees 0x11#6 offs rj

/-- The row of b. -/
theorem b (offs : BitVec 26) :
    Statement (.b offs) := encOffs26_agrees 0x14#6 offs

/-- The row of bl. -/
theorem bl (offs : BitVec 26) :
    Statement (.bl offs) := encOffs26_agrees 0x15#6 offs

/-- The row of jirl. -/
theorem jirl (rd : BitVec 5) (rj : BitVec 5) (i16 : BitVec 16) :
    Statement (.jirl rd rj i16) := encI16_agrees 0x13#6 i16 rj rd

/-- The row of ld.b. -/
theorem ldB (rd : BitVec 5) (rj : BitVec 5) (i12 : BitVec 12) :
    Statement (.ldB rd rj i12) := encI12_agrees 0x0A0#10 i12 rj rd

/-- The row of ld.h. -/
theorem ldH (rd : BitVec 5) (rj : BitVec 5) (i12 : BitVec 12) :
    Statement (.ldH rd rj i12) := encI12_agrees 0x0A1#10 i12 rj rd

/-- The row of ld.w. -/
theorem ldW (rd : BitVec 5) (rj : BitVec 5) (i12 : BitVec 12) :
    Statement (.ldW rd rj i12) := encI12_agrees 0x0A2#10 i12 rj rd

/-- The row of ld.d. -/
theorem ldD (rd : BitVec 5) (rj : BitVec 5) (i12 : BitVec 12) :
    Statement (.ldD rd rj i12) := encI12_agrees 0x0A3#10 i12 rj rd

/-- The row of ld.bu. -/
theorem ldBu (rd : BitVec 5) (rj : BitVec 5) (i12 : BitVec 12) :
    Statement (.ldBu rd rj i12) := encI12_agrees 0x0A8#10 i12 rj rd

/-- The row of ld.hu. -/
theorem ldHu (rd : BitVec 5) (rj : BitVec 5) (i12 : BitVec 12) :
    Statement (.ldHu rd rj i12) := encI12_agrees 0x0A9#10 i12 rj rd

/-- The row of ld.wu. -/
theorem ldWu (rd : BitVec 5) (rj : BitVec 5) (i12 : BitVec 12) :
    Statement (.ldWu rd rj i12) := encI12_agrees 0x0AA#10 i12 rj rd

/-- The row of st.b. -/
theorem stB (rd : BitVec 5) (rj : BitVec 5) (i12 : BitVec 12) :
    Statement (.stB rd rj i12) := encI12_agrees 0x0A4#10 i12 rj rd

/-- The row of st.h. -/
theorem stH (rd : BitVec 5) (rj : BitVec 5) (i12 : BitVec 12) :
    Statement (.stH rd rj i12) := encI12_agrees 0x0A5#10 i12 rj rd

/-- The row of st.w. -/
theorem stW (rd : BitVec 5) (rj : BitVec 5) (i12 : BitVec 12) :
    Statement (.stW rd rj i12) := encI12_agrees 0x0A6#10 i12 rj rd

/-- The row of st.d. -/
theorem stD (rd : BitVec 5) (rj : BitVec 5) (i12 : BitVec 12) :
    Statement (.stD rd rj i12) := encI12_agrees 0x0A7#10 i12 rj rd

/-- The row of ldx.b. -/
theorem ldxB (rd : BitVec 5) (rj : BitVec 5) (rk : BitVec 5) :
    Statement (.ldxB rd rj rk) := enc3R_agrees 0x07000#17 rk rj rd

/-- The row of ldx.h. -/
theorem ldxH (rd : BitVec 5) (rj : BitVec 5) (rk : BitVec 5) :
    Statement (.ldxH rd rj rk) := enc3R_agrees 0x07008#17 rk rj rd

/-- The row of ldx.w. -/
theorem ldxW (rd : BitVec 5) (rj : BitVec 5) (rk : BitVec 5) :
    Statement (.ldxW rd rj rk) := enc3R_agrees 0x07010#17 rk rj rd

/-- The row of ldx.d. -/
theorem ldxD (rd : BitVec 5) (rj : BitVec 5) (rk : BitVec 5) :
    Statement (.ldxD rd rj rk) := enc3R_agrees 0x07018#17 rk rj rd

/-- The row of ldx.bu. -/
theorem ldxBu (rd : BitVec 5) (rj : BitVec 5) (rk : BitVec 5) :
    Statement (.ldxBu rd rj rk) := enc3R_agrees 0x07040#17 rk rj rd

/-- The row of ldx.hu. -/
theorem ldxHu (rd : BitVec 5) (rj : BitVec 5) (rk : BitVec 5) :
    Statement (.ldxHu rd rj rk) := enc3R_agrees 0x07048#17 rk rj rd

/-- The row of ldx.wu. -/
theorem ldxWu (rd : BitVec 5) (rj : BitVec 5) (rk : BitVec 5) :
    Statement (.ldxWu rd rj rk) := enc3R_agrees 0x07050#17 rk rj rd

/-- The row of stx.b. -/
theorem stxB (rd : BitVec 5) (rj : BitVec 5) (rk : BitVec 5) :
    Statement (.stxB rd rj rk) := enc3R_agrees 0x07020#17 rk rj rd

/-- The row of stx.h. -/
theorem stxH (rd : BitVec 5) (rj : BitVec 5) (rk : BitVec 5) :
    Statement (.stxH rd rj rk) := enc3R_agrees 0x07028#17 rk rj rd

/-- The row of stx.w. -/
theorem stxW (rd : BitVec 5) (rj : BitVec 5) (rk : BitVec 5) :
    Statement (.stxW rd rj rk) := enc3R_agrees 0x07030#17 rk rj rd

/-- The row of stx.d. -/
theorem stxD (rd : BitVec 5) (rj : BitVec 5) (rk : BitVec 5) :
    Statement (.stxD rd rj rk) := enc3R_agrees 0x07038#17 rk rj rd

/-- The row of ldptr.w. -/
theorem ldptrW (rd : BitVec 5) (rj : BitVec 5) (i14 : BitVec 14) :
    Statement (.ldptrW rd rj i14) := encI14_agrees 0x24#8 i14 rj rd

/-- The row of ldptr.d. -/
theorem ldptrD (rd : BitVec 5) (rj : BitVec 5) (i14 : BitVec 14) :
    Statement (.ldptrD rd rj i14) := encI14_agrees 0x26#8 i14 rj rd

/-- The row of stptr.w. -/
theorem stptrW (rd : BitVec 5) (rj : BitVec 5) (i14 : BitVec 14) :
    Statement (.stptrW rd rj i14) := encI14_agrees 0x25#8 i14 rj rd

/-- The row of stptr.d. -/
theorem stptrD (rd : BitVec 5) (rj : BitVec 5) (i14 : BitVec 14) :
    Statement (.stptrD rd rj i14) := encI14_agrees 0x27#8 i14 rj rd

/-- The row of preld. -/
theorem preld (hint : BitVec 5) (rj : BitVec 5) (i12 : BitVec 12) :
    Statement (.preld hint rj i12) := encI12_agrees 0x0AB#10 i12 rj hint

/-- The row of preldx. -/
theorem preldx (hint : BitVec 5) (rj : BitVec 5) (rk : BitVec 5) :
    Statement (.preldx hint rj rk) := enc3R_agrees 0x07058#17 rk rj hint

/-- The row of ldgt.b. -/
theorem ldgtB (rd : BitVec 5) (rj : BitVec 5) (rk : BitVec 5) :
    Statement (.ldgtB rd rj rk) := enc3R_agrees 0x070F0#17 rk rj rd

/-- The row of ldgt.h. -/
theorem ldgtH (rd : BitVec 5) (rj : BitVec 5) (rk : BitVec 5) :
    Statement (.ldgtH rd rj rk) := enc3R_agrees 0x070F1#17 rk rj rd

/-- The row of ldgt.w. -/
theorem ldgtW (rd : BitVec 5) (rj : BitVec 5) (rk : BitVec 5) :
    Statement (.ldgtW rd rj rk) := enc3R_agrees 0x070F2#17 rk rj rd

/-- The row of ldgt.d. -/
theorem ldgtD (rd : BitVec 5) (rj : BitVec 5) (rk : BitVec 5) :
    Statement (.ldgtD rd rj rk) := enc3R_agrees 0x070F3#17 rk rj rd

/-- The row of ldle.b. -/
theorem ldleB (rd : BitVec 5) (rj : BitVec 5) (rk : BitVec 5) :
    Statement (.ldleB rd rj rk) := enc3R_agrees 0x070F4#17 rk rj rd

/-- The row of ldle.h. -/
theorem ldleH (rd : BitVec 5) (rj : BitVec 5) (rk : BitVec 5) :
    Statement (.ldleH rd rj rk) := enc3R_agrees 0x070F5#17 rk rj rd

/-- The row of ldle.w. -/
theorem ldleW (rd : BitVec 5) (rj : BitVec 5) (rk : BitVec 5) :
    Statement (.ldleW rd rj rk) := enc3R_agrees 0x070F6#17 rk rj rd

/-- The row of ldle.d. -/
theorem ldleD (rd : BitVec 5) (rj : BitVec 5) (rk : BitVec 5) :
    Statement (.ldleD rd rj rk) := enc3R_agrees 0x070F7#17 rk rj rd

/-- The row of stgt.b. -/
theorem stgtB (rd : BitVec 5) (rj : BitVec 5) (rk : BitVec 5) :
    Statement (.stgtB rd rj rk) := enc3R_agrees 0x070F8#17 rk rj rd

/-- The row of stgt.h. -/
theorem stgtH (rd : BitVec 5) (rj : BitVec 5) (rk : BitVec 5) :
    Statement (.stgtH rd rj rk) := enc3R_agrees 0x070F9#17 rk rj rd

/-- The row of stgt.w. -/
theorem stgtW (rd : BitVec 5) (rj : BitVec 5) (rk : BitVec 5) :
    Statement (.stgtW rd rj rk) := enc3R_agrees 0x070FA#17 rk rj rd

/-- The row of stgt.d. -/
theorem stgtD (rd : BitVec 5) (rj : BitVec 5) (rk : BitVec 5) :
    Statement (.stgtD rd rj rk) := enc3R_agrees 0x070FB#17 rk rj rd

/-- The row of stle.b. -/
theorem stleB (rd : BitVec 5) (rj : BitVec 5) (rk : BitVec 5) :
    Statement (.stleB rd rj rk) := enc3R_agrees 0x070FC#17 rk rj rd

/-- The row of stle.h. -/
theorem stleH (rd : BitVec 5) (rj : BitVec 5) (rk : BitVec 5) :
    Statement (.stleH rd rj rk) := enc3R_agrees 0x070FD#17 rk rj rd

/-- The row of stle.w. -/
theorem stleW (rd : BitVec 5) (rj : BitVec 5) (rk : BitVec 5) :
    Statement (.stleW rd rj rk) := enc3R_agrees 0x070FE#17 rk rj rd

/-- The row of stle.d. -/
theorem stleD (rd : BitVec 5) (rj : BitVec 5) (rk : BitVec 5) :
    Statement (.stleD rd rj rk) := enc3R_agrees 0x070FF#17 rk rj rd

/-- The row of amswap.w. -/
theorem amswapW (rd : BitVec 5) (rj : BitVec 5) (rk : BitVec 5) :
    Statement (.amswapW rd rj rk) := enc3R_agrees 0x070C0#17 rk rj rd

/-- The row of amswap.d. -/
theorem amswapD (rd : BitVec 5) (rj : BitVec 5) (rk : BitVec 5) :
    Statement (.amswapD rd rj rk) := enc3R_agrees 0x070C1#17 rk rj rd

/-- The row of amadd.w. -/
theorem amaddW (rd : BitVec 5) (rj : BitVec 5) (rk : BitVec 5) :
    Statement (.amaddW rd rj rk) := enc3R_agrees 0x070C2#17 rk rj rd

/-- The row of amadd.d. -/
theorem amaddD (rd : BitVec 5) (rj : BitVec 5) (rk : BitVec 5) :
    Statement (.amaddD rd rj rk) := enc3R_agrees 0x070C3#17 rk rj rd

/-- The row of amand.w. -/
theorem amandW (rd : BitVec 5) (rj : BitVec 5) (rk : BitVec 5) :
    Statement (.amandW rd rj rk) := enc3R_agrees 0x070C4#17 rk rj rd

/-- The row of amand.d. -/
theorem amandD (rd : BitVec 5) (rj : BitVec 5) (rk : BitVec 5) :
    Statement (.amandD rd rj rk) := enc3R_agrees 0x070C5#17 rk rj rd

/-- The row of amor.w. -/
theorem amorW (rd : BitVec 5) (rj : BitVec 5) (rk : BitVec 5) :
    Statement (.amorW rd rj rk) := enc3R_agrees 0x070C6#17 rk rj rd

/-- The row of amor.d. -/
theorem amorD (rd : BitVec 5) (rj : BitVec 5) (rk : BitVec 5) :
    Statement (.amorD rd rj rk) := enc3R_agrees 0x070C7#17 rk rj rd

/-- The row of amxor.w. -/
theorem amxorW (rd : BitVec 5) (rj : BitVec 5) (rk : BitVec 5) :
    Statement (.amxorW rd rj rk) := enc3R_agrees 0x070C8#17 rk rj rd

/-- The row of amxor.d. -/
theorem amxorD (rd : BitVec 5) (rj : BitVec 5) (rk : BitVec 5) :
    Statement (.amxorD rd rj rk) := enc3R_agrees 0x070C9#17 rk rj rd

/-- The row of ammax.w. -/
theorem ammaxW (rd : BitVec 5) (rj : BitVec 5) (rk : BitVec 5) :
    Statement (.ammaxW rd rj rk) := enc3R_agrees 0x070CA#17 rk rj rd

/-- The row of ammax.d. -/
theorem ammaxD (rd : BitVec 5) (rj : BitVec 5) (rk : BitVec 5) :
    Statement (.ammaxD rd rj rk) := enc3R_agrees 0x070CB#17 rk rj rd

/-- The row of ammin.w. -/
theorem amminW (rd : BitVec 5) (rj : BitVec 5) (rk : BitVec 5) :
    Statement (.amminW rd rj rk) := enc3R_agrees 0x070CC#17 rk rj rd

/-- The row of ammin.d. -/
theorem amminD (rd : BitVec 5) (rj : BitVec 5) (rk : BitVec 5) :
    Statement (.amminD rd rj rk) := enc3R_agrees 0x070CD#17 rk rj rd

/-- The row of ammax.wu. -/
theorem ammaxWu (rd : BitVec 5) (rj : BitVec 5) (rk : BitVec 5) :
    Statement (.ammaxWu rd rj rk) := enc3R_agrees 0x070CE#17 rk rj rd

/-- The row of ammax.du. -/
theorem ammaxDu (rd : BitVec 5) (rj : BitVec 5) (rk : BitVec 5) :
    Statement (.ammaxDu rd rj rk) := enc3R_agrees 0x070CF#17 rk rj rd

/-- The row of ammin.wu. -/
theorem amminWu (rd : BitVec 5) (rj : BitVec 5) (rk : BitVec 5) :
    Statement (.amminWu rd rj rk) := enc3R_agrees 0x070D0#17 rk rj rd

/-- The row of ammin.du. -/
theorem amminDu (rd : BitVec 5) (rj : BitVec 5) (rk : BitVec 5) :
    Statement (.amminDu rd rj rk) := enc3R_agrees 0x070D1#17 rk rj rd

/-- The row of amswap_db.w. -/
theorem amswapDbW (rd : BitVec 5) (rj : BitVec 5) (rk : BitVec 5) :
    Statement (.amswapDbW rd rj rk) := enc3R_agrees 0x070D2#17 rk rj rd

/-- The row of amswap_db.d. -/
theorem amswapDbD (rd : BitVec 5) (rj : BitVec 5) (rk : BitVec 5) :
    Statement (.amswapDbD rd rj rk) := enc3R_agrees 0x070D3#17 rk rj rd

/-- The row of amadd_db.w. -/
theorem amaddDbW (rd : BitVec 5) (rj : BitVec 5) (rk : BitVec 5) :
    Statement (.amaddDbW rd rj rk) := enc3R_agrees 0x070D4#17 rk rj rd

/-- The row of amadd_db.d. -/
theorem amaddDbD (rd : BitVec 5) (rj : BitVec 5) (rk : BitVec 5) :
    Statement (.amaddDbD rd rj rk) := enc3R_agrees 0x070D5#17 rk rj rd

/-- The row of amand_db.w. -/
theorem amandDbW (rd : BitVec 5) (rj : BitVec 5) (rk : BitVec 5) :
    Statement (.amandDbW rd rj rk) := enc3R_agrees 0x070D6#17 rk rj rd

/-- The row of amand_db.d. -/
theorem amandDbD (rd : BitVec 5) (rj : BitVec 5) (rk : BitVec 5) :
    Statement (.amandDbD rd rj rk) := enc3R_agrees 0x070D7#17 rk rj rd

/-- The row of amor_db.w. -/
theorem amorDbW (rd : BitVec 5) (rj : BitVec 5) (rk : BitVec 5) :
    Statement (.amorDbW rd rj rk) := enc3R_agrees 0x070D8#17 rk rj rd

/-- The row of amor_db.d. -/
theorem amorDbD (rd : BitVec 5) (rj : BitVec 5) (rk : BitVec 5) :
    Statement (.amorDbD rd rj rk) := enc3R_agrees 0x070D9#17 rk rj rd

/-- The row of amxor_db.w. -/
theorem amxorDbW (rd : BitVec 5) (rj : BitVec 5) (rk : BitVec 5) :
    Statement (.amxorDbW rd rj rk) := enc3R_agrees 0x070DA#17 rk rj rd

/-- The row of amxor_db.d. -/
theorem amxorDbD (rd : BitVec 5) (rj : BitVec 5) (rk : BitVec 5) :
    Statement (.amxorDbD rd rj rk) := enc3R_agrees 0x070DB#17 rk rj rd

/-- The row of ammax_db.w. -/
theorem ammaxDbW (rd : BitVec 5) (rj : BitVec 5) (rk : BitVec 5) :
    Statement (.ammaxDbW rd rj rk) := enc3R_agrees 0x070DC#17 rk rj rd

/-- The row of ammax_db.d. -/
theorem ammaxDbD (rd : BitVec 5) (rj : BitVec 5) (rk : BitVec 5) :
    Statement (.ammaxDbD rd rj rk) := enc3R_agrees 0x070DD#17 rk rj rd

/-- The row of ammin_db.w. -/
theorem amminDbW (rd : BitVec 5) (rj : BitVec 5) (rk : BitVec 5) :
    Statement (.amminDbW rd rj rk) := enc3R_agrees 0x070DE#17 rk rj rd

/-- The row of ammin_db.d. -/
theorem amminDbD (rd : BitVec 5) (rj : BitVec 5) (rk : BitVec 5) :
    Statement (.amminDbD rd rj rk) := enc3R_agrees 0x070DF#17 rk rj rd

/-- The row of ammax_db.wu. -/
theorem ammaxDbWu (rd : BitVec 5) (rj : BitVec 5) (rk : BitVec 5) :
    Statement (.ammaxDbWu rd rj rk) := enc3R_agrees 0x070E0#17 rk rj rd

/-- The row of ammax_db.du. -/
theorem ammaxDbDu (rd : BitVec 5) (rj : BitVec 5) (rk : BitVec 5) :
    Statement (.ammaxDbDu rd rj rk) := enc3R_agrees 0x070E1#17 rk rj rd

/-- The row of ammin_db.wu. -/
theorem amminDbWu (rd : BitVec 5) (rj : BitVec 5) (rk : BitVec 5) :
    Statement (.amminDbWu rd rj rk) := enc3R_agrees 0x070E2#17 rk rj rd

/-- The row of ammin_db.du. -/
theorem amminDbDu (rd : BitVec 5) (rj : BitVec 5) (rk : BitVec 5) :
    Statement (.amminDbDu rd rj rk) := enc3R_agrees 0x070E3#17 rk rj rd

/-- The row of ll.w. -/
theorem llW (rd : BitVec 5) (rj : BitVec 5) (i14 : BitVec 14) :
    Statement (.llW rd rj i14) := encI14_agrees 0x20#8 i14 rj rd

/-- The row of sc.w. -/
theorem scW (rd : BitVec 5) (rj : BitVec 5) (i14 : BitVec 14) :
    Statement (.scW rd rj i14) := encI14_agrees 0x21#8 i14 rj rd

/-- The row of ll.d. -/
theorem llD (rd : BitVec 5) (rj : BitVec 5) (i14 : BitVec 14) :
    Statement (.llD rd rj i14) := encI14_agrees 0x22#8 i14 rj rd

/-- The row of sc.d. -/
theorem scD (rd : BitVec 5) (rj : BitVec 5) (i14 : BitVec 14) :
    Statement (.scD rd rj i14) := encI14_agrees 0x23#8 i14 rj rd

/-- The row of dbar. -/
theorem dbar (code : BitVec 15) :
    Statement (.dbar code) := encCode_agrees 0x070E4#17 code

/-- The row of ibar. -/
theorem ibar (code : BitVec 15) :
    Statement (.ibar code) := encCode_agrees 0x070E5#17 code

/-- The row of crc.w.b.w. -/
theorem crcWBW (rd : BitVec 5) (rj : BitVec 5) (rk : BitVec 5) :
    Statement (.crcWBW rd rj rk) := enc3R_agrees 0x00048#17 rk rj rd

/-- The row of crc.w.h.w. -/
theorem crcWHW (rd : BitVec 5) (rj : BitVec 5) (rk : BitVec 5) :
    Statement (.crcWHW rd rj rk) := enc3R_agrees 0x00049#17 rk rj rd

/-- The row of crc.w.w.w. -/
theorem crcWWW (rd : BitVec 5) (rj : BitVec 5) (rk : BitVec 5) :
    Statement (.crcWWW rd rj rk) := enc3R_agrees 0x0004A#17 rk rj rd

/-- The row of crc.w.d.w. -/
theorem crcWDW (rd : BitVec 5) (rj : BitVec 5) (rk : BitVec 5) :
    Statement (.crcWDW rd rj rk) := enc3R_agrees 0x0004B#17 rk rj rd

/-- The row of crcc.w.b.w. -/
theorem crccWBW (rd : BitVec 5) (rj : BitVec 5) (rk : BitVec 5) :
    Statement (.crccWBW rd rj rk) := enc3R_agrees 0x0004C#17 rk rj rd

/-- The row of crcc.w.h.w. -/
theorem crccWHW (rd : BitVec 5) (rj : BitVec 5) (rk : BitVec 5) :
    Statement (.crccWHW rd rj rk) := enc3R_agrees 0x0004D#17 rk rj rd

/-- The row of crcc.w.w.w. -/
theorem crccWWW (rd : BitVec 5) (rj : BitVec 5) (rk : BitVec 5) :
    Statement (.crccWWW rd rj rk) := enc3R_agrees 0x0004E#17 rk rj rd

/-- The row of crcc.w.d.w. -/
theorem crccWDW (rd : BitVec 5) (rj : BitVec 5) (rk : BitVec 5) :
    Statement (.crccWDW rd rj rk) := enc3R_agrees 0x0004F#17 rk rj rd

/-- The row of syscall. -/
theorem syscall (code : BitVec 15) :
    Statement (.syscall code) := encCode_agrees 0x00056#17 code

/-- The row of break. -/
theorem brk (code : BitVec 15) :
    Statement (.brk code) := encCode_agrees 0x00054#17 code

/-- The row of asrtle.d. -/
theorem asrtleD (rj : BitVec 5) (rk : BitVec 5) :
    Statement (.asrtleD rj rk) := enc3R_agrees 0x00002#17 rk rj 0#5

/-- The row of asrtgt.d. -/
theorem asrtgtD (rj : BitVec 5) (rk : BitVec 5) :
    Statement (.asrtgtD rj rk) := enc3R_agrees 0x00003#17 rk rj 0#5

/-- The row of rdtimel.w. -/
theorem rdtimelW (rd : BitVec 5) (rj : BitVec 5) :
    Statement (.rdtimelW rd rj) := enc2R_agrees 0x000018#22 rj rd

/-- The row of rdtimeh.w. -/
theorem rdtimehW (rd : BitVec 5) (rj : BitVec 5) :
    Statement (.rdtimehW rd rj) := enc2R_agrees 0x000019#22 rj rd

/-- The row of rdtime.d. -/
theorem rdtimeD (rd : BitVec 5) (rj : BitVec 5) :
    Statement (.rdtimeD rd rj) := enc2R_agrees 0x00001A#22 rj rd

/-- The row of cpucfg. -/
theorem cpucfg (rd : BitVec 5) (rj : BitVec 5) :
    Statement (.cpucfg rd rj) := enc2R_agrees 0x00001B#22 rj rd

/-- The row of fadd.s. -/
theorem faddS (fd : BitVec 5) (fj : BitVec 5) (fk : BitVec 5) :
    Statement (.faddS fd fj fk) := enc3R_agrees 0x00201#17 fk fj fd

/-- The row of fadd.d. -/
theorem faddD (fd : BitVec 5) (fj : BitVec 5) (fk : BitVec 5) :
    Statement (.faddD fd fj fk) := enc3R_agrees 0x00202#17 fk fj fd

/-- The row of fsub.s. -/
theorem fsubS (fd : BitVec 5) (fj : BitVec 5) (fk : BitVec 5) :
    Statement (.fsubS fd fj fk) := enc3R_agrees 0x00205#17 fk fj fd

/-- The row of fsub.d. -/
theorem fsubD (fd : BitVec 5) (fj : BitVec 5) (fk : BitVec 5) :
    Statement (.fsubD fd fj fk) := enc3R_agrees 0x00206#17 fk fj fd

/-- The row of fmul.s. -/
theorem fmulS (fd : BitVec 5) (fj : BitVec 5) (fk : BitVec 5) :
    Statement (.fmulS fd fj fk) := enc3R_agrees 0x00209#17 fk fj fd

/-- The row of fmul.d. -/
theorem fmulD (fd : BitVec 5) (fj : BitVec 5) (fk : BitVec 5) :
    Statement (.fmulD fd fj fk) := enc3R_agrees 0x0020A#17 fk fj fd

/-- The row of fdiv.s. -/
theorem fdivS (fd : BitVec 5) (fj : BitVec 5) (fk : BitVec 5) :
    Statement (.fdivS fd fj fk) := enc3R_agrees 0x0020D#17 fk fj fd

/-- The row of fdiv.d. -/
theorem fdivD (fd : BitVec 5) (fj : BitVec 5) (fk : BitVec 5) :
    Statement (.fdivD fd fj fk) := enc3R_agrees 0x0020E#17 fk fj fd

/-- The row of fmadd.s. -/
theorem fmaddS (fd : BitVec 5) (fj : BitVec 5) (fk : BitVec 5) (fa : BitVec 5) :
    Statement (.fmaddS fd fj fk fa) := enc4R_agrees 0x081#12 fa fk fj fd

/-- The row of fmadd.d. -/
theorem fmaddD (fd : BitVec 5) (fj : BitVec 5) (fk : BitVec 5) (fa : BitVec 5) :
    Statement (.fmaddD fd fj fk fa) := enc4R_agrees 0x082#12 fa fk fj fd

/-- The row of fmsub.s. -/
theorem fmsubS (fd : BitVec 5) (fj : BitVec 5) (fk : BitVec 5) (fa : BitVec 5) :
    Statement (.fmsubS fd fj fk fa) := enc4R_agrees 0x085#12 fa fk fj fd

/-- The row of fmsub.d. -/
theorem fmsubD (fd : BitVec 5) (fj : BitVec 5) (fk : BitVec 5) (fa : BitVec 5) :
    Statement (.fmsubD fd fj fk fa) := enc4R_agrees 0x086#12 fa fk fj fd

/-- The row of fnmadd.s. -/
theorem fnmaddS (fd : BitVec 5) (fj : BitVec 5) (fk : BitVec 5) (fa : BitVec 5) :
    Statement (.fnmaddS fd fj fk fa) := enc4R_agrees 0x089#12 fa fk fj fd

/-- The row of fnmadd.d. -/
theorem fnmaddD (fd : BitVec 5) (fj : BitVec 5) (fk : BitVec 5) (fa : BitVec 5) :
    Statement (.fnmaddD fd fj fk fa) := enc4R_agrees 0x08A#12 fa fk fj fd

/-- The row of fnmsub.s. -/
theorem fnmsubS (fd : BitVec 5) (fj : BitVec 5) (fk : BitVec 5) (fa : BitVec 5) :
    Statement (.fnmsubS fd fj fk fa) := enc4R_agrees 0x08D#12 fa fk fj fd

/-- The row of fnmsub.d. -/
theorem fnmsubD (fd : BitVec 5) (fj : BitVec 5) (fk : BitVec 5) (fa : BitVec 5) :
    Statement (.fnmsubD fd fj fk fa) := enc4R_agrees 0x08E#12 fa fk fj fd

/-- The row of fmax.s. -/
theorem fmaxS (fd : BitVec 5) (fj : BitVec 5) (fk : BitVec 5) :
    Statement (.fmaxS fd fj fk) := enc3R_agrees 0x00211#17 fk fj fd

/-- The row of fmax.d. -/
theorem fmaxD (fd : BitVec 5) (fj : BitVec 5) (fk : BitVec 5) :
    Statement (.fmaxD fd fj fk) := enc3R_agrees 0x00212#17 fk fj fd

/-- The row of fmin.s. -/
theorem fminS (fd : BitVec 5) (fj : BitVec 5) (fk : BitVec 5) :
    Statement (.fminS fd fj fk) := enc3R_agrees 0x00215#17 fk fj fd

/-- The row of fmin.d. -/
theorem fminD (fd : BitVec 5) (fj : BitVec 5) (fk : BitVec 5) :
    Statement (.fminD fd fj fk) := enc3R_agrees 0x00216#17 fk fj fd

/-- The row of fmaxa.s. -/
theorem fmaxaS (fd : BitVec 5) (fj : BitVec 5) (fk : BitVec 5) :
    Statement (.fmaxaS fd fj fk) := enc3R_agrees 0x00219#17 fk fj fd

/-- The row of fmaxa.d. -/
theorem fmaxaD (fd : BitVec 5) (fj : BitVec 5) (fk : BitVec 5) :
    Statement (.fmaxaD fd fj fk) := enc3R_agrees 0x0021A#17 fk fj fd

/-- The row of fmina.s. -/
theorem fminaS (fd : BitVec 5) (fj : BitVec 5) (fk : BitVec 5) :
    Statement (.fminaS fd fj fk) := enc3R_agrees 0x0021D#17 fk fj fd

/-- The row of fmina.d. -/
theorem fminaD (fd : BitVec 5) (fj : BitVec 5) (fk : BitVec 5) :
    Statement (.fminaD fd fj fk) := enc3R_agrees 0x0021E#17 fk fj fd

/-- The row of fabs.s. -/
theorem fabsS (fd : BitVec 5) (fj : BitVec 5) :
    Statement (.fabsS fd fj) := enc2R_agrees 0x004501#22 fj fd

/-- The row of fabs.d. -/
theorem fabsD (fd : BitVec 5) (fj : BitVec 5) :
    Statement (.fabsD fd fj) := enc2R_agrees 0x004502#22 fj fd

/-- The row of fneg.s. -/
theorem fnegS (fd : BitVec 5) (fj : BitVec 5) :
    Statement (.fnegS fd fj) := enc2R_agrees 0x004505#22 fj fd

/-- The row of fneg.d. -/
theorem fnegD (fd : BitVec 5) (fj : BitVec 5) :
    Statement (.fnegD fd fj) := enc2R_agrees 0x004506#22 fj fd

/-- The row of fsqrt.s. -/
theorem fsqrtS (fd : BitVec 5) (fj : BitVec 5) :
    Statement (.fsqrtS fd fj) := enc2R_agrees 0x004511#22 fj fd

/-- The row of fsqrt.d. -/
theorem fsqrtD (fd : BitVec 5) (fj : BitVec 5) :
    Statement (.fsqrtD fd fj) := enc2R_agrees 0x004512#22 fj fd

/-- The row of frecip.s. -/
theorem frecipS (fd : BitVec 5) (fj : BitVec 5) :
    Statement (.frecipS fd fj) := enc2R_agrees 0x004515#22 fj fd

/-- The row of frecip.d. -/
theorem frecipD (fd : BitVec 5) (fj : BitVec 5) :
    Statement (.frecipD fd fj) := enc2R_agrees 0x004516#22 fj fd

/-- The row of frsqrt.s. -/
theorem frsqrtS (fd : BitVec 5) (fj : BitVec 5) :
    Statement (.frsqrtS fd fj) := enc2R_agrees 0x004519#22 fj fd

/-- The row of frsqrt.d. -/
theorem frsqrtD (fd : BitVec 5) (fj : BitVec 5) :
    Statement (.frsqrtD fd fj) := enc2R_agrees 0x00451A#22 fj fd

/-- The row of fscaleb.s. -/
theorem fscalebS (fd : BitVec 5) (fj : BitVec 5) (fk : BitVec 5) :
    Statement (.fscalebS fd fj fk) := enc3R_agrees 0x00221#17 fk fj fd

/-- The row of fscaleb.d. -/
theorem fscalebD (fd : BitVec 5) (fj : BitVec 5) (fk : BitVec 5) :
    Statement (.fscalebD fd fj fk) := enc3R_agrees 0x00222#17 fk fj fd

/-- The row of flogb.s. -/
theorem flogbS (fd : BitVec 5) (fj : BitVec 5) :
    Statement (.flogbS fd fj) := enc2R_agrees 0x004509#22 fj fd

/-- The row of flogb.d. -/
theorem flogbD (fd : BitVec 5) (fj : BitVec 5) :
    Statement (.flogbD fd fj) := enc2R_agrees 0x00450A#22 fj fd

/-- The row of fcopysign.s. -/
theorem fcopysignS (fd : BitVec 5) (fj : BitVec 5) (fk : BitVec 5) :
    Statement (.fcopysignS fd fj fk) := enc3R_agrees 0x00225#17 fk fj fd

/-- The row of fcopysign.d. -/
theorem fcopysignD (fd : BitVec 5) (fj : BitVec 5) (fk : BitVec 5) :
    Statement (.fcopysignD fd fj fk) := enc3R_agrees 0x00226#17 fk fj fd

/-- The row of fclass.s. -/
theorem fclassS (fd : BitVec 5) (fj : BitVec 5) :
    Statement (.fclassS fd fj) := enc2R_agrees 0x00450D#22 fj fd

/-- The row of fclass.d. -/
theorem fclassD (fd : BitVec 5) (fj : BitVec 5) :
    Statement (.fclassD fd fj) := enc2R_agrees 0x00450E#22 fj fd

/-- The row of fcmp.cond.s. -/
theorem fcmpCondS (cd : BitVec 3) (fj : BitVec 5) (fk : BitVec 5) (cond : BitVec 5) :
    Statement (.fcmpCondS cd fj fk cond) := by
  have h0 := cd.isLt
  have h1 := fj.isLt
  have h2 := fk.isLt
  have h3 := cond.isLt
  simp only [Statement, encode, tableFields, Agrees, enc4R_toNat, flagField_toNat, BitVec.reduceToNat,
    Nat.reduceAdd, Nat.reduceSub, Nat.reduceMul, Nat.reducePow, and_true]
  omega

/-- The row of fcmp.cond.d. -/
theorem fcmpCondD (cd : BitVec 3) (fj : BitVec 5) (fk : BitVec 5) (cond : BitVec 5) :
    Statement (.fcmpCondD cd fj fk cond) := by
  have h0 := cd.isLt
  have h1 := fj.isLt
  have h2 := fk.isLt
  have h3 := cond.isLt
  simp only [Statement, encode, tableFields, Agrees, enc4R_toNat, flagField_toNat, BitVec.reduceToNat,
    Nat.reduceAdd, Nat.reduceSub, Nat.reduceMul, Nat.reducePow, and_true]
  omega

/-- The row of fcvt.s.d. -/
theorem fcvtSD (fd : BitVec 5) (fj : BitVec 5) :
    Statement (.fcvtSD fd fj) := enc2R_agrees 0x004646#22 fj fd

/-- The row of fcvt.d.s. -/
theorem fcvtDS (fd : BitVec 5) (fj : BitVec 5) :
    Statement (.fcvtDS fd fj) := enc2R_agrees 0x004649#22 fj fd

/-- The row of ffint.s.w. -/
theorem ffintSW (fd : BitVec 5) (fj : BitVec 5) :
    Statement (.ffintSW fd fj) := enc2R_agrees 0x004744#22 fj fd

/-- The row of ffint.s.l. -/
theorem ffintSL (fd : BitVec 5) (fj : BitVec 5) :
    Statement (.ffintSL fd fj) := enc2R_agrees 0x004746#22 fj fd

/-- The row of ffint.d.w. -/
theorem ffintDW (fd : BitVec 5) (fj : BitVec 5) :
    Statement (.ffintDW fd fj) := enc2R_agrees 0x004748#22 fj fd

/-- The row of ffint.d.l. -/
theorem ffintDL (fd : BitVec 5) (fj : BitVec 5) :
    Statement (.ffintDL fd fj) := enc2R_agrees 0x00474A#22 fj fd

/-- The row of ftint.w.s. -/
theorem ftintWS (fd : BitVec 5) (fj : BitVec 5) :
    Statement (.ftintWS fd fj) := enc2R_agrees 0x0046C1#22 fj fd

/-- The row of ftint.w.d. -/
theorem ftintWD (fd : BitVec 5) (fj : BitVec 5) :
    Statement (.ftintWD fd fj) := enc2R_agrees 0x0046C2#22 fj fd

/-- The row of ftint.l.s. -/
theorem ftintLS (fd : BitVec 5) (fj : BitVec 5) :
    Statement (.ftintLS fd fj) := enc2R_agrees 0x0046C9#22 fj fd

/-- The row of ftint.l.d. -/
theorem ftintLD (fd : BitVec 5) (fj : BitVec 5) :
    Statement (.ftintLD fd fj) := enc2R_agrees 0x0046CA#22 fj fd

/-- The row of ftintrm.w.s. -/
theorem ftintrmWS (fd : BitVec 5) (fj : BitVec 5) :
    Statement (.ftintrmWS fd fj) := enc2R_agrees 0x004681#22 fj fd

/-- The row of ftintrm.w.d. -/
theorem ftintrmWD (fd : BitVec 5) (fj : BitVec 5) :
    Statement (.ftintrmWD fd fj) := enc2R_agrees 0x004682#22 fj fd

/-- The row of ftintrm.l.s. -/
theorem ftintrmLS (fd : BitVec 5) (fj : BitVec 5) :
    Statement (.ftintrmLS fd fj) := enc2R_agrees 0x004689#22 fj fd

/-- The row of ftintrm.l.d. -/
theorem ftintrmLD (fd : BitVec 5) (fj : BitVec 5) :
    Statement (.ftintrmLD fd fj) := enc2R_agrees 0x00468A#22 fj fd

/-- The row of ftintrp.w.s. -/
theorem ftintrpWS (fd : BitVec 5) (fj : BitVec 5) :
    Statement (.ftintrpWS fd fj) := enc2R_agrees 0x004691#22 fj fd

/-- The row of ftintrp.w.d. -/
theorem ftintrpWD (fd : BitVec 5) (fj : BitVec 5) :
    Statement (.ftintrpWD fd fj) := enc2R_agrees 0x004692#22 fj fd

/-- The row of ftintrp.l.s. -/
theorem ftintrpLS (fd : BitVec 5) (fj : BitVec 5) :
    Statement (.ftintrpLS fd fj) := enc2R_agrees 0x004699#22 fj fd

/-- The row of ftintrp.l.d. -/
theorem ftintrpLD (fd : BitVec 5) (fj : BitVec 5) :
    Statement (.ftintrpLD fd fj) := enc2R_agrees 0x00469A#22 fj fd

/-- The row of ftintrz.w.s. -/
theorem ftintrzWS (fd : BitVec 5) (fj : BitVec 5) :
    Statement (.ftintrzWS fd fj) := enc2R_agrees 0x0046A1#22 fj fd

/-- The row of ftintrz.w.d. -/
theorem ftintrzWD (fd : BitVec 5) (fj : BitVec 5) :
    Statement (.ftintrzWD fd fj) := enc2R_agrees 0x0046A2#22 fj fd

/-- The row of ftintrz.l.s. -/
theorem ftintrzLS (fd : BitVec 5) (fj : BitVec 5) :
    Statement (.ftintrzLS fd fj) := enc2R_agrees 0x0046A9#22 fj fd

/-- The row of ftintrz.l.d. -/
theorem ftintrzLD (fd : BitVec 5) (fj : BitVec 5) :
    Statement (.ftintrzLD fd fj) := enc2R_agrees 0x0046AA#22 fj fd

/-- The row of ftintrne.w.s. -/
theorem ftintrneWS (fd : BitVec 5) (fj : BitVec 5) :
    Statement (.ftintrneWS fd fj) := enc2R_agrees 0x0046B1#22 fj fd

/-- The row of ftintrne.w.d. -/
theorem ftintrneWD (fd : BitVec 5) (fj : BitVec 5) :
    Statement (.ftintrneWD fd fj) := enc2R_agrees 0x0046B2#22 fj fd

/-- The row of ftintrne.l.s. -/
theorem ftintrneLS (fd : BitVec 5) (fj : BitVec 5) :
    Statement (.ftintrneLS fd fj) := enc2R_agrees 0x0046B9#22 fj fd

/-- The row of ftintrne.l.d. -/
theorem ftintrneLD (fd : BitVec 5) (fj : BitVec 5) :
    Statement (.ftintrneLD fd fj) := enc2R_agrees 0x0046BA#22 fj fd

/-- The row of frint.s. -/
theorem frintS (fd : BitVec 5) (fj : BitVec 5) :
    Statement (.frintS fd fj) := enc2R_agrees 0x004791#22 fj fd

/-- The row of frint.d. -/
theorem frintD (fd : BitVec 5) (fj : BitVec 5) :
    Statement (.frintD fd fj) := enc2R_agrees 0x004792#22 fj fd

/-- The row of fmov.s. -/
theorem fmovS (fd : BitVec 5) (fj : BitVec 5) :
    Statement (.fmovS fd fj) := enc2R_agrees 0x004525#22 fj fd

/-- The row of fmov.d. -/
theorem fmovD (fd : BitVec 5) (fj : BitVec 5) :
    Statement (.fmovD fd fj) := enc2R_agrees 0x004526#22 fj fd

/-- The row of fsel. -/
theorem fsel (fd : BitVec 5) (fj : BitVec 5) (fk : BitVec 5) (ca : BitVec 3) :
    Statement (.fsel fd fj fk ca) := encSa3_agrees 0x0340#14 ca fk fj fd

/-- The row of movgr2fr.w. -/
theorem movgr2frW (fd : BitVec 5) (rj : BitVec 5) :
    Statement (.movgr2frW fd rj) := enc2R_agrees 0x004529#22 rj fd

/-- The row of movgr2fr.d. -/
theorem movgr2frD (fd : BitVec 5) (rj : BitVec 5) :
    Statement (.movgr2frD fd rj) := enc2R_agrees 0x00452A#22 rj fd

/-- The row of movgr2frh.w. -/
theorem movgr2frhW (fd : BitVec 5) (rj : BitVec 5) :
    Statement (.movgr2frhW fd rj) := enc2R_agrees 0x00452B#22 rj fd

/-- The row of movfr2gr.s. -/
theorem movfr2grS (rd : BitVec 5) (fj : BitVec 5) :
    Statement (.movfr2grS rd fj) := enc2R_agrees 0x00452D#22 fj rd

/-- The row of movfr2gr.d. -/
theorem movfr2grD (rd : BitVec 5) (fj : BitVec 5) :
    Statement (.movfr2grD rd fj) := enc2R_agrees 0x00452E#22 fj rd

/-- The row of movfrh2gr.s. -/
theorem movfrh2grS (rd : BitVec 5) (fj : BitVec 5) :
    Statement (.movfrh2grS rd fj) := enc2R_agrees 0x00452F#22 fj rd

/-- The row of movgr2fcsr. -/
theorem movgr2fcsr (fcsr : BitVec 5) (rj : BitVec 5) :
    Statement (.movgr2fcsr fcsr rj) := enc2R_agrees 0x004530#22 rj fcsr

/-- The row of movfcsr2gr. -/
theorem movfcsr2gr (rd : BitVec 5) (fcsr : BitVec 5) :
    Statement (.movfcsr2gr rd fcsr) := enc2R_agrees 0x004532#22 fcsr rd

/-- The row of movfr2cf. -/
theorem movfr2cf (cd : BitVec 3) (fj : BitVec 5) :
    Statement (.movfr2cf cd fj) := by
  have h0 := cd.isLt
  have h1 := fj.isLt
  simp only [Statement, encode, tableFields, Agrees, enc2R_toNat, flagField_toNat, BitVec.reduceToNat,
    Nat.reduceAdd, Nat.reduceSub, Nat.reduceMul, Nat.reducePow, and_true]
  omega

/-- The row of movcf2fr. -/
theorem movcf2fr (fd : BitVec 5) (cj : BitVec 3) :
    Statement (.movcf2fr fd cj) := by
  have h0 := fd.isLt
  have h1 := cj.isLt
  simp only [Statement, encode, tableFields, Agrees, enc2R_toNat, flagField_toNat, BitVec.reduceToNat,
    Nat.reduceAdd, Nat.reduceSub, Nat.reduceMul, Nat.reducePow, and_true]
  omega

/-- The row of movgr2cf. -/
theorem movgr2cf (cd : BitVec 3) (rj : BitVec 5) :
    Statement (.movgr2cf cd rj) := by
  have h0 := cd.isLt
  have h1 := rj.isLt
  simp only [Statement, encode, tableFields, Agrees, enc2R_toNat, flagField_toNat, BitVec.reduceToNat,
    Nat.reduceAdd, Nat.reduceSub, Nat.reduceMul, Nat.reducePow, and_true]
  omega

/-- The row of movcf2gr. -/
theorem movcf2gr (rd : BitVec 5) (cj : BitVec 3) :
    Statement (.movcf2gr rd cj) := by
  have h0 := rd.isLt
  have h1 := cj.isLt
  simp only [Statement, encode, tableFields, Agrees, enc2R_toNat, flagField_toNat, BitVec.reduceToNat,
    Nat.reduceAdd, Nat.reduceSub, Nat.reduceMul, Nat.reducePow, and_true]
  omega

/-- The row of bceqz. -/
theorem bceqz (cj : BitVec 3) (offs : BitVec 21) :
    Statement (.bceqz cj offs) := by
  have h0 := cj.isLt
  have h1 := offs.isLt
  simp only [Statement, encode, tableFields, Agrees, encOffs21_toNat, flagField_toNat, BitVec.reduceToNat,
    Nat.reduceAdd, Nat.reduceSub, Nat.reduceMul, Nat.reducePow, and_true]
  have hl : offs.toNat % 65536 < 65536 := Nat.mod_lt _ (by decide)
  have hh : offs.toNat / 65536 < 32 := by omega
  generalize offs.toNat % 65536 = lo at *
  generalize offs.toNat / 65536 = hi at *
  omega

/-- The row of bcnez. -/
theorem bcnez (cj : BitVec 3) (offs : BitVec 21) :
    Statement (.bcnez cj offs) := by
  have h0 := cj.isLt
  have h1 := offs.isLt
  simp only [Statement, encode, tableFields, Agrees, encOffs21_toNat, flagField_toNat, BitVec.reduceToNat,
    Nat.reduceAdd, Nat.reduceSub, Nat.reduceMul, Nat.reducePow, and_true]
  have hl : offs.toNat % 65536 < 65536 := Nat.mod_lt _ (by decide)
  have hh : offs.toNat / 65536 < 32 := by omega
  generalize offs.toNat % 65536 = lo at *
  generalize offs.toNat / 65536 = hi at *
  omega

/-- The row of fld.s. -/
theorem fldS (fd : BitVec 5) (rj : BitVec 5) (i12 : BitVec 12) :
    Statement (.fldS fd rj i12) := encI12_agrees 0x0AC#10 i12 rj fd

/-- The row of fld.d. -/
theorem fldD (fd : BitVec 5) (rj : BitVec 5) (i12 : BitVec 12) :
    Statement (.fldD fd rj i12) := encI12_agrees 0x0AE#10 i12 rj fd

/-- The row of fst.s. -/
theorem fstS (fd : BitVec 5) (rj : BitVec 5) (i12 : BitVec 12) :
    Statement (.fstS fd rj i12) := encI12_agrees 0x0AD#10 i12 rj fd

/-- The row of fst.d. -/
theorem fstD (fd : BitVec 5) (rj : BitVec 5) (i12 : BitVec 12) :
    Statement (.fstD fd rj i12) := encI12_agrees 0x0AF#10 i12 rj fd

/-- The row of fldx.s. -/
theorem fldxS (fd : BitVec 5) (rj : BitVec 5) (rk : BitVec 5) :
    Statement (.fldxS fd rj rk) := enc3R_agrees 0x07060#17 rk rj fd

/-- The row of fldx.d. -/
theorem fldxD (fd : BitVec 5) (rj : BitVec 5) (rk : BitVec 5) :
    Statement (.fldxD fd rj rk) := enc3R_agrees 0x07068#17 rk rj fd

/-- The row of fstx.s. -/
theorem fstxS (fd : BitVec 5) (rj : BitVec 5) (rk : BitVec 5) :
    Statement (.fstxS fd rj rk) := enc3R_agrees 0x07070#17 rk rj fd

/-- The row of fstx.d. -/
theorem fstxD (fd : BitVec 5) (rj : BitVec 5) (rk : BitVec 5) :
    Statement (.fstxD fd rj rk) := enc3R_agrees 0x07078#17 rk rj fd

/-- The row of fldgt.s. -/
theorem fldgtS (fd : BitVec 5) (rj : BitVec 5) (rk : BitVec 5) :
    Statement (.fldgtS fd rj rk) := enc3R_agrees 0x070E8#17 rk rj fd

/-- The row of fldgt.d. -/
theorem fldgtD (fd : BitVec 5) (rj : BitVec 5) (rk : BitVec 5) :
    Statement (.fldgtD fd rj rk) := enc3R_agrees 0x070E9#17 rk rj fd

/-- The row of fldle.s. -/
theorem fldleS (fd : BitVec 5) (rj : BitVec 5) (rk : BitVec 5) :
    Statement (.fldleS fd rj rk) := enc3R_agrees 0x070EA#17 rk rj fd

/-- The row of fldle.d. -/
theorem fldleD (fd : BitVec 5) (rj : BitVec 5) (rk : BitVec 5) :
    Statement (.fldleD fd rj rk) := enc3R_agrees 0x070EB#17 rk rj fd

/-- The row of fstgt.s. -/
theorem fstgtS (fd : BitVec 5) (rj : BitVec 5) (rk : BitVec 5) :
    Statement (.fstgtS fd rj rk) := enc3R_agrees 0x070EC#17 rk rj fd

/-- The row of fstgt.d. -/
theorem fstgtD (fd : BitVec 5) (rj : BitVec 5) (rk : BitVec 5) :
    Statement (.fstgtD fd rj rk) := enc3R_agrees 0x070ED#17 rk rj fd

/-- The row of fstle.s. -/
theorem fstleS (fd : BitVec 5) (rj : BitVec 5) (rk : BitVec 5) :
    Statement (.fstleS fd rj rk) := enc3R_agrees 0x070EE#17 rk rj fd

/-- The row of fstle.d. -/
theorem fstleD (fd : BitVec 5) (rj : BitVec 5) (rk : BitVec 5) :
    Statement (.fstleD fd rj rk) := enc3R_agrees 0x070EF#17 rk rj fd

/-- The row of csrrd. -/
theorem csrrd (rd : BitVec 5) (csr : BitVec 14) :
    Statement (.csrrd rd csr) := encI14_agrees 0x04#8 csr 0x00#5 rd

/-- The row of csrwr. -/
theorem csrwr (rd : BitVec 5) (csr : BitVec 14) :
    Statement (.csrwr rd csr) := encI14_agrees 0x04#8 csr 0x01#5 rd

/-- The row of csrxchg. -/
theorem csrxchg (rd : BitVec 5) (rj : BitVec 5) (csr : BitVec 14) :
    Statement (.csrxchg rd rj csr) := encI14_agrees 0x04#8 csr rj rd

/-- The row of iocsrrd.b. -/
theorem iocsrrdB (rd : BitVec 5) (rj : BitVec 5) :
    Statement (.iocsrrdB rd rj) := enc2R_agrees 0x019200#22 rj rd

/-- The row of iocsrrd.h. -/
theorem iocsrrdH (rd : BitVec 5) (rj : BitVec 5) :
    Statement (.iocsrrdH rd rj) := enc2R_agrees 0x019201#22 rj rd

/-- The row of iocsrrd.w. -/
theorem iocsrrdW (rd : BitVec 5) (rj : BitVec 5) :
    Statement (.iocsrrdW rd rj) := enc2R_agrees 0x019202#22 rj rd

/-- The row of iocsrrd.d. -/
theorem iocsrrdD (rd : BitVec 5) (rj : BitVec 5) :
    Statement (.iocsrrdD rd rj) := enc2R_agrees 0x019203#22 rj rd

/-- The row of iocsrwr.b. -/
theorem iocsrwrB (rd : BitVec 5) (rj : BitVec 5) :
    Statement (.iocsrwrB rd rj) := enc2R_agrees 0x019204#22 rj rd

/-- The row of iocsrwr.h. -/
theorem iocsrwrH (rd : BitVec 5) (rj : BitVec 5) :
    Statement (.iocsrwrH rd rj) := enc2R_agrees 0x019205#22 rj rd

/-- The row of iocsrwr.w. -/
theorem iocsrwrW (rd : BitVec 5) (rj : BitVec 5) :
    Statement (.iocsrwrW rd rj) := enc2R_agrees 0x019206#22 rj rd

/-- The row of iocsrwr.d. -/
theorem iocsrwrD (rd : BitVec 5) (rj : BitVec 5) :
    Statement (.iocsrwrD rd rj) := enc2R_agrees 0x019207#22 rj rd

/-- The row of cacop. -/
theorem cacop (code : BitVec 5) (rj : BitVec 5) (si12 : BitVec 12) :
    Statement (.cacop code rj si12) := encI12_agrees 0x018#10 si12 rj code

/-- The row of tlbsrch. -/
theorem tlbsrch :
    Statement (.tlbsrch) := ⟨rfl, trivial⟩

/-- The row of tlbrd. -/
theorem tlbrd :
    Statement (.tlbrd) := ⟨rfl, trivial⟩

/-- The row of tlbwr. -/
theorem tlbwr :
    Statement (.tlbwr) := ⟨rfl, trivial⟩

/-- The row of tlbfill. -/
theorem tlbfill :
    Statement (.tlbfill) := ⟨rfl, trivial⟩

/-- The row of tlbclr. -/
theorem tlbclr :
    Statement (.tlbclr) := ⟨rfl, trivial⟩

/-- The row of tlbflush. -/
theorem tlbflush :
    Statement (.tlbflush) := ⟨rfl, trivial⟩

/-- The row of invtlb. -/
theorem invtlb (op : BitVec 5) (rj : BitVec 5) (rk : BitVec 5) :
    Statement (.invtlb op rj rk) := enc3R_agrees 0x00C93#17 rk rj op

/-- The row of ertn. -/
theorem ertn :
    Statement (.ertn) := ⟨rfl, trivial⟩

/-- The row of dbcl. -/
theorem dbcl (code : BitVec 15) :
    Statement (.dbcl code) := encCode_agrees 0x00055#17 code

/-- The row of idle. -/
theorem idle (code : BitVec 15) :
    Statement (.idle code) := encCode_agrees 0x00C91#17 code

/-- The row of lddir. -/
theorem lddir (rd : BitVec 5) (rj : BitVec 5) (i8 : BitVec 8) :
    Statement (.lddir rd rj i8) := encI8_agrees 0x0190#14 i8 rj rd

/-- The row of ldpte. -/
theorem ldpte (rj : BitVec 5) (seq : BitVec 8) :
    Statement (.ldpte rj seq) := encI8_agrees 0x0191#14 seq rj 0#5

end Sys2Proof.Laws.OpcodeRow
end

