-- ==== Sys2Proof/Tests/Slice0.lean ====
section
/-!
SUPPORT. The package's own tests: ill-formed terms refused, words written out from the encoding tables decoded, one
step of single instructions, and for every statement with hypotheses a state and operands that meet them. Expected
results are those of spec/95_test_vectors.md and spec/96_test_vectors_fp_priv.md (derived there from the rule cited
in the line above a test), never the model's own answer.
-/

namespace Sys2Proof.Tests

open Sys2Proof.Machine

set_option maxRecDepth 20000

/-! ## Well-formedness: CSRXCHG with rj 0 or 1 is refused (those words are CSRRD and CSRWR) -/

theorem test_illformed_csrxchg_r0 : ¬WellFormed (.csrxchg 4#5 0#5 0#14) := by decide
theorem test_illformed_csrxchg_r1 : ¬WellFormed (.csrxchg 4#5 1#5 0x20#14) := by decide
theorem test_wellformed_csrxchg_r2 : WellFormed (.csrxchg 4#5 2#5 0x20#14) := by decide
theorem test_illformed_word_is_csrrd : decode 0x04008004#32 = some (.csrrd 4#5 0x20#14) := rfl
theorem test_illformed_word_is_csrwr : decode 0x04008024#32 = some (.csrwr 4#5 0x20#14) := rfl

/-! ## Decoding, every row of the table once: fixed bits and fields placed by hand from spec/opcode_table.json -/

theorem test_decode_addW_to_andi :
    [0x00107153#32, 0x00117153#32, 0x0010F153#32, 0x0011F153#32, 0x02B85953#32, 0x02F85953#32, 0x13785953#32,
     0x00057153#32, 0x00077153#32, 0x002D7153#32, 0x145BC2D3#32, 0x165BC2D3#32, 0x03385953#32, 0x00127153#32,
     0x0012F153#32, 0x02385953#32, 0x02785953#32, 0x185BC2D3#32, 0x1C5BC2D3#32, 0x1E5BC2D3#32, 0x1A5BC2D3#32,
     0x0014F153#32, 0x00157153#32, 0x00147153#32, 0x0015F153#32, 0x0016F153#32, 0x00167153#32, 0x03785953#32].map decode =
    [.addW 0x13#5 0xa#5 0x1c#5, .subW 0x13#5 0xa#5 0x1c#5, .addD 0x13#5 0xa#5 0x1c#5,
     .subD 0x13#5 0xa#5 0x1c#5, .addiW 0x13#5 0xa#5 0xe16#12, .addiD 0x13#5 0xa#5 0xe16#12,
     .addu16iD 0x13#5 0xa#5 0xde16#16, .alslW 0x13#5 0xa#5 0x1c#5 2#2, .alslWu 0x13#5 0xa#5 0x1c#5 2#2,
     .alslD 0x13#5 0xa#5 0x1c#5 2#2, .lu12iW 0x13#5 0x2de16#20, .lu32iD 0x13#5 0x2de16#20,
     .lu52iD 0x13#5 0xa#5 0xe16#12, .slt 0x13#5 0xa#5 0x1c#5, .sltu 0x13#5 0xa#5 0x1c#5,
     .slti 0x13#5 0xa#5 0xe16#12, .sltui 0x13#5 0xa#5 0xe16#12, .pcaddi 0x13#5 0x2de16#20,
     .pcaddu12i 0x13#5 0x2de16#20, .pcaddu18i 0x13#5 0x2de16#20, .pcalau12i 0x13#5 0x2de16#20,
     .and 0x13#5 0xa#5 0x1c#5, .or 0x13#5 0xa#5 0x1c#5, .nor 0x13#5 0xa#5 0x1c#5,
     .xor 0x13#5 0xa#5 0x1c#5, .andn 0x13#5 0xa#5 0x1c#5, .orn 0x13#5 0xa#5 0x1c#5,
     .andi 0x13#5 0xa#5 0xe16#12].map some := rfl

theorem test_decode_ori_to_srlD :
    [0x03B85953#32, 0x03F85953#32, 0x001C7153#32, 0x001CF153#32, 0x001D7153#32, 0x001DF153#32, 0x001E7153#32,
     0x001EF153#32, 0x001F7153#32, 0x001FF153#32, 0x00207153#32, 0x0020F153#32, 0x00217153#32, 0x0021F153#32,
     0x00227153#32, 0x0022F153#32, 0x00237153#32, 0x0023F153#32, 0x00177153#32, 0x0017F153#32, 0x00187153#32,
     0x001B7153#32, 0x0040D953#32, 0x0044D953#32, 0x0048D953#32, 0x004CD953#32, 0x0018F153#32, 0x00197153#32].map decode =
    [.ori 0x13#5 0xa#5 0xe16#12, .xori 0x13#5 0xa#5 0xe16#12, .mulW 0x13#5 0xa#5 0x1c#5,
     .mulhW 0x13#5 0xa#5 0x1c#5, .mulhWu 0x13#5 0xa#5 0x1c#5, .mulD 0x13#5 0xa#5 0x1c#5,
     .mulhD 0x13#5 0xa#5 0x1c#5, .mulhDu 0x13#5 0xa#5 0x1c#5, .mulwDW 0x13#5 0xa#5 0x1c#5,
     .mulwDWu 0x13#5 0xa#5 0x1c#5, .divW 0x13#5 0xa#5 0x1c#5, .modW 0x13#5 0xa#5 0x1c#5,
     .divWu 0x13#5 0xa#5 0x1c#5, .modWu 0x13#5 0xa#5 0x1c#5, .divD 0x13#5 0xa#5 0x1c#5,
     .modD 0x13#5 0xa#5 0x1c#5, .divDu 0x13#5 0xa#5 0x1c#5, .modDu 0x13#5 0xa#5 0x1c#5,
     .sllW 0x13#5 0xa#5 0x1c#5, .srlW 0x13#5 0xa#5 0x1c#5, .sraW 0x13#5 0xa#5 0x1c#5,
     .rotrW 0x13#5 0xa#5 0x1c#5, .slliW 0x13#5 0xa#5 0x16#5, .srliW 0x13#5 0xa#5 0x16#5,
     .sraiW 0x13#5 0xa#5 0x16#5, .rotriW 0x13#5 0xa#5 0x16#5, .sllD 0x13#5 0xa#5 0x1c#5,
     .srlD 0x13#5 0xa#5 0x1c#5].map some := rfl

theorem test_decode_sraD_to_bitrevD :
    [0x0019F153#32, 0x001BF153#32, 0x00415953#32, 0x00455953#32, 0x00495953#32, 0x004D5953#32, 0x00005D53#32,
     0x00005953#32, 0x00001153#32, 0x00001553#32, 0x00001953#32, 0x00001D53#32, 0x00002153#32, 0x00002553#32,
     0x00002953#32, 0x00002D53#32, 0x00097153#32, 0x000F7153#32, 0x00003153#32, 0x00003553#32, 0x00003953#32,
     0x00003D53#32, 0x00004153#32, 0x00004553#32, 0x00004953#32, 0x00004D53#32, 0x00005153#32, 0x00005553#32].map decode =
    [.sraD 0x13#5 0xa#5 0x1c#5, .rotrD 0x13#5 0xa#5 0x1c#5, .slliD 0x13#5 0xa#5 0x16#6,
     .srliD 0x13#5 0xa#5 0x16#6, .sraiD 0x13#5 0xa#5 0x16#6, .rotriD 0x13#5 0xa#5 0x16#6,
     .extWB 0x13#5 0xa#5, .extWH 0x13#5 0xa#5, .cloW 0x13#5 0xa#5,
     .clzW 0x13#5 0xa#5, .ctoW 0x13#5 0xa#5, .ctzW 0x13#5 0xa#5,
     .cloD 0x13#5 0xa#5, .clzD 0x13#5 0xa#5, .ctoD 0x13#5 0xa#5,
     .ctzD 0x13#5 0xa#5, .bytepickW 0x13#5 0xa#5 0x1c#5 2#2, .bytepickD 0x13#5 0xa#5 0x1c#5 6#3,
     .revb2h 0x13#5 0xa#5, .revb4h 0x13#5 0xa#5, .revb2w 0x13#5 0xa#5,
     .revbD 0x13#5 0xa#5, .revh2w 0x13#5 0xa#5, .revhD 0x13#5 0xa#5,
     .bitrev4b 0x13#5 0xa#5, .bitrev8b 0x13#5 0xa#5, .bitrevW 0x13#5 0xa#5,
     .bitrevD 0x13#5 0xa#5].map some := rfl

theorem test_decode_bstrinsW_to_stD :
    [0x00765953#32, 0x00965953#32, 0x0076D953#32, 0x00D65953#32, 0x00137153#32, 0x0013F153#32, 0x5B785953#32,
     0x5F785953#32, 0x63785953#32, 0x67785953#32, 0x6B785953#32, 0x6F785953#32, 0x43785952#32, 0x47785952#32,
     0x53785872#32, 0x57785872#32, 0x4F785953#32, 0x28385953#32, 0x28785953#32, 0x28B85953#32, 0x28F85953#32,
     0x2A385953#32, 0x2A785953#32, 0x2AB85953#32, 0x29385953#32, 0x29785953#32, 0x29B85953#32, 0x29F85953#32].map decode =
    [.bstrinsW 0x13#5 0xa#5 0x16#5 0x16#5, .bstrinsD 0x13#5 0xa#5 0x16#6 0x16#6, .bstrpickW 0x13#5 0xa#5 0x16#5 0x16#5,
     .bstrpickD 0x13#5 0xa#5 0x16#6 0x16#6, .maskeqz 0x13#5 0xa#5 0x1c#5, .masknez 0x13#5 0xa#5 0x1c#5,
     .beq 0x13#5 0xa#5 0xde16#16, .bne 0x13#5 0xa#5 0xde16#16, .blt 0x13#5 0xa#5 0xde16#16,
     .bge 0x13#5 0xa#5 0xde16#16, .bltu 0x13#5 0xa#5 0xde16#16, .bgeu 0x13#5 0xa#5 0xde16#16,
     .beqz 0xa#5 0x12de16#21, .bnez 0xa#5 0x12de16#21, .b 0x72de16#26,
     .bl 0x72de16#26, .jirl 0x13#5 0xa#5 0xde16#16, .ldB 0x13#5 0xa#5 0xe16#12,
     .ldH 0x13#5 0xa#5 0xe16#12, .ldW 0x13#5 0xa#5 0xe16#12, .ldD 0x13#5 0xa#5 0xe16#12,
     .ldBu 0x13#5 0xa#5 0xe16#12, .ldHu 0x13#5 0xa#5 0xe16#12, .ldWu 0x13#5 0xa#5 0xe16#12,
     .stB 0x13#5 0xa#5 0xe16#12, .stH 0x13#5 0xa#5 0xe16#12, .stW 0x13#5 0xa#5 0xe16#12,
     .stD 0x13#5 0xa#5 0xe16#12].map some := rfl

theorem test_decode_ldxB_to_stgtW :
    [0x38007153#32, 0x38047153#32, 0x38087153#32, 0x380C7153#32, 0x38207153#32, 0x38247153#32, 0x38287153#32,
     0x38107153#32, 0x38147153#32, 0x38187153#32, 0x381C7153#32, 0x24785953#32, 0x26785953#32, 0x25785953#32,
     0x27785953#32, 0x2AF85955#32, 0x382C7155#32, 0x38787153#32, 0x3878F153#32, 0x38797153#32, 0x3879F153#32,
     0x387A7153#32, 0x387AF153#32, 0x387B7153#32, 0x387BF153#32, 0x387C7153#32, 0x387CF153#32, 0x387D7153#32].map decode =
    [.ldxB 0x13#5 0xa#5 0x1c#5, .ldxH 0x13#5 0xa#5 0x1c#5, .ldxW 0x13#5 0xa#5 0x1c#5,
     .ldxD 0x13#5 0xa#5 0x1c#5, .ldxBu 0x13#5 0xa#5 0x1c#5, .ldxHu 0x13#5 0xa#5 0x1c#5,
     .ldxWu 0x13#5 0xa#5 0x1c#5, .stxB 0x13#5 0xa#5 0x1c#5, .stxH 0x13#5 0xa#5 0x1c#5,
     .stxW 0x13#5 0xa#5 0x1c#5, .stxD 0x13#5 0xa#5 0x1c#5, .ldptrW 0x13#5 0xa#5 0x1e16#14,
     .ldptrD 0x13#5 0xa#5 0x1e16#14, .stptrW 0x13#5 0xa#5 0x1e16#14, .stptrD 0x13#5 0xa#5 0x1e16#14,
     .preld 0x15#5 0xa#5 0xe16#12, .preldx 0x15#5 0xa#5 0x1c#5, .ldgtB 0x13#5 0xa#5 0x1c#5,
     .ldgtH 0x13#5 0xa#5 0x1c#5, .ldgtW 0x13#5 0xa#5 0x1c#5, .ldgtD 0x13#5 0xa#5 0x1c#5,
     .ldleB 0x13#5 0xa#5 0x1c#5, .ldleH 0x13#5 0xa#5 0x1c#5, .ldleW 0x13#5 0xa#5 0x1c#5,
     .ldleD 0x13#5 0xa#5 0x1c#5, .stgtB 0x13#5 0xa#5 0x1c#5, .stgtH 0x13#5 0xa#5 0x1c#5,
     .stgtW 0x13#5 0xa#5 0x1c#5].map some := rfl

theorem test_decode_stgtD_to_amandDbW :
    [0x387DF153#32, 0x387E7153#32, 0x387EF153#32, 0x387F7153#32, 0x387FF153#32, 0x38607153#32, 0x3860F153#32,
     0x38617153#32, 0x3861F153#32, 0x38627153#32, 0x3862F153#32, 0x38637153#32, 0x3863F153#32, 0x38647153#32,
     0x3864F153#32, 0x38657153#32, 0x3865F153#32, 0x38667153#32, 0x3866F153#32, 0x38677153#32, 0x3867F153#32,
     0x38687153#32, 0x3868F153#32, 0x38697153#32, 0x3869F153#32, 0x386A7153#32, 0x386AF153#32, 0x386B7153#32].map decode =
    [.stgtD 0x13#5 0xa#5 0x1c#5, .stleB 0x13#5 0xa#5 0x1c#5, .stleH 0x13#5 0xa#5 0x1c#5,
     .stleW 0x13#5 0xa#5 0x1c#5, .stleD 0x13#5 0xa#5 0x1c#5, .amswapW 0x13#5 0xa#5 0x1c#5,
     .amswapD 0x13#5 0xa#5 0x1c#5, .amaddW 0x13#5 0xa#5 0x1c#5, .amaddD 0x13#5 0xa#5 0x1c#5,
     .amandW 0x13#5 0xa#5 0x1c#5, .amandD 0x13#5 0xa#5 0x1c#5, .amorW 0x13#5 0xa#5 0x1c#5,
     .amorD 0x13#5 0xa#5 0x1c#5, .amxorW 0x13#5 0xa#5 0x1c#5, .amxorD 0x13#5 0xa#5 0x1c#5,
     .ammaxW 0x13#5 0xa#5 0x1c#5, .ammaxD 0x13#5 0xa#5 0x1c#5, .amminW 0x13#5 0xa#5 0x1c#5,
     .amminD 0x13#5 0xa#5 0x1c#5, .ammaxWu 0x13#5 0xa#5 0x1c#5, .ammaxDu 0x13#5 0xa#5 0x1c#5,
     .amminWu 0x13#5 0xa#5 0x1c#5, .amminDu 0x13#5 0xa#5 0x1c#5, .amswapDbW 0x13#5 0xa#5 0x1c#5,
     .amswapDbD 0x13#5 0xa#5 0x1c#5, .amaddDbW 0x13#5 0xa#5 0x1c#5, .amaddDbD 0x13#5 0xa#5 0x1c#5,
     .amandDbW 0x13#5 0xa#5 0x1c#5].map some := rfl

theorem test_decode_amandDbD_to_syscall :
    [0x386BF153#32, 0x386C7153#32, 0x386CF153#32, 0x386D7153#32, 0x386DF153#32, 0x386E7153#32, 0x386EF153#32,
     0x386F7153#32, 0x386FF153#32, 0x38707153#32, 0x3870F153#32, 0x38717153#32, 0x3871F153#32, 0x20785953#32,
     0x21785953#32, 0x22785953#32, 0x23785953#32, 0x38725A33#32, 0x3872DA33#32, 0x00247153#32, 0x0024F153#32,
     0x00257153#32, 0x0025F153#32, 0x00267153#32, 0x0026F153#32, 0x00277153#32, 0x0027F153#32, 0x002B5A33#32].map decode =
    [.amandDbD 0x13#5 0xa#5 0x1c#5, .amorDbW 0x13#5 0xa#5 0x1c#5, .amorDbD 0x13#5 0xa#5 0x1c#5,
     .amxorDbW 0x13#5 0xa#5 0x1c#5, .amxorDbD 0x13#5 0xa#5 0x1c#5, .ammaxDbW 0x13#5 0xa#5 0x1c#5,
     .ammaxDbD 0x13#5 0xa#5 0x1c#5, .amminDbW 0x13#5 0xa#5 0x1c#5, .amminDbD 0x13#5 0xa#5 0x1c#5,
     .ammaxDbWu 0x13#5 0xa#5 0x1c#5, .ammaxDbDu 0x13#5 0xa#5 0x1c#5, .amminDbWu 0x13#5 0xa#5 0x1c#5,
     .amminDbDu 0x13#5 0xa#5 0x1c#5, .llW 0x13#5 0xa#5 0x1e16#14, .scW 0x13#5 0xa#5 0x1e16#14,
     .llD 0x13#5 0xa#5 0x1e16#14, .scD 0x13#5 0xa#5 0x1e16#14, .dbar 0x5a33#15,
     .ibar 0x5a33#15, .crcWBW 0x13#5 0xa#5 0x1c#5, .crcWHW 0x13#5 0xa#5 0x1c#5,
     .crcWWW 0x13#5 0xa#5 0x1c#5, .crcWDW 0x13#5 0xa#5 0x1c#5, .crccWBW 0x13#5 0xa#5 0x1c#5,
     .crccWHW 0x13#5 0xa#5 0x1c#5, .crccWWW 0x13#5 0xa#5 0x1c#5, .crccWDW 0x13#5 0xa#5 0x1c#5,
     .syscall 0x5a33#15].map some := rfl

theorem test_decode_brk_to_fmaxaS :
    [0x002A5A33#32, 0x00017140#32, 0x0001F140#32, 0x00006153#32, 0x00006553#32, 0x00006953#32, 0x00006D53#32,
     0x0100F153#32, 0x01017153#32, 0x0102F153#32, 0x01037153#32, 0x0104F153#32, 0x01057153#32, 0x0106F153#32,
     0x01077153#32, 0x08137153#32, 0x08237153#32, 0x08537153#32, 0x08637153#32, 0x08937153#32, 0x08A37153#32,
     0x08D37153#32, 0x08E37153#32, 0x0108F153#32, 0x01097153#32, 0x010AF153#32, 0x010B7153#32, 0x010CF153#32].map decode =
    [.brk 0x5a33#15, .asrtleD 0xa#5 0x1c#5, .asrtgtD 0xa#5 0x1c#5,
     .rdtimelW 0x13#5 0xa#5, .rdtimehW 0x13#5 0xa#5, .rdtimeD 0x13#5 0xa#5,
     .cpucfg 0x13#5 0xa#5, .faddS 0x13#5 0xa#5 0x1c#5, .faddD 0x13#5 0xa#5 0x1c#5,
     .fsubS 0x13#5 0xa#5 0x1c#5, .fsubD 0x13#5 0xa#5 0x1c#5, .fmulS 0x13#5 0xa#5 0x1c#5,
     .fmulD 0x13#5 0xa#5 0x1c#5, .fdivS 0x13#5 0xa#5 0x1c#5, .fdivD 0x13#5 0xa#5 0x1c#5,
     .fmaddS 0x13#5 0xa#5 0x1c#5 6#5, .fmaddD 0x13#5 0xa#5 0x1c#5 6#5, .fmsubS 0x13#5 0xa#5 0x1c#5 6#5,
     .fmsubD 0x13#5 0xa#5 0x1c#5 6#5, .fnmaddS 0x13#5 0xa#5 0x1c#5 6#5, .fnmaddD 0x13#5 0xa#5 0x1c#5 6#5,
     .fnmsubS 0x13#5 0xa#5 0x1c#5 6#5, .fnmsubD 0x13#5 0xa#5 0x1c#5 6#5, .fmaxS 0x13#5 0xa#5 0x1c#5,
     .fmaxD 0x13#5 0xa#5 0x1c#5, .fminS 0x13#5 0xa#5 0x1c#5, .fminD 0x13#5 0xa#5 0x1c#5,
     .fmaxaS 0x13#5 0xa#5 0x1c#5].map some := rfl

theorem test_decode_fmaxaD_to_ffintDW :
    [0x010D7153#32, 0x010EF153#32, 0x010F7153#32, 0x01140553#32, 0x01140953#32, 0x01141553#32, 0x01141953#32,
     0x01144553#32, 0x01144953#32, 0x01145553#32, 0x01145953#32, 0x01146553#32, 0x01146953#32, 0x0110F153#32,
     0x01117153#32, 0x01142553#32, 0x01142953#32, 0x0112F153#32, 0x01137153#32, 0x01143553#32, 0x01143953#32,
     0x0C12F145#32, 0x0C22F145#32, 0x01191953#32, 0x01192553#32, 0x011D1153#32, 0x011D1953#32, 0x011D2153#32].map decode =
    [.fmaxaD 0x13#5 0xa#5 0x1c#5, .fminaS 0x13#5 0xa#5 0x1c#5, .fminaD 0x13#5 0xa#5 0x1c#5,
     .fabsS 0x13#5 0xa#5, .fabsD 0x13#5 0xa#5, .fnegS 0x13#5 0xa#5,
     .fnegD 0x13#5 0xa#5, .fsqrtS 0x13#5 0xa#5, .fsqrtD 0x13#5 0xa#5,
     .frecipS 0x13#5 0xa#5, .frecipD 0x13#5 0xa#5, .frsqrtS 0x13#5 0xa#5,
     .frsqrtD 0x13#5 0xa#5, .fscalebS 0x13#5 0xa#5 0x1c#5, .fscalebD 0x13#5 0xa#5 0x1c#5,
     .flogbS 0x13#5 0xa#5, .flogbD 0x13#5 0xa#5, .fcopysignS 0x13#5 0xa#5 0x1c#5,
     .fcopysignD 0x13#5 0xa#5 0x1c#5, .fclassS 0x13#5 0xa#5, .fclassD 0x13#5 0xa#5,
     .fcmpCondS 5#3 0xa#5 0x1c#5 5#5, .fcmpCondD 5#3 0xa#5 0x1c#5 5#5, .fcvtSD 0x13#5 0xa#5,
     .fcvtDS 0x13#5 0xa#5, .ffintSW 0x13#5 0xa#5, .ffintSL 0x13#5 0xa#5,
     .ffintDW 0x13#5 0xa#5].map some := rfl

theorem test_decode_ffintDL_to_movgr2frD :
    [0x011D2953#32, 0x011B0553#32, 0x011B0953#32, 0x011B2553#32, 0x011B2953#32, 0x011A0553#32, 0x011A0953#32,
     0x011A2553#32, 0x011A2953#32, 0x011A4553#32, 0x011A4953#32, 0x011A6553#32, 0x011A6953#32, 0x011A8553#32,
     0x011A8953#32, 0x011AA553#32, 0x011AA953#32, 0x011AC553#32, 0x011AC953#32, 0x011AE553#32, 0x011AE953#32,
     0x011E4553#32, 0x011E4953#32, 0x01149553#32, 0x01149953#32, 0x0D01F153#32, 0x0114A553#32, 0x0114A953#32].map decode =
    [.ffintDL 0x13#5 0xa#5, .ftintWS 0x13#5 0xa#5, .ftintWD 0x13#5 0xa#5,
     .ftintLS 0x13#5 0xa#5, .ftintLD 0x13#5 0xa#5, .ftintrmWS 0x13#5 0xa#5,
     .ftintrmWD 0x13#5 0xa#5, .ftintrmLS 0x13#5 0xa#5, .ftintrmLD 0x13#5 0xa#5,
     .ftintrpWS 0x13#5 0xa#5, .ftintrpWD 0x13#5 0xa#5, .ftintrpLS 0x13#5 0xa#5,
     .ftintrpLD 0x13#5 0xa#5, .ftintrzWS 0x13#5 0xa#5, .ftintrzWD 0x13#5 0xa#5,
     .ftintrzLS 0x13#5 0xa#5, .ftintrzLD 0x13#5 0xa#5, .ftintrneWS 0x13#5 0xa#5,
     .ftintrneWD 0x13#5 0xa#5, .ftintrneLS 0x13#5 0xa#5, .ftintrneLD 0x13#5 0xa#5,
     .frintS 0x13#5 0xa#5, .frintD 0x13#5 0xa#5, .fmovS 0x13#5 0xa#5,
     .fmovD 0x13#5 0xa#5, .fsel 0x13#5 0xa#5 0x1c#5 3#3, .movgr2frW 0x13#5 0xa#5,
     .movgr2frD 0x13#5 0xa#5].map some := rfl

theorem test_decode_movgr2frhW_to_fstleD :
    [0x0114AD53#32, 0x0114B553#32, 0x0114B953#32, 0x0114BD53#32, 0x0114C142#32, 0x0114C853#32, 0x0114D145#32,
     0x0114D4D3#32, 0x0114D945#32, 0x0114DCD3#32, 0x4B7858D2#32, 0x4B7859D2#32, 0x2B385953#32, 0x2BB85953#32,
     0x2B785953#32, 0x2BF85953#32, 0x38307153#32, 0x38347153#32, 0x38387153#32, 0x383C7153#32, 0x38747153#32,
     0x3874F153#32, 0x38757153#32, 0x3875F153#32, 0x38767153#32, 0x3876F153#32, 0x38777153#32, 0x3877F153#32].map decode =
    [.movgr2frhW 0x13#5 0xa#5, .movfr2grS 0x13#5 0xa#5, .movfr2grD 0x13#5 0xa#5,
     .movfrh2grS 0x13#5 0xa#5, .movgr2fcsr 2#5 0xa#5, .movfcsr2gr 0x13#5 2#5,
     .movfr2cf 5#3 0xa#5, .movcf2fr 0x13#5 6#3, .movgr2cf 5#3 0xa#5,
     .movcf2gr 0x13#5 6#3, .bceqz 6#3 0x12de16#21, .bcnez 6#3 0x12de16#21,
     .fldS 0x13#5 0xa#5 0xe16#12, .fldD 0x13#5 0xa#5 0xe16#12, .fstS 0x13#5 0xa#5 0xe16#12,
     .fstD 0x13#5 0xa#5 0xe16#12, .fldxS 0x13#5 0xa#5 0x1c#5, .fldxD 0x13#5 0xa#5 0x1c#5,
     .fstxS 0x13#5 0xa#5 0x1c#5, .fstxD 0x13#5 0xa#5 0x1c#5, .fldgtS 0x13#5 0xa#5 0x1c#5,
     .fldgtD 0x13#5 0xa#5 0x1c#5, .fldleS 0x13#5 0xa#5 0x1c#5, .fldleD 0x13#5 0xa#5 0x1c#5,
     .fstgtS 0x13#5 0xa#5 0x1c#5, .fstgtD 0x13#5 0xa#5 0x1c#5, .fstleS 0x13#5 0xa#5 0x1c#5,
     .fstleD 0x13#5 0xa#5 0x1c#5].map some := rfl

theorem test_decode_csrrd_to_ldpte :
    [0x04AC5C13#32, 0x04AC5C33#32, 0x04AC5D53#32, 0x06480153#32, 0x06480553#32, 0x06480953#32, 0x06480D53#32,
     0x06481153#32, 0x06481553#32, 0x06481953#32, 0x06481D53#32, 0x06385953#32, 0x06482800#32, 0x06482C00#32,
     0x06483000#32, 0x06483400#32, 0x06482000#32, 0x06482400#32, 0x0649F156#32, 0x06483800#32, 0x002ADA33#32,
     0x0648DA33#32, 0x06405953#32, 0x06445940#32].map decode =
    [.csrrd 0x13#5 0x2b17#14, .csrwr 0x13#5 0x2b17#14, .csrxchg 0x13#5 0xa#5 0x2b17#14,
     .iocsrrdB 0x13#5 0xa#5, .iocsrrdH 0x13#5 0xa#5, .iocsrrdW 0x13#5 0xa#5,
     .iocsrrdD 0x13#5 0xa#5, .iocsrwrB 0x13#5 0xa#5, .iocsrwrH 0x13#5 0xa#5,
     .iocsrwrW 0x13#5 0xa#5, .iocsrwrD 0x13#5 0xa#5, .cacop 0x13#5 0xa#5 0xe16#12,
     .tlbsrch, .tlbrd, .tlbwr,
     .tlbfill, .tlbclr, .tlbflush,
     .invtlb 0x16#5 0xa#5 0x1c#5, .ertn, .dbcl 0x5a33#15,
     .idle 0x5a33#15, .lddir 0x13#5 0xa#5 0x16#8, .ldpte 0xa#5 0x16#8].map some := rfl

theorem test_zero_word_undefined : decode 0#32 = none := rfl
/-- R615: the low five bits of ASRTLE.D are part of the opcode. -/
theorem test_asrtle_low_bits_checked : decode 0x000118A1#32 = none := rfl
/-- The table's bit numbering: four bytes, the least significant at the lowest address. -/
theorem test_decodeTableWord : decodeTableWord 32 0x02BFFCA4 = some (.addiW 4#5 5#5 0xFFF#12) := rfl

/-! ## One step of one instruction -/

/-- The reset state with the floating-point unit enabled. -/
def base : State := { State.reset with csr := { State.reset.csr with euen := 1 } }

/-- `base` with general registers set. -/
def withGr (l : List (Reg × Word)) : State := l.foldl (fun s p => s.setGr p.1 p.2) base

/-- `base` with floating-point registers set. -/
def withFr (l : List (Reg × Word)) : State := l.foldl (fun s p => s.setFr p.1 p.2) base

/-- `s` at `pc`. -/
def atPc (pc : Word) (s : State) : State := { s with pc := pc }

/-- The memory image of spec/95_test_vectors.md 2.4: byte 0x1000 + i holds 0x80 + i. -/
def image (s : State) : State :=
  { s with mem := (List.range 32).map fun i => (0x1000 + i, BitVec.ofNat 8 (0x80 + i)) }

/-- The doubleword 0xFFFFFFFE80000005 at 0x2000, on coherent cached memory (spec/95_test_vectors.md 2.5). -/
def amImage (s : State) : State :=
  { s with
    mem := [(0x2000, 5), (0x2003, 0x80), (0x2004, 0xFE), (0x2005, 0xFF), (0x2006, 0xFF), (0x2007, 0xFF)]
    csr := { s.csr with crmd := 0x88 } }

/-- The word decodes, its instruction completes in `s`, and `p` holds of the state it leaves. -/
noncomputable def runs (w : BitVec 32) (s : State) (p : State → Bool) : Bool :=
  match decode w with
  | some i =>
    match exec i { s with curInsn := w } with
    | .next t => p t
    | _ => false
  | none => false

/-- The general exception taken. -/
def took (e : BitVec 6) (sub : BitVec 9) (t : State) : Bool :=
  t.csr.estat.extractLsb' 16 6 == e && t.csr.estat.extractLsb' 22 9 == sub

/-- The bytes from `a` up. -/
def bytes (a : Nat) (l : List Byte) (t : State) : Bool :=
  (List.range l.length).map (fun i => t.memByte (a + i)) == l

-- R401
theorem test_addW :
    runs 0x001018A4 (withGr [(5, 0xDEADBEEF00000001), (6, 0x1234567800000002)])
      (fun t => t.getGr 4 == 3) = true := by decide
-- R403
theorem test_subW :
    runs 0x001118A4 (withGr [(5, 0x80000000), (6, 0x1)])
      (fun t => t.getGr 4 == 0x7FFFFFFF) = true := by decide
-- R414
theorem test_slt :
    runs 0x001218A4 (withGr [(5, 0x8000000000000000), (6, 0x7FFFFFFFFFFFFFFF)])
      (fun t => t.getGr 4 == 1) = true := by decide
-- R415
theorem test_sltu :
    runs 0x001298A4 (withGr [(5, 0x0), (6, 0xFFFFFFFFFFFFFFFF)])
      (fun t => t.getGr 4 == 1) = true := by decide
-- R424
theorem test_nor :
    runs 0x001418A4 (withGr [(5, 0x123456789ABCDEF), (6, 0xFF00FF00FF00FF)])
      (fun t => t.getGr 4 == 0xFE00BA0076003200) = true := by decide
-- R426
theorem test_andn :
    runs 0x001698A4 (withGr [(5, 0x123456789ABCDEF), (6, 0xFF00FF00FF00FF)])
      (fun t => t.getGr 4 == 0x10045008900CD00) = true := by decide
-- R427
theorem test_orn :
    runs 0x001618A4 (withGr [(5, 0x123456789ABCDEF), (6, 0xFF00FF00FF00FF)])
      (fun t => t.getGr 4 == 0xFF23FF67FFABFFEF) = true := by decide
-- R432
theorem test_mulW :
    runs 0x001C18A4 (withGr [(5, 0xFFFFFFFF), (6, 0xFFFFFFFF)])
      (fun t => t.getGr 4 == 1) = true := by decide
-- R434
theorem test_mulhW :
    runs 0x001C98A4 (withGr [(5, 0x7FFFFFFF), (6, 0x7FFFFFFF)])
      (fun t => t.getGr 4 == 0x3FFFFFFF) = true := by decide
-- R435
theorem test_mulhWu :
    runs 0x001D18A4 (withGr [(5, 0xFFFFFFFF), (6, 0xFFFFFFFF)])
      (fun t => t.getGr 4 == 0xFFFFFFFFFFFFFFFE) = true := by decide
-- R433
theorem test_mulD :
    runs 0x001D98A4 (withGr [(5, 0x8000000000000000), (6, 0xFFFFFFFFFFFFFFFF)])
      (fun t => t.getGr 4 == 0x8000000000000000) = true := by decide
-- R436
theorem test_mulhD :
    runs 0x001E18A4 (withGr [(5, 0xFFFFFFFFFFFFFFFF), (6, 0x1)])
      (fun t => t.getGr 4 == 0xFFFFFFFFFFFFFFFF) = true := by decide
-- R437
theorem test_mulhDu :
    runs 0x001E98A4 (withGr [(5, 0xFFFFFFFFFFFFFFFF), (6, 0xFFFFFFFFFFFFFFFF)])
      (fun t => t.getGr 4 == 0xFFFFFFFFFFFFFFFE) = true := by decide
-- R438
theorem test_mulwDW :
    runs 0x001F18A4 (withGr [(5, 0x1234567880000000), (6, 0x1)])
      (fun t => t.getGr 4 == 0xFFFFFFFF80000000) = true := by decide
-- R439
theorem test_mulwDWu :
    runs 0x001F98A4 (withGr [(5, 0xFFFFFFFF), (6, 0xFFFFFFFF)])
      (fun t => t.getGr 4 == 0xFFFFFFFE00000001) = true := by decide
-- R441
theorem test_divW :
    runs 0x002018A4 (withGr [(5, 0x80000000), (6, 0xFFFFFFFF)])
      (fun t => t.getGr 4 == 0xFFFFFFFF80000000) = true := by decide
-- R442
theorem test_modW :
    runs 0x002098A4 (withGr [(5, 0xFFFFFFF9), (6, 0xFFFFFFFE)])
      (fun t => t.getGr 4 == 0xFFFFFFFFFFFFFFFF) = true := by decide
-- R443
theorem test_divWu :
    runs 0x002118A4 (withGr [(5, 0xFFFFFFFF), (6, 0x1)])
      (fun t => t.getGr 4 == 0xFFFFFFFFFFFFFFFF) = true := by decide
-- R444
theorem test_modWu :
    runs 0x002198A4 (withGr [(5, 0x80000001), (6, 0x80000000)])
      (fun t => t.getGr 4 == 1) = true := by decide
-- R445
theorem test_divD :
    runs 0x002218A4 (withGr [(5, 0xFFFFFFFFFFFFFFF9), (6, 0x2)])
      (fun t => t.getGr 4 == 0xFFFFFFFFFFFFFFFD) = true := by decide
-- R446
theorem test_modD :
    runs 0x002298A4 (withGr [(5, 0xFFFFFFFFFFFFFFF9), (6, 0x2)])
      (fun t => t.getGr 4 == 0xFFFFFFFFFFFFFFFF) = true := by decide
-- R447
theorem test_divDu :
    runs 0x002318A4 (withGr [(5, 0x8000000000000000), (6, 0x3)])
      (fun t => t.getGr 4 == 0x2AAAAAAAAAAAAAAA) = true := by decide
-- R448
theorem test_modDu :
    runs 0x002398A4 (withGr [(5, 0x8000000000000000), (6, 0x3)])
      (fun t => t.getGr 4 == 2) = true := by decide
-- R405
theorem test_addiW :
    runs 0x028004A4 (withGr [(5, 0x7FFFFFFF)])
      (fun t => t.getGr 4 == 0xFFFFFFFF80000000) = true := by decide
-- R406
theorem test_addiD :
    runs 0x02E000A4 (withGr [(5, 0x0)])
      (fun t => t.getGr 4 == 0xFFFFFFFFFFFFF800) = true := by decide
-- R416
theorem test_slti : runs 0x023FFCA4 (withGr [(5, 0xFFFFFFFFFFFFFFFE)]) (fun t => t.getGr 4 == 1) = true := by decide
-- R417
theorem test_sltui : runs 0x027FFCA4 (withGr [(5, 0xFFFFFFFFFFFFFFFE)]) (fun t => t.getGr 4 == 1) = true := by decide
-- R428
theorem test_andi :
    runs 0x037FFCA4 (withGr [(5, 0xFFFFFFFFFFFFFFFF)])
      (fun t => t.getGr 4 == 0xFFF) = true := by decide
-- R429
theorem test_ori : runs 0x03A000A4 (withGr [(5, 0x0)]) (fun t => t.getGr 4 == 0x800) = true := by decide
-- R430
theorem test_xori :
    runs 0x03FFFCA4 (withGr [(5, 0xFFFFFFFFFFFFFFFF)])
      (fun t => t.getGr 4 == 0xFFFFFFFFFFFFF000) = true := by decide
-- R413
theorem test_lu52iD :
    runs 0x031FFCA4 (withGr [(5, 0xFFFFFFFFFFFFF)])
      (fun t => t.getGr 4 == 0x7FFFFFFFFFFFFFFF) = true := by decide
-- R407
theorem test_addu16iD :
    runs 0x120000A4 (withGr [(5, 0x0)])
      (fun t => t.getGr 4 == 0xFFFFFFFF80000000) = true := by decide
-- R408
theorem test_alslW :
    runs 0x000598A4 (withGr [(5, 0x8000000), (6, 0x0)])
      (fun t => t.getGr 4 == 0xFFFFFFFF80000000) = true := by decide
-- R409
theorem test_alslWu :
    runs 0x000618A4 (withGr [(5, 0xFFFFFFFF), (6, 0xFFFFFFFF)])
      (fun t => t.getGr 4 == 0xFFFFFFFD) = true := by decide
-- R410
theorem test_alslD :
    runs 0x002D98A4 (withGr [(5, 0x8000000000000001), (6, 0x0)])
      (fun t => t.getGr 4 == 0x10) = true := by decide
-- R411
theorem test_lu12iW : runs 0x15FFFFE4 base (fun t => t.getGr 4 == 0xFFFFFFFFFFFFF000) = true := by decide
-- R412
theorem test_lu32iD :
    runs 0x17000004 (withGr [(4, 0x12345678)])
      (fun t => t.getGr 4 == 0xFFF8000012345678) = true := by decide
-- R418
theorem test_pcaddi : runs 0x19FFFFE4 (atPc 0x1C000000 base) (fun t => t.getGr 4 == 0x1BFFFFFC) = true := by decide
-- R419
theorem test_pcaddu12i : runs 0x1CFFFFE4 (atPc 0x1C000000 base) (fun t => t.getGr 4 == 0x9BFFF000) = true := by decide
-- R420
theorem test_pcaddu18i : runs 0x1FFFFFE4 (atPc 0x1C000000 base) (fun t => t.getGr 4 == 0x1BFC0000) = true := by decide
-- R421
theorem test_pcalau12i : runs 0x1BFFFFE4 (atPc 0x1C000FFC base) (fun t => t.getGr 4 == 0x1BFFF000) = true := by decide
-- R451
theorem test_sllW :
    runs 0x001718A4 (withGr [(5, 0xFFFFFFFF00000001), (6, 0x3F)])
      (fun t => t.getGr 4 == 0xFFFFFFFF80000000) = true := by decide
-- R452
theorem test_srlW :
    runs 0x001798A4 (withGr [(5, 0x123456789ABCDEF), (6, 0x4)])
      (fun t => t.getGr 4 == 0x89ABCDE) = true := by decide
-- R453
theorem test_sraW :
    runs 0x001818A4 (withGr [(5, 0x123456789ABCDEF), (6, 0x24)])
      (fun t => t.getGr 4 == 0xFFFFFFFFF89ABCDE) = true := by decide
-- R454
theorem test_rotrW :
    runs 0x001B18A4 (withGr [(5, 0x123456789ABCDEF), (6, 0x8)])
      (fun t => t.getGr 4 == 0xFFFFFFFFEF89ABCD) = true := by decide
-- R459
theorem test_sllD : runs 0x001898A4 (withGr [(5, 0x1), (6, 0x40)]) (fun t => t.getGr 4 == 1) = true := by decide
-- R460
theorem test_srlD :
    runs 0x001918A4 (withGr [(5, 0x8000000000000000), (6, 0x3F)])
      (fun t => t.getGr 4 == 1) = true := by decide
-- R461
theorem test_sraD :
    runs 0x001998A4 (withGr [(5, 0x8000000000000000), (6, 0x7F)])
      (fun t => t.getGr 4 == 0xFFFFFFFFFFFFFFFF) = true := by decide
-- R462
theorem test_rotrD :
    runs 0x001B98A4 (withGr [(5, 0x123456789ABCDEF), (6, 0x4)])
      (fun t => t.getGr 4 == 0xF0123456789ABCDE) = true := by decide
-- R455
theorem test_slliW :
    runs 0x004084A4 (withGr [(5, 0x40000000)])
      (fun t => t.getGr 4 == 0xFFFFFFFF80000000) = true := by decide
-- R456
theorem test_srliW : runs 0x0044FCA4 (withGr [(5, 0xFFFFFFFF80000000)]) (fun t => t.getGr 4 == 1) = true := by decide
-- R457
theorem test_sraiW :
    runs 0x004884A4 (withGr [(5, 0x80000000)])
      (fun t => t.getGr 4 == 0xFFFFFFFFC0000000) = true := by decide
-- R458
theorem test_rotriW : runs 0x004CFCA4 (withGr [(5, 0x80000001)]) (fun t => t.getGr 4 == 3) = true := by decide
-- R463
theorem test_slliD :
    runs 0x0041FCA4 (withGr [(5, 0x123456789ABCDEF)])
      (fun t => t.getGr 4 == 0x8000000000000000) = true := by decide
-- R466
theorem test_rotriD :
    runs 0x004DF0A4 (withGr [(5, 0x123456789ABCDEF)])
      (fun t => t.getGr 4 == 0x123456789ABCDEF0) = true := by decide
-- R467
theorem test_extWB :
    runs 0x00005CA4 (withGr [(5, 0x1234567F80)])
      (fun t => t.getGr 4 == 0xFFFFFFFFFFFFFF80) = true := by decide
-- R468
theorem test_extWH :
    runs 0x000058A4 (withGr [(5, 0x8000)])
      (fun t => t.getGr 4 == 0xFFFFFFFFFFFF8000) = true := by decide
-- R469
theorem test_cloW : runs 0x000010A4 (withGr [(5, 0xFFFFFFFF7FFFFFFF)]) (fun t => t.getGr 4 == 0) = true := by decide
-- R470
theorem test_clzW :
    runs 0x000014A4 (withGr [(5, 0xFFFFFFFF00000001)])
      (fun t => t.getGr 4 == 0x1F) = true := by decide
-- R471
theorem test_ctoW : runs 0x000018A4 (withGr [(5, 0xFFFFFFFF)]) (fun t => t.getGr 4 == 0x20) = true := by decide
-- R472
theorem test_ctzW : runs 0x00001CA4 (withGr [(5, 0x80000000)]) (fun t => t.getGr 4 == 0x1F) = true := by decide
-- R473
theorem test_cloD :
    runs 0x000020A4 (withGr [(5, 0xFFFF000000000000)])
      (fun t => t.getGr 4 == 0x10) = true := by decide
-- R474
theorem test_clzD : runs 0x000024A4 (withGr [(5, 0x1)]) (fun t => t.getGr 4 == 0x3F) = true := by decide
-- R475
theorem test_ctoD : runs 0x000028A4 (withGr [(5, 0x7)]) (fun t => t.getGr 4 == 3) = true := by decide
-- R476
theorem test_ctzD :
    runs 0x00002CA4 (withGr [(5, 0x8000000000000000)])
      (fun t => t.getGr 4 == 0x3F) = true := by decide
-- R479
theorem test_revb2h :
    runs 0x000030A4 (withGr [(5, 0x123456789ABCDEF)])
      (fun t => t.getGr 4 == 0xFFFFFFFFAB89EFCD) = true := by decide
-- R480
theorem test_revb4h :
    runs 0x000034A4 (withGr [(5, 0x123456789ABCDEF)])
      (fun t => t.getGr 4 == 0x23016745AB89EFCD) = true := by decide
-- R481
theorem test_revb2w :
    runs 0x000038A4 (withGr [(5, 0x123456789ABCDEF)])
      (fun t => t.getGr 4 == 0x67452301EFCDAB89) = true := by decide
-- R482
theorem test_revbD :
    runs 0x00003CA4 (withGr [(5, 0x123456789ABCDEF)])
      (fun t => t.getGr 4 == 0xEFCDAB8967452301) = true := by decide
-- R483
theorem test_revh2w :
    runs 0x000040A4 (withGr [(5, 0x123456789ABCDEF)])
      (fun t => t.getGr 4 == 0x45670123CDEF89AB) = true := by decide
-- R484
theorem test_revhD :
    runs 0x000044A4 (withGr [(5, 0x123456789ABCDEF)])
      (fun t => t.getGr 4 == 0xCDEF89AB45670123) = true := by decide
-- R485
theorem test_bitrev4b :
    runs 0x000048A4 (withGr [(5, 0x123456789ABCDEF)])
      (fun t => t.getGr 4 == 0xFFFFFFFF91D5B3F7) = true := by decide
-- R486
theorem test_bitrev8b :
    runs 0x00004CA4 (withGr [(5, 0x123456789ABCDEF)])
      (fun t => t.getGr 4 == 0x80C4A2E691D5B3F7) = true := by decide
-- R487
theorem test_bitrevW :
    runs 0x000050A4 (withGr [(5, 0x123456789ABCDEF)])
      (fun t => t.getGr 4 == 0xFFFFFFFFF7B3D591) = true := by decide
-- R488
theorem test_bitrevD :
    runs 0x000054A4 (withGr [(5, 0x123456789ABCDEF)])
      (fun t => t.getGr 4 == 0xF7B3D591E6A2C480) = true := by decide
-- R477
theorem test_bytepickW :
    runs 0x000898A4 (withGr [(5, 0x80BBCCDD), (6, 0x112233FF)])
      (fun t => t.getGr 4 == 0x2233FF80) = true := by decide
-- R478
theorem test_bytepickD :
    runs 0x000C98A4 (withGr [(5, 0x99AABBCCDDEEFF00), (6, 0x1122334455667788)])
      (fun t => t.getGr 4 == 0x2233445566778899) = true := by decide
-- R493
theorem test_maskeqz :
    runs 0x001318A4 (withGr [(5, 0x123456789ABCDEF), (6, 0x8000000000000000)])
      (fun t => t.getGr 4 == 0x123456789ABCDEF) = true := by decide
-- R494
theorem test_masknez :
    runs 0x001398A4 (withGr [(5, 0x123456789ABCDEF), (6, 0x0)])
      (fun t => t.getGr 4 == 0x123456789ABCDEF && t.getGr 6 == 0) = true := by decide
-- R489
theorem test_bstrinsW :
    runs 0x006300A4 (withGr [(4, 0xAAAAAAAA55555555), (5, 0xF)])
      (fun t => t.getGr 4 == 0x5555555F) = true := by decide
-- R491
theorem test_bstrpickW :
    runs 0x007F80A4 (withGr [(5, 0x80000000)])
      (fun t => t.getGr 4 == 0xFFFFFFFF80000000) = true := by decide
-- R490
theorem test_bstrinsD :
    runs 0x00BFE0A4 (withGr [(4, 0x123456789ABCDEF), (5, 0xFF)])
      (fun t => t.getGr 4 == 0xFF23456789ABCDEF) = true := by decide
-- R492
theorem test_bstrpickD :
    runs 0x00DF00A4 (withGr [(5, 0x123456789ABCDEF)])
      (fun t => t.getGr 4 == 0x89ABCDEF) = true := by decide
-- R501
theorem test_beq :
    runs 0x5BFFFCA6 (atPc 0x1C000010 (withGr [(5, 0x7), (6, 0x100000007)]))
      (fun t => t.pc == 0x1C000014) = true := by decide
-- R502
theorem test_bne :
    runs 0x5E0000A6 (atPc 0x1C020000 (withGr [(5, 0x1), (6, 0x2)]))
      (fun t => t.pc == 0x1C000000) = true := by decide
-- R503
theorem test_blt :
    runs 0x600008A6 (atPc 0x1000 (withGr [(5, 0xFFFFFFFFFFFFFFFF), (6, 0x1)]))
      (fun t => t.pc == 0x1008) = true := by decide
-- R505
theorem test_bltu :
    runs 0x680008A6 (atPc 0x1000 (withGr [(5, 0xFFFFFFFFFFFFFFFF), (6, 0x1)]))
      (fun t => t.pc == 0x1004) = true := by decide
-- R504
theorem test_bge :
    runs 0x640008A6 (atPc 0x1000 (withGr [(5, 0x8000000000000000), (6, 0x0)]))
      (fun t => t.pc == 0x1004) = true := by decide
-- R506
theorem test_bgeu :
    runs 0x6C0008A6 (atPc 0x1000 (withGr [(5, 0x8000000000000000), (6, 0x0)]))
      (fun t => t.pc == 0x1008) = true := by decide
-- R507
theorem test_beqz :
    runs 0x400000B0 (atPc 0x1C400000 (withGr [(5, 0x0)]))
      (fun t => t.pc == 0x1C000000) = true := by decide
-- R508
theorem test_bnez :
    runs 0x47FFF8BF (atPc 0x1008 (withGr [(5, 0x100000000)]))
      (fun t => t.pc == 0x1000) = true := by decide
-- R509
theorem test_b : runs 0x50000200 (atPc 0x1C000000 base) (fun t => t.pc == 0x14000000) = true := by decide
-- R510
theorem test_bl :
    runs 0x57F003FF (atPc 0x1C002000 base)
      (fun t => t.getGr 1 == 0x1C002004 && t.pc == 0x1C001000) = true := by decide
-- R511
theorem test_jirl :
    runs 0x4C000021 (atPc 0x1C000000 (withGr [(1, 0x1C000100)]))
      (fun t => t.getGr 1 == 0x1C000004 && t.pc == 0x1C000100) = true := by decide
-- R521
theorem test_ldB :
    runs 0x280004A4 (image (withGr [(5, 0x1000)]))
      (fun t => t.getGr 4 == 0xFFFFFFFFFFFFFF81) = true := by decide
-- R525
theorem test_ldBu : runs 0x2A0004A4 (image (withGr [(5, 0x1000)])) (fun t => t.getGr 4 == 0x81) = true := by decide
-- R522
theorem test_ldH :
    runs 0x287FC0A4 (image (withGr [(5, 0x1010)]))
      (fun t => t.getGr 4 == 0xFFFFFFFFFFFF8180) = true := by decide
-- R526
theorem test_ldHu : runs 0x2A4000A4 (image (withGr [(5, 0x1000)])) (fun t => t.getGr 4 == 0x8180) = true := by decide
-- R523
theorem test_ldW :
    runs 0x288004A4 (image (withGr [(5, 0x1000)]))
      (fun t => t.getGr 4 == 0xFFFFFFFF84838281) = true := by decide
-- R527
theorem test_ldWu :
    runs 0x2A8010A4 (image (withGr [(5, 0x1000)]))
      (fun t => t.getGr 4 == 0x87868584) = true := by decide
-- R524
theorem test_ldD :
    runs 0x28DFFCA4 (image (withGr [(5, 0x801)]))
      (fun t => t.getGr 4 == 0x8786858483828180) = true := by decide
-- R543
theorem test_ldptrW :
    runs 0x240004A4 (image (withGr [(5, 0x1000)]))
      (fun t => t.getGr 4 == 0xFFFFFFFF87868584) = true := by decide
-- R544
theorem test_ldptrD :
    runs 0x268000A4 (image (withGr [(5, 0x9000)]))
      (fun t => t.getGr 4 == 0x8786858483828180) = true := by decide
-- R532
theorem test_ldxB :
    runs 0x380018A4 (image (withGr [(5, 0x1010), (6, 0xFFFFFFFFFFFFFFFF)]))
      (fun t => t.getGr 4 == 0xFFFFFFFFFFFFFF8F) = true := by decide
-- R535
theorem test_ldxD :
    runs 0x380C18A4 (image (withGr [(5, 0xFFFFFFFFFFFFF000), (6, 0x2008)]))
      (fun t => t.getGr 4 == 0x8F8E8D8C8B8A8988) = true := by decide
-- R528
theorem test_stB :
    runs 0x29000CA4 (image (withGr [(4, 0x123456789ABCDEF), (5, 0x1000)]))
      (fun t => bytes 0x1003 [0xEF] t) = true := by decide
-- R529
theorem test_stH :
    runs 0x297FF8A4 (image (withGr [(4, 0x123456789ABCDEF), (5, 0x1002)]))
      (fun t => bytes 0x1000 [0xEF, 0xCD] t) = true := by decide
-- R530
theorem test_stW :
    runs 0x29800CA4 (image (withGr [(4, 0x123456789ABCDEF), (5, 0x1000)]))
      (fun t => bytes 0x1003 [0xEF, 0xCD, 0xAB, 0x89] t) = true := by decide
-- R531
theorem test_stD :
    runs 0x29C020A4 (image (withGr [(4, 0x123456789ABCDEF), (5, 0x1000)]))
      (fun t => bytes 0x1008 [0xEF, 0xCD, 0xAB, 0x89, 0x67, 0x45, 0x23, 0x01] t) = true := by decide
-- R541
theorem test_stxW :
    runs 0x381818A4 (image (withGr [(4, 0x123456789ABCDEF), (5, 0x1000), (6, 0xFFFFFFFFFFFFFFFC)]))
      (fun t => bytes 0xFFC [0xEF, 0xCD, 0xAB, 0x89] t) = true := by decide
-- R546
theorem test_stptrD :
    runs 0x270010A4 (image (withGr [(4, 0x123456789ABCDEF), (5, 0x1000)]))
      (fun t => bytes 0x1010 [0xEF, 0xCD, 0xAB, 0x89, 0x67, 0x45, 0x23, 0x01] t) = true := by decide
-- R554
theorem test_ldgtD :
    runs 0x387998A4 (image (withGr [(5, 0x1008), (6, 0x1008)]))
      (fun t => took 0xA 0 t && (t.csr.badv == 0x1008)) = true := by decide
-- R557
theorem test_ldleW :
    runs 0x387B18A4 (image (withGr [(5, 0x1004), (6, 0xFFFFFFFFFFFFFFFF)]))
      (fun t => took 0xA 0 t && (t.csr.badv == 0x1004)) = true := by decide
-- R556
theorem test_ldleH :
    runs 0x387A98A4 (image (withGr [(5, 0x1002), (6, 0x1002)]))
      (fun t => t.getGr 4 == 0xFFFFFFFFFFFF8382) = true := by decide
-- R552
theorem test_ldgtH :
    runs 0x387898A4 (image (withGr [(5, 0x1001), (6, 0x0)]))
      (fun t => took 0x9 0 t && (t.csr.badv == 0x1001)) = true := by decide
-- R562
theorem test_stgtD :
    runs 0x387D98A4 (image (withGr [(4, 0x0123456789ABCDEF), (5, 0x1008), (6, 0x1000)]))
      (fun t => bytes 0x1008 [0xEF, 0xCD, 0xAB, 0x89, 0x67, 0x45, 0x23, 0x01] t) = true := by decide
-- R563
theorem test_stleB :
    runs 0x387E18A4 (image (withGr [(5, 0x1000), (6, 0xFFF)]))
      (fun t => took 0xA 0 t && (t.csr.badv == 0x1000)) = true := by decide
-- R920
theorem test_amswapW :
    runs 0x386018A4 (amImage (withGr [(5, 0x2000), (6, 0x123456789ABCDEF)]))
      (fun t => t.getGr 4 == 0xFFFFFFFF80000005 && bytes 0x2000 [0xEF, 0xCD, 0xAB, 0x89] t) = true := by decide
-- R922
theorem test_amaddW :
    runs 0x386118A4 (amImage (withGr [(5, 0x2000), (6, 0x7FFFFFFB)]))
      (fun t => t.getGr 4 == 0xFFFFFFFF80000005 && bytes 0x2000 [0x00, 0x00, 0x00, 0x00] t) = true := by decide
-- R928
theorem test_amxorW :
    runs 0x386418A4 (amImage (withGr [(5, 0x2000), (6, 0xFFFFFFFFFFFFFFFF)]))
      (fun t => t.getGr 4 == 0xFFFFFFFF80000005 && bytes 0x2000 [0xFA, 0xFF, 0xFF, 0x7F] t) = true := by decide
-- R930
theorem test_ammaxW :
    runs 0x386518A4 (amImage (withGr [(5, 0x2000), (6, 0x1)]))
      (fun t => t.getGr 4 == 0xFFFFFFFF80000005 && bytes 0x2000 [0x01, 0x00, 0x00, 0x00] t) = true := by decide
-- R936
theorem test_amminWu :
    runs 0x386818A4 (amImage (withGr [(5, 0x2000), (6, 0x1)]))
      (fun t => t.getGr 4 == 0xFFFFFFFF80000005 && bytes 0x2000 [0x01, 0x00, 0x00, 0x00] t) = true := by decide
-- R935
theorem test_ammaxDu :
    runs 0x386798A4 (amImage (withGr [(5, 0x2000), (6, 0x1)]))
      (fun t => t.getGr 4 == 0xFFFFFFFE80000005 && bytes 0x2000 [0x05, 0x00, 0x00, 0x80, 0xFE, 0xFF, 0xFF, 0xFF] t) = true := by decide
-- R951
theorem test_amminDbD :
    runs 0x386F98A4 (amImage (withGr [(5, 0x2000), (6, 0x5)]))
      (fun t => t.getGr 4 == 0xFFFFFFFE80000005 && bytes 0x2000 [0x05, 0x00, 0x00, 0x80, 0xFE, 0xFF, 0xFF, 0xFF] t) = true := by decide
-- R572
theorem test_amswapD : runs 0x38609800 (amImage base) (fun t => took 0xD 0 t) = true := by decide
-- R592
theorem test_llD :
    runs 0x22FFF8A4 (amImage (withGr [(5, 0x2008)]))
      (fun t => t.getGr 4 == 0xFFFFFFFE80000005 && t.llbit == true) = true := by decide
-- R594
theorem test_scD :
    runs 0x230000A6 { amImage (withGr [(5, 0x2004)]) with llbit := true }
      (fun t => took 0x9 0 t && (t.csr.badv == 0x2004)) = true := by decide
-- R593, R590: LLbit 0, so no access is made, not even to read-only memory
theorem test_scW_fails_in_rom :
    runs 0x210000A6 { amImage (withGr [(5, 0x2000), (6, 7)]) with
      cfg := { Config.default with physMap := [⟨0, 0x10000, .rom⟩] } }
      (fun t => t.getGr 6 == 0 && bytes 0x2000 [5] t) = true := by decide
-- U14 (log 18): with nothing behind the address a store is dropped, or, by the parameter, refused
theorem test_stW_unbacked :
    runs 0x298000A4 { withGr [(4, 7), (5, 0x2000)] with
      cfg := { Config.default with physMap := [⟨0, 0x1000, .ram⟩] } } (fun t => t.mem == []) = true := by decide
theorem test_stW_unbacked_refused :
    (match exec (.stW 4#5 5#5 0#12) { withGr [(5, 0x2000)] with
      cfg := { Config.default with physMap := [], unbackedRefused := true } } with
     | .refused .unbackedAddress => true | _ => false) = true := by decide
-- R33 item a, R231 (log 61): the bytes past 0xFFFFFFFF are those from 0
theorem test_address_wraps_in_32_bit_mode :
    let s : State := { atPc 0 base with csr := { base.csr with crmd := 0xB, misc := 8 } }
    s.va32 = true ∧ s.vaPlus 0xFFFFFFFE 2 = 0 := by decide
-- R601
theorem test_crcWBW :
    runs 0x002418A4 (withGr [(5, 0x3837363534333231), (6, 0xFFFFFFFFFFFFFFFF)])
      (fun t => t.getGr 4 == 0x7C231048) = true := by decide
-- R602
theorem test_crcWHW :
    runs 0x002498A4 (withGr [(5, 0x3837363534333231), (6, 0xFFFFFFFFFFFFFFFF)])
      (fun t => t.getGr 4 == 0xFFFFFFFFB0ACBB32) = true := by decide
-- R608
theorem test_crccWDW :
    runs 0x002798A4 (withGr [(5, 0x3837363534333231), (6, 0xFFFFFFFFFFFFFFFF)])
      (fun t => t.getGr 4 == 0xFFFFFFFF9F787F65) = true := by decide
-- R610
theorem test_brk : runs 0x002A7FFF base (fun t => took 0xC 0 t) = true := by decide
-- R613
theorem test_rdtimehW :
    runs 0x00006404 { base with timer := { base.timer with stableCounter := 0x80000000FFFFFFFF } }
      (fun t => t.getGr 4 == 0xFFFFFFFF80000000) = true := by decide
-- R615
theorem test_asrtleD :
    runs 0x000118A0 (withGr [(5, 0x10), (6, 0xF)])
      (fun t => took 0xA 0 t && (t.csr.badv == 0x10)) = true := by decide
-- R616
theorem test_asrtgtD : runs 0x000194A0 base (fun t => took 0xA 0 t) = true := by decide
-- R620
theorem test_cpucfg : runs 0x00006CA4 (withGr [(5, 0x1)]) (fun t => t.getGr 4 == 0x1F2F2FE) = true := by decide
-- R629, D55: bit 31 of word 0x11 reads 0, whatever the instance's description holds there
theorem test_cpucfg_cache : runs 0x00006CA4 { withGr [(5, 0x11)] with
      cfg := { Config.default with cacheWords := #v[0xFFFFFFFF, 0x86080003, 0, 0, 0] } }
    (fun t => t.getGr 4 == 0x06080003) = true := by decide
-- R659
theorem test_faddD :
    runs 0x01010C41 (withFr [(2, 0x7FF0000000000000), (3, 0xFFF0000000000000)])
      (fun t => t.getFr 1 == 0x7FF8000000000000 && (t.fcsr0.extractLsb' 24 5 == 16#5)) = true := by decide
-- R661
theorem test_fsubD :
    runs 0x01030C41 (withFr [(2, 0x7FF0000000000000), (3, 0x7FF0000000000000)])
      (fun t => t.getFr 1 == 0x7FF8000000000000 && (t.fcsr0.extractLsb' 24 5 == 16#5)) = true := by decide
-- R663
theorem test_fmulD :
    runs 0x01050C41 (withFr [(2, 0x1), (3, 0x3FE0000000000000)])
      (fun t => t.getFr 1 == 0 && (t.fcsr0.extractLsb' 24 5 == 3#5)) = true := by decide
-- R665
theorem test_fdivD :
    runs 0x01070C41 (withFr [(2, 0x3FF0000000000000), (3, 0x4008000000000000)])
      (fun t => t.getFr 1 == 0x3FD5555555555555 && (t.fcsr0.extractLsb' 24 5 == 1#5)) = true := by decide
-- R667
theorem test_fmaddD :
    runs 0x08220C41 (withFr [(2, 0x3FF0000000000001), (3, 0x3FF0000000000001), (4, 0xBFF0000000000002)])
      (fun t => t.getFr 1 == 0x3970000000000000 && (t.fcsr0.extractLsb' 24 5 == 0#5)) = true := by decide
-- R687
theorem test_fsqrtD :
    runs 0x01144841 (withFr [(2, 0x4000000000000000)])
      (fun t => t.getFr 1 == 0x3FF6A09E667F3BCD && (t.fcsr0.extractLsb' 24 5 == 1#5)) = true := by decide
-- R689
theorem test_frecipD :
    runs 0x01145841 { withFr [(2, 0x4008000000000000)] with fcsr0 := 0x300 }
      (fun t => t.getFr 1 == 0x3FD5555555555555 && (t.fcsr0.extractLsb' 24 5 == 1#5)) = true := by decide
-- R691
theorem test_frsqrtD :
    runs 0x01146841 (withFr [(2, 0x4000000000000000)])
      (fun t => t.getFr 1 == 0x3FE6A09E667F3BCD && (t.fcsr0.extractLsb' 24 5 == 1#5)) = true := by decide
-- R695
theorem test_flogbD :
    runs 0x01142841 (withFr [(2, 0x1)])
      (fun t => t.getFr 1 == 0xC090C80000000000 && (t.fcsr0.extractLsb' 24 5 == 0#5)) = true := by decide
-- R693
theorem test_fscalebD :
    runs 0x01110C41 (withFr [(2, 0x3FF0000000000000), (3, 0xFFFFFFFFFFFFFBCE)])
      (fun t => t.getFr 1 == 1 && (t.fcsr0.extractLsb' 24 5 == 0#5)) = true := by decide

/-! ## Single-precision operations (the upper half of a single result is open, so the operation itself is tested) -/

/-- Rounding mode `rm`, Enables.U = 0. -/
def ctl (rm : Rounding) : FpCtl := ⟨rm, false⟩

-- R658
theorem test_faddS_1 : Fmt.add .s (ctl .down) 0xBF800000 0xB3800000 = ⟨0xBF800001, 1⟩ := by decide +kernel
-- R658
theorem test_faddS_2 : Fmt.add .s (ctl .even) 0xFF800001 0x7F800002 = ⟨0xFFC00001, 16⟩ := by decide +kernel
-- R662
theorem test_fmulS_1 : Fmt.mul .s (ctl .even) 0x00918E00 0x3F612000 = ⟨0x00800000, 1⟩ := by decide +kernel
-- R662
theorem test_fmulS_2 : Fmt.mul .s (ctl .down) 0x80000001 0x3F000000 = ⟨0x80000001, 3⟩ := by decide +kernel
-- R664
theorem test_fdivS_1 : Fmt.div .s (ctl .even) 0x3F800000 0x40400000 = ⟨0x3EAAAAAB, 1⟩ := by decide +kernel
-- R666
theorem test_fmaddS_1 : Fmt.fma .s (ctl .even) false 0x3F800001 0x3F800001 0xBF800002 = ⟨0x28800000, 0⟩ := by decide +kernel
-- R666
theorem test_fmaddS_2 : Fmt.fma .s (ctl .even) false 0x7F800001 0x7FC00002 0x7FC00003 = ⟨0x7FC00001, 16⟩ := by decide +kernel
-- R686
theorem test_fsqrtS_1 : Fmt.sqrt .s (ctl .up) 0x40000000 = ⟨0x3FB504F4, 1⟩ := by decide +kernel
-- R686
theorem test_fsqrtS_2 : Fmt.sqrt .s (ctl .even) 0x00000001 = ⟨0x1A3504F3, 1⟩ := by decide +kernel
/-! ## Moves, flags and system instructions (spec/96_test_vectors_fp_priv.md) -/

/-- `base` with the MMU registers changed. -/
def withMmu (f : MmuCsr → MmuCsr) (s : State) : State := { s with mmu := f s.mmu }

/-- `s` with CRMD = `c`. -/
def withCrmd (c : BitVec 32) (s : State) : State := { s with csr := { s.csr with crmd := c } }

-- R696: magnitude of fj, sign of fk
theorem test_fcopysignD : runs 0x01130C41 (withFr [(2, 0xFFF0000000000001), (3, 0)])
    (fun t => t.getFr 1 == 0x7FF0000000000001) = true := by decide
-- R699
theorem test_fclassD : runs 0x01143841 (withFr [(2, 0xFFF8000000000000)]) (fun t => t.getFr 1 == 2) = true := by decide
-- R703: +0 equals -0
theorem test_fcmpCondD : runs 0x0C220C40 (withFr [(3, 0x8000000000000000)])
    (fun t => t.getCf 0 && t.fcsr0.extractLsb' 24 5 == 0#5) = true := by decide
-- R728: rounds to 2^31, out of range
theorem test_ftintrneWD : Fmt.convert .d .even false true 32 0x41DFFFFFFFE00000 = ⟨0x7FFFFFFF, 16⟩ := by decide +kernel
-- R709
theorem test_ffintDL : Fmt.fromInt .d (ctl .even) 0x7FFFFFFFFFFFFFFF = ⟨0x43E0000000000000, 1⟩ := by decide +kernel
-- R735
theorem test_fsel : runs 0x0D028C41 (withFr [(2, 0x1111111111111111), (3, 0x2222222222222222)])
    (fun t => t.getFr 1 == 0x1111111111111111) = true := by decide
-- R738: the low half is kept
theorem test_movgr2frhW : runs 0x0114ACA1 ((withGr [(5, 0x0123456789ABCDEF)]).setFr 1 0xAAAAAAAABBBBBBBB)
    (fun t => t.getFr 1 == 0x89ABCDEFBBBBBBBB) = true := by decide
-- R741
theorem test_movfrh2grS : runs 0x0114BC44 (withFr [(2, 0x8123456789ABCDEF)])
    (fun t => t.getGr 4 == 0xFFFFFFFF81234567) = true := by decide
-- R745: only Enables replaced
theorem test_movgr2fcsr : runs 0x0114C0A1 { withGr [(5, 0x15)] with fcsr0 := 0x1F1F0300 }
    (fun t => t.fcsr0 == 0x1F1F0315) = true := by decide
-- R746
theorem test_movfcsr2gr : runs 0x0114C844 { base with fcsr0 := 0x1F1F031F }
    (fun t => t.getGr 4 == 0x1F1F0000) = true := by decide
-- R761
theorem test_bcnez : runs 0x4BFFF9FF (atPc 0x1008 (base.setCf 7 true)) (fun t => t.pc == 0x1000) = true := by decide
-- R763
theorem test_fldD : runs 0x2BBFE0A1 (image (withGr [(5, 0x1010)]))
    (fun t => t.getFr 1 == 0x8F8E8D8C8B8A8988) = true := by decide
-- R764
theorem test_fstS : runs 0x2B4000A1 (image ((withGr [(5, 0x1000)]).setFr 1 0x0123456789ABCDEF))
    (fun t => bytes 0x1000 [0xEF, 0xCD, 0xAB, 0x89, 0x84] t) = true := by decide
-- R657, R842: Enables.I set, inexact signalled: FPE, Cause = I, f1 unchanged
theorem test_fdivD_traps : runs 0x01070C41 { withFr [(2, 0x3FF0000000000000), (3, 0x4008000000000000)] with fcsr0 := 1 }
    (fun t => took 0x12 0 t && t.getFr 1 == 0 && t.fcsr0 == 0x01000001) = true := by decide +kernel
-- R851, R846: the entry of SYSCALL, VS = 1
theorem test_syscall : runs 0x002B0011 (atPc 0x120000400 { withCrmd 0xB7 base with
      csr := { base.csr with crmd := 0xB7, eentry := 0x9000000000010000, ecfg := 0x10000 } })
    (fun t => took 0xB 0 t && t.csr.prmd == 7 && t.csr.crmd == 0xB0 && t.csr.era == 0x120000400
      && t.csr.badi == 0x002B0011 && t.pc == 0x9000000000010058) = true := by decide
-- R83: an undefined number reads 0
theorem test_csrrd : runs 0x04FFFC04 (withGr [(4, 5)]) (fun t => t.getGr 4 == 0) = true := by decide
-- R780: BADI and ERA of the privilege exception
theorem test_csrrd_user : runs 0x04000004 (atPc 0x120000000 (withCrmd 0xB3 base))
    (fun t => took 0xE 0 t && t.csr.era == 0x120000000 && t.csr.badi == 0x04000004) = true := by decide
-- R100: the bits of ECFG that do not exist stay 0
theorem test_csrwr : runs 0x04001024 (withGr [(4, 0xFFFFFFFFFFFFFFFF)])
    (fun t => t.csr.ecfg == 0x00071FFF && t.getGr 4 == 0) = true := by decide
-- R112: WCLLB clears LLbit, KLO is written
theorem test_csrwr_llbctl : runs 0x04018024 { withGr [(4, 6)] with llbit := true }
    (fun t => !t.llbit && t.csr.llbctl == 4 && t.getGr 4 == 1) = true := by decide
-- R783: mask and value are both the old GR[4]
theorem test_csrxchg : runs 0x0400C084 { withGr [(4, 0xF0)] with
      csr := { base.csr with save := base.csr.save.set 0 0xABCD } }
    (fun t => t.csr.save[0] == 0xABFD && t.getGr 4 == 0xABCD) = true := by decide
-- R787, and D69: byte 0x1005, which the map does not define, reads 0
theorem test_iocsrrdW : runs 0x064808A4 { withGr [(5, 0x1002)] with
      cfg := { Config.default with iocsrMap := [(0x1000, 5)] }
      iocsr := [(0x1002, 0x82), (0x1003, 0x83), (0x1004, 0x84), (0x1005, 0x85)] }
    (fun t => t.getGr 4 == 0x848382) = true := by decide
-- R784, R787 (spec/96_test_vectors_fp_priv.md): an odd address with ALCL0 = 1: no alignment rule
theorem test_iocsrrdW_odd : runs 0x064808A4 { withGr [(5, 0x1001)] with
      csr := { base.csr with misc := 0x1000 }
      cfg := { Config.default with iocsrMap := [(0x1000, 8)] }
      iocsr := [(0x1000, 0x81), (0x1001, 0x82), (0x1002, 0x83), (0x1003, 0x84), (0x1004, 0x85)] }
    (fun t => t.getGr 4 == 0xFFFFFFFF85848382) = true := by decide
-- R98, R243: the same on an instance that applies the footnote to IOCSR access (log 54)
theorem test_iocsrrdH_ale : runs 0x064804A4 { withGr [(5, 0x1001)] with
      csr := { base.csr with misc := 0x1000 }
      cfg := { Config.default with alclCoversAll := true } }
    (fun t => took 0x9 0 t && t.csr.badv == 0x1001) = true := by decide
-- R790: bytes outside the map ignore the write
theorem test_iocsrwrH : runs 0x064814A4 { withGr [(4, 0x2D18), (5, 0x1000)] with
      cfg := { Config.default with iocsrMap := [(0x1000, 1)] } }
    (fun t => t.iocsr == [(0x1000, 0x18)]) = true := by decide
-- R806
theorem test_idle : runs 0x06488000 base (fun t => t.idle && t.pc == 0x1C000004) = true := by decide
-- R806: an interrupt line pending and enabled in ECFG.LIE when IDLE runs with IE = 0: the core does not wait
theorem test_idle_does_not_wait : runs 0x06488000 { base with extIrq := 1, csr := { base.csr with ecfg := 4 } }
    (fun t => !t.idle && t.pc == 0x1C000004) = true := by decide
-- R805, D74
theorem test_dbcl : runs 0x002A8001 (atPc 0x1C000100 base)
    (fun t => t.dbg.dbg == 0x201 && t.dbg.dera == 0x1C000100 && t.debugCall == some 1) = true := by decide
-- R793, D70: a hit operation on an address with no translation
theorem test_cacop : runs 0x060000B0 (withCrmd 0xB0 (withGr [(5, 0x12345679)]))
    (fun t => t.mmu.tlbrbadv == 0x12345679 && t.mmu.tlbrehi == 0x12344000) = true := by decide

/-- The TLB CSRs of vector T1. -/
def tlbCsrs : State :=
  withMmu (fun m => { m with
    tlbidx := 0x0E000803, tlbehi := 0x12340000, tlbelo0 := 0x80000013, tlbelo1 := 0x80004013, asid := 5,
    stlbps := 14 }) base

/-- One page of entry A. -/
def pageA (ppn : Word) : TlbPage :=
  { v := true, d := true, nr := false, nx := false, rplv := false, mat := 1, plv := 0, ppn }

/-- Entry A of spec/96_test_vectors_fp_priv.md. -/
def entryA : TlbEntry :=
  { e := true, asid := 5, g := false, ps := 14, vppn := 0x91A0, page0 := pageA 0x80000, page1 := pageA 0x80004 }

-- R798 (T1)
theorem test_tlbwr : runs 0x06483000 tlbCsrs (fun t => t.tlb == [(0x803, entryA)]) = true := by decide
-- R798, R292: an index of the STLB, in the set of VPPN
theorem test_tlbwr_stlb : runs 0x06483000 (withMmu (fun m => { m with tlbidx := 0x0E000168 }) tlbCsrs)
    (fun t => t.tlb == [(0x168, entryA)]) = true := by decide
-- R290, R132: in LA32 the PPN of an entry has PALEN-12 bits
theorem test_la32_ppn_width :
    (pageOfElo { Config.default with la64 := false, valen := 32, palen := 32 } 0xFFFFFF01).ppn = 0xFFFFF := by decide
-- R796 (T4): the odd page of the pair hits
theorem test_tlbsrch : runs 0x06482800
    (withMmu (fun m => { m with tlbidx := 0x0E000000, tlbehi := 0x12346000 }) { tlbCsrs with tlb := [(0x803, entryA)] })
    (fun t => t.mmu.tlbidx == 0x0E000803) = true := by decide
-- R797 (T8)
theorem test_tlbrd : runs 0x06482C00
    (withMmu (fun m => { m with tlbidx := 0x803, tlbehi := 0, tlbelo0 := 0, tlbelo1 := 0, asid := 6 })
      { tlbCsrs with tlb := [(0x803, entryA)] })
    (fun t => t.mmu.tlbehi == 0x12340000 && t.mmu.tlbelo0 == 0x80000013 && t.mmu.tlbelo1 == 0x80004013
      && t.mmu.tlbidx == 0x0E000803 && t.mmu.asid == 5) = true := by decide
-- R800 (T17): entry A, not global and with the current ASID, in the MTLB
theorem test_tlbclr : runs 0x06482000
    (withMmu (fun m => { m with tlbidx := 0x800 }) { tlbCsrs with tlb := [(0x803, entryA), (0x804, { entryA with g := true })] })
    (fun t => !(t.tlbAt 0x803).e && (t.tlbAt 0x804).e) = true := by decide
-- R801 (T23): the STLB set of Index 6 alone
theorem test_tlbflush : runs 0x06482400
    (withMmu (fun m => { m with tlbidx := 6 }) { tlbCsrs with tlb := [(5, entryA), (0x306, entryA), (0x803, entryA)] })
    (fun t => (t.tlbAt 5).e && !(t.tlbAt 0x306).e && (t.tlbAt 0x803).e) = true := by decide
-- R802 (T31): ASID and address
theorem test_invtlb : runs 0x06499485
    { ((tlbCsrs.setGr 4 5).setGr 5 0x12345678) with tlb := [(0x803, entryA), (0x805, { entryA with asid := 6 })] }
    (fun t => !(t.tlbAt 0x803).e && (t.tlbAt 0x805).e) = true := by decide

/-- The page walk registers of spec/96_test_vectors_fp_priv.md, in the refill context. -/
def walk (gr4 : Word) (mem : List Host.Cell) : State :=
  { (withMmu (fun m => { m with
      pwcl := 0x0005E56E, pwch := 0x2E4, tlbrera := 1, tlbrbadv := 0x12345678, tlbrehi := 0x12344000 }) base).setGr 4 gr4
    with mem := mem }

-- R808: the level 1 entry of the bad address
theorem test_lddir : runs 0x06400484 (walk 0x104000 [(0x104049, 0x80), (0x10404A, 0x10)])
    (fun t => t.getGr 4 == 0x108000) = true := by decide
-- R807: ALCL0 = 1 and an entry address that is no multiple of 8; R98, R243 on an instance that applies the footnote to
-- page walks (log 54)
theorem test_lddir_odd :
    let s : State := { walk 0x104004 [(0x10404D, 0x80), (0x10404E, 0x10)] with csr := { base.csr with misc := 0x1000 } }
    runs 0x06400484 s (fun t => t.getGr 4 == 0x108000) = true ∧
    runs 0x06400484 { s with cfg := { Config.default with alclCoversAll := true } }
      (fun t => took 0x9 0 t && t.csr.badv == 0x10404C && t.getGr 4 == 0x104004) = true := by decide
-- R317 (S6): the odd half of a huge page
theorem test_ldpte : runs 0x06440480 (walk 0x86001053 [])
    (fun t => t.mmu.tlbrelo1 == 0x87000053 && t.mmu.tlbrehi == 0x12344018) = true := by decide
-- R803: return from the refill context
theorem test_ertn : runs 0x06483800
    (withMmu (fun m => { m with tlbrera := 0x120000001, tlbrprmd := 7 }) (withCrmd 0xA8 base))
    (fun t => t.csr.crmd == 0xB7 && t.pc == 0x120000000 && t.mmu.tlbrera == 0x120000000) = true := by decide
-- R875, R876: TCFG = 0x7, one tick from TimeVal 1: TI, and the reload of a periodic timer
theorem test_timer_reload : (TimerState.tick { base.timer with tcfg := 7, timeVal := 1, running := true }).ti = true ∧
    (TimerState.tick { base.timer with tcfg := 7, timeVal := 1, running := true }).timeVal = 4 := by decide

/-! ## Whole steps: the host's two questions -/

/-- The step from reset runs the word placed at the reset vector. -/
theorem test_step_runs_placed_word : (match step (State.reset.withFetchWord 32 0x02BFFCA4) with
    | .next t => t.getGr 4 == 0xFFFFFFFFFFFFFFFF && t.pc == 0x1C000004
    | _ => false) = true := by decide
/-- R251, R849 item 4, R861: a pending machine error is entered where the fetch address is a device. -/
theorem test_step_enters_pending_merr :
    (match step { State.reset with
        cfg := { Config.default with physMap := [⟨0, 2 ^ 48, .device⟩] }, merrPending := some ⟨5, false, 0, 0⟩ } with
     | .next t => t.ras.merrctl.getLsbD 0 && t.ras.merrctl.extractLsb' 16 8 == 5#8 && t.merrPending.isNone
     | _ => false) = true := by decide

/-- R41, R42, R54: the stores of other agents reach memory and the IOCSR space and clear LLbit in its granule. -/
theorem test_inputs_of_other_agents :
    let s : State := ({ base with
      cfg := { Config.default with iocsrMap := [(0x1000, 1)] }, llbit := true, lladdr := 0x2000
      inputs := [⟨0, 0, none, [(0x203F, 1), (0x203F, 2)], [(0x1000, 7), (0x1001, 8)]⟩] } : State).applyInput
    s.memByte 0x203F = 2 ∧ s.iocsr = [(0x1000, 7)] ∧ s.llbit = false := by decide

/-! ## Witnesses: for each statement with hypotheses, a state and operands that meet them (the statement's name follows
`witness_`; each theorem covers the clauses its comment names, at a boundary of their range where they have one) -/

/-- `base` as an LA32 instance. -/
def la32 : State := { base with cfg := { Config.default with la64 := false, valen := 32, palen := 32 } }

/-- `base` at privilege level `p`. -/
def atPlv (p : BitVec 2) (s : State) : State := withCrmd (8#32 ||| p.setWidth 32) s

/-- An instance that lacks every optional unit. -/
def bare : State := { base with cfg := { Config.default with
  hasFp := false, hasFpDp := false, hasLlftp := false, hasIocsr := false, hasLspw := false, hasLam := false,
  hasPgmmu := false, tlbType := 0 } }

/-- The state in which `step` executes: inputs applied, awake. -/
def awake (s : State) : State := { s.applyInput with idle := false }

/-- Both forms of the statement: a word that decodes, and (reset: the zero word) one that does not. -/
theorem witness_StepRunsTheDecodedInstruction :
    let s := State.reset.withFetchWord 32 0x001018A4
    s.applyInput.idle = false ∧ (awake s).irqTaken = false ∧
    ((awake s).watchFetch ((awake s).vaddr (awake s).pc)).2 = false ∧ (awake s).fetchPa = .ok 0x1C000000 ∧
    (awake s).merrPending = none ∧
    (awake s).memByte 0x1C000003 ++ (awake s).memByte 0x1C000002 ++ (awake s).memByte 0x1C000001 ++
      (awake s).memByte 0x1C000000 = 0x001018A4#32 ∧
    decode 0x001018A4#32 = some (.addW 4#5 5#5 6#5) ∧ decode 0#32 = none :=
  ⟨rfl, by decide, by decide, rfl, rfl, by decide, rfl, rfl⟩

/-- A core that waits and is woken. -/
theorem witness_StepRunsTheDecodedInstruction_woken :
    let s : State := { State.reset with
      idle := true, inputs := [⟨0, 1, none, [], []⟩], csr := { State.reset.csr with ecfg := 4 } }
    s.applyInput.idle = true ∧ s.applyInput.wakes = true ∧ (awake s).irqTaken = false := by decide

theorem witness_DecodeOfEncodeIsTheInstruction : WellFormed (.csrxchg 31#5 2#5 0x3FFF#14) := by decide
theorem witness_EveryDecodedWordIsAnEncoding : decode 0x06483800#32 = some .ertn := rfl

/-- The integer results in LA64 and, for the LA64 forms, in LA32. -/
theorem witness_integer_results : InLa64 base ∧ la32.cfg.la64 = false := ⟨rfl, rfl⟩

/-- A divisor of 1; one whose low word alone is 0; one that is 0. -/
theorem witness_DivideResults :
    base.cfg.la64 = true ∧ (withGr [(6, 1)]).uw 6 ≠ 0 ∧ (withGr [(6, 1)]).ud 6 ≠ 0 ∧
    (withGr [(6, 0x100000000)]).uw 6 = 0 ∧ (withGr [(6, 0x100000000)]).ud 6 ≠ 0 ∧ base.ud 6 = 0 := by decide

/-- msb = lsb (the least string), and msb just below lsb. -/
theorem witness_BitStringResults : (31#5).toNat ≤ (31#5).toNat ∧ (30#5).toNat < (31#5).toNat ∧
    (63#6).toNat ≤ (63#6).toNat ∧ (0#6).toNat < (1#6).toNat ∧ base.cfg.la64 = true := by decide

/-- Loads of each size: the lowest and the highest physical addresses, and one across two pages. -/
theorem witness_LoadsDeliverTheBytesTheyReach :
    Reaches base (base.ordinary .load (base.getGr 5 + BitVec.ofInt 64 (0#12).toInt) 1) [0] 0#2 ∧
    Reaches base (base.ordinary .load 0xFFFFFFFFFFF8 8) (physBytes 0xFFFFFFFFFFF8 8) 0#2 ∧
    Reaches base (base.ordinary .load 0xFFF 2) [0xFFF, 0x1000] 0#2 ∧
    Reaches base (base.ordinary .load 0x1004 4) (physBytes 0x1004 4) 0#2 :=
  ⟨⟨rfl, rfl⟩, ⟨rfl, rfl⟩, ⟨rfl, rfl⟩, ⟨rfl, rfl⟩⟩

/-- Stores, memory canonical. -/
theorem witness_StoresPutTheirBytesAndNothingElse :
    (image base).MemOk ∧ InLa64 base ∧
    Reaches (image base) ((image base).ordinary .store 0xFFF 8) (physBytes 0xFFF 8) 0#2 ∧
    Reaches (image base) ((image base).ordinary .store 0 1) [0] 0#2 :=
  ⟨rfl, rfl, ⟨rfl, rfl⟩, ⟨rfl, rfl⟩⟩

/-- rj just above rk (GT forms), and equal (LE forms); both reach memory. -/
theorem witness_BoundCheckedAccessesThatPass :
    let s := withGr [(5, 0x1008), (6, 0x1007), (7, 0x1008)]
    s.cfg.la64 = true ∧ s.cfg.boundCmpSigned = true ∧ s.sd 6 < s.sd 5 ∧ s.sd 5 ≤ s.sd 7 ∧
    Reaches s (s.aligned .load (s.getGr 5) 8) (physBytes 0x1008 8) 0#2 ∧
    Reaches s (s.aligned .store (s.getGr 5) 8) (physBytes 0x1008 8) 0#2 :=
  ⟨rfl, rfl, by decide, by decide, ⟨rfl, rfl⟩, ⟨rfl, rfl⟩⟩

/-- The same registers fail the other way round: rj = rk (GT forms), rj just above rk (LE forms); so ASRT. -/
theorem witness_FailedBoundChecksTakeBce :
    let s := withGr [(5, 0x1008), (6, 0x1007), (7, 0x1008)]
    s.cfg.la64 = true ∧ s.cfg.boundCmpSigned = true ∧ s.sd 5 ≤ s.sd 7 ∧ s.sd 6 < s.sd 5 ∧
    (s.watchMem (s.bounded .load (s.getGr 5) 8 (s.boundGt 5 7))).2 = false ∧
    (s.watchMem (s.bounded .store (s.getGr 5) 8 (s.boundLe 5 6))).2 = false ∧
    (s.vaddr (s.getGr 5)).toNat % 8 = 0 ∧ s.addressError .load (s.vaddr (s.getGr 5)) = false ∧
    s.addressError .store (s.vaddr (s.getGr 5)) = false := by decide

/-- rd = r4, rj = r5; rk = r6 or r4. -/
theorem witness_AtomicMemoryOperationResults :
    let s := amImage (withGr [(5, 0x2000)])
    s.cfg.la64 = true ∧ s.cfg.hasLam = true ∧ (4#5 : Reg) ≠ 5#5 ∧ (4#5 : Reg) ≠ 6#5 ∧ s.MemOk ∧
    Reaches s (s.aligned .rmw (s.getGr 5) 8) (physBytes 0x2000 8) 1#2 ∧
    Reaches s (s.aligned .rmw (s.getGr 5) 4) (physBytes 0x2000 4) 1#2 :=
  ⟨rfl, rfl, by decide, by decide, rfl, ⟨rfl, rfl⟩, ⟨rfl, rfl⟩⟩

/-- Cached memory with LLbit 0 and 1, memory of another type, and a failing SC on read-only memory. -/
theorem witness_LoadLinkedAndStoreConditional :
    let s := amImage (withGr [(5, 0x2000)])
    let r : State := { s with cfg := { Config.default with physMap := [⟨0, 0x10000, .rom⟩] } }
    s.MemOk ∧ s.llbit = false ∧ ({ s with llbit := true } : State).llbit = true ∧
    Reaches s (s.aligned .load (s.getGr 5 + BitVec.ofInt 64 ((0#14).toInt * 4)) 8) (physBytes 0x2000 8) 1#2 ∧
    Reaches s (s.aligned .rmw (s.getGr 5 + BitVec.ofInt 64 ((1#14).toInt * 4)) 4) (physBytes 0x2004 4) 1#2 ∧
    Reaches base (base.aligned .rmw 0x2000 4) (physBytes 0x2000 4) 0#2 ∧
    ReachesAddrs r (r.aligned .rmw (r.getGr 5 + BitVec.ofInt 64 ((1#14).toInt * 4)) 4) (physBytes 0x2004 4) 1#2 ∧
    r.accessBytes (r.aligned .rmw 0x2004 4) = .refused .romStore :=
  ⟨rfl, rfl, rfl, ⟨rfl, rfl⟩, ⟨rfl, rfl⟩, ⟨rfl, rfl⟩, ⟨rfl, rfl⟩, rfl⟩

theorem witness_HintsAndBarriersOnlyAdvance :
    base.plv = 0#2 ∧ (0x0F#5).toNat / 8 ≠ 2 ∧ (0x18#5).toNat / 8 ≠ 2 ∧ InLa64 base ∧ la32.cfg.la64 = false :=
  ⟨by decide, by decide, by decide, rfl, rfl⟩

/-- The last doubleword and the last word of the address space (addresses above PALEN wrap to it). -/
theorem witness_DirectModeTranslatesToItself :
    let a : Access := ⟨.store, 0xFFFFFFFFFFFFFFF8, 8, true, false⟩
    base.csr.crmd.getLsbD 3 = true ∧ a.va.toNat % a.size = 0 ∧ a.outOfBound = false ∧
    base.csr.crmd.extractLsb' 7 2 ≠ 3#2 ∧ base.csr.crmd.extractLsb' 5 2 ≠ 3#2 ∧ a.kind ≠ .fetch ∧
    (∀ k < a.size, byteRefusal base.cfg a.kind (a.va.toNat % 2 ^ base.cfg.palen + k) = none) ∧
    (base.vaddr base.pc).toNat % 4 = 0 ∧
    (∀ k < 4, byteRefusal base.cfg .fetch ((base.vaddr base.pc).toNat % 2 ^ base.cfg.palen + k) = none) := by decide

/-! Mapped mode: one MTLB entry with given pages, at a privilege level and with a MISC value. -/

/-- Mapped mode at level `p` with entry A changed by `f`. -/
def mapped (p : BitVec 2) (f : TlbEntry → TlbEntry) : State :=
  withCrmd (0xB0#32 ||| p.setWidth 32) { tlbCsrs with tlb := [(0x803, f entryA)] }

/-- Entry A with its even page changed. -/
def page0With (f : TlbPage → TlbPage) (e : TlbEntry) : TlbEntry := { e with page0 := f e.page0 }

/-- With one entry listed, no other entry matches an address. -/
theorem only_match (s : State) (i : Nat) (e : TlbEntry) (va : Word) (h : s.tlb = [(i, e)]) :
    ∀ j, s.EntryMatches va j → j = i := by
  rintro j ⟨hj, -⟩
  by_contra hne
  simp [State.tlbAt, h, sparseGet, hne, TlbEntry.empty] at hj

/-- With no entry listed, none matches. -/
theorem no_match (s : State) (va : Word) (h : s.tlb = []) : ∀ j, ¬s.EntryMatches va j := by
  rintro j ⟨hj, -⟩
  simp [State.tlbAt, h, sparseGet, TlbEntry.empty] at hj

/-- Where every window is 0, none hits. -/
theorem no_window (s : State) (h : s.csr.dmw = #v[0, 0, 0, 0]) (k : AccessKind) (va : Word) (n : Nat) :
    ¬s.WindowHits k va n := by
  rintro ⟨-, -, hn, hp, -⟩
  simp only [h] at hp
  interval_cases n <;> simp at hp

/-- `mapped 0 id` with a window. -/
def windowed (dmw : Vector Word 4) (s : State) : State := { s with csr := { s.csr with dmw := dmw } }

/-- A window that hits at the end of its segment; the second of two; one in LA32; windows 2 and 3 serve no fetch. -/
theorem witness_MappedModeTranslation_windows :
    let s := mapped 0#2 id
    s.csr.crmd.getLsbD 3 = false ∧
    (windowed #v[0x9000000000000011, 0, 0, 0] s).WindowHits .load 0x9FFFFFFFFFFFFFFF 0 ∧
    (windowed #v[0, 0x9000000000000011, 0x9000000000000011, 0] s).WindowHits .fetch 0x9000000000000000 1 ∧
    (∀ m < 1, ¬(windowed #v[0, 0x9000000000000011, 0, 0] s).WindowHits .fetch 0x9000000000000000 m) ∧
    (windowed #v[0xA0000011, 0, 0, 0] { s with cfg := la32.cfg }).WindowHits .store 0xBFFFFFFF 0 ∧
    ¬(windowed #v[0, 0, 0x9000000000000011, 0] s).WindowHits .fetch 0x9000000000000000 2 := by
  refine ⟨by decide, ⟨by decide, by decide, by decide, by decide, by decide⟩,
    ⟨by decide, by decide, by decide, by decide, by decide⟩, ?_, ⟨by decide, by decide, by decide, by decide, by decide⟩, ?_⟩
  · rintro m hm ⟨-, -, h, hp, -⟩
    obtain rfl : m = 0 := by omega
    exact absurd hp (by simp [windowed])
  · rintro ⟨-, h, -⟩
    exact absurd (h rfl) (by decide)

/-- No window hits; the first illegal address and the last legal one; no entry that matches; one, at both ends of its
pages, in the MTLB and in the STLB; two; an STLB page size that is not supported. -/
theorem witness_MappedModeTranslation :
    let s := mapped 0#2 id
    let l : State := { s with tlb := [(0x168, entryA)] }
    let t : State := { s with tlb := [(0x803, entryA), (0x804, entryA)] }
    let u : State := withMmu (fun m => { m with stlbps := 11 }) l
    s.csr.crmd.getLsbD 3 = false ∧ (∀ k va n, ¬s.WindowHits k va n) ∧
    48 + (s.csr.rvacfg.extractLsb' 0 4).toNat = s.cfg.valen ∧ s.addressError .load 0x0000800000000000 = true ∧
    s.addressError .load 0x00007FFFFFFFFFFF = false ∧ s.TlbOk ∧ s.StlbUsable ∧ l.TlbOk ∧ l.StlbUsable ∧ t.TlbOk ∧
    t.StlbUsable ∧ u.TlbOk ∧ ¬u.StlbUsable ∧ (∀ i, ¬{ s with tlb := [] }.EntryMatches 0x12348000 i) ∧
    s.EntryMatches 0x12340000 0x803 ∧ s.EntryMatches 0x12347FFF 0x803 ∧ (∀ j, s.EntryMatches 0x12340000 j → j = 0x803) ∧
    l.EntryMatches 0x12340000 0x168 ∧ (∀ j, l.EntryMatches 0x12340000 j → j = 0x168) ∧
    0x168 < stlbEntries l.cfg ∧ stlbEntries s.cfg ≤ 0x803 ∧
    t.EntryMatches 0x12340000 0x803 ∧ t.EntryMatches 0x12340000 0x804 := by
  have m {s : State} {va : Word} {i : Nat} (h1 : (s.tlbAt i).e = true)
      (h2 : (s.tlbAt i).asid = s.mmu.asid.extractLsb' 0 10)
      (h3 : (s.tlbAt i).vppn.toNat * 2 ^ 13 % 2 ^ s.cfg.valen / 2 ^ ((if i < stlbEntries s.cfg then
        (s.mmu.stlbps.extractLsb' 0 6).toNat else (s.tlbAt i).ps.toNat) + 1) = va.toNat % 2 ^ s.cfg.valen / 2 ^ ((if i <
        stlbEntries s.cfg then (s.mmu.stlbps.extractLsb' 0 6).toNat else (s.tlbAt i).ps.toNat) + 1))
      (h4 : i < stlbEntries s.cfg → i % 2 ^ s.cfg.stlbSets = s.stlbSet va) : s.EntryMatches va i :=
    ⟨h1, .inr h2, fun ps h => h ▸ h3, h4⟩
  refine ⟨by decide, no_window _ rfl, by decide, by decide, by decide, rfl, .inl (by decide), rfl, .inl (by decide), rfl,
    .inl (by decide), rfl, ?_, no_match _ _ rfl, m (by decide) (by decide) (by decide) (by decide),
    m (by decide) (by decide) (by decide) (by decide), only_match _ _ _ _ rfl,
    m (by decide) (by decide) (by decide) (by decide), only_match _ _ _ _ rfl, by decide, by decide,
    m (by decide) (by decide) (by decide) (by decide), m (by decide) (by decide) (by decide) (by decide)⟩
  rintro (h | h)
  · exact absurd h (by decide)
  · exact absurd (h 0x168 (by decide)) (by decide)

/-- The page each clause of the last part speaks of, in a state in which the address selects it (bit 14 of it is 0). -/
theorem witness_MappedModeTranslation_pages :
    let hit (p : BitVec 2) (f : TlbPage → TlbPage) : Prop :=
      (mapped p (page0With f)).TlbOk ∧ (mapped p (page0With f)).StlbUsable ∧
      (mapped p (page0With f)).EntryMatches 0x12341008 0x803 ∧
      (∀ j, (mapped p (page0With f)).EntryMatches 0x12341008 j → j = 0x803) ∧
      (if (0x12341008#64).getLsbD 14 then ((mapped p (page0With f)).tlbAt 0x803).page1
        else ((mapped p (page0With f)).tlbAt 0x803).page0) = f (pageA 0x80000)
    hit 0 (fun q => { q with v := false }) ∧ hit 0 (fun q => { q with nx := true }) ∧
    hit 1 id ∧ (0#2 < 1#2) ∧ hit 3 (fun q => { q with rplv := true, plv := 2 }) ∧ hit 0 (fun q => { q with nr := true }) ∧
    hit 3 (fun q => { q with d := false, plv := 3 }) ∧ hit 0 (fun q => { q with d := false }) ∧ hit 0 id := by
  have h (p : BitVec 2) (f : TlbPage → TlbPage) : (mapped p (page0With f)).StlbUsable ∧
      (mapped p (page0With f)).EntryMatches 0x12341008 0x803 ∧
      ∀ j, (mapped p (page0With f)).EntryMatches 0x12341008 j → j = 0x803 :=
    ⟨.inl (show (0x7FFFF000#64).getLsbD 14 = true by decide),
      ⟨rfl, .inr rfl, fun ps h => h ▸ (show 0x91A0 * 2 ^ 13 % 2 ^ 48 / 2 ^ 15 = 0x12341008 % 2 ^ 48 / 2 ^ 15 by decide),
        fun h => absurd h (show ¬(0x803 < 8 * 2 ^ 8) by decide)⟩, only_match _ _ _ _ rfl⟩
  exact ⟨⟨rfl, (h _ _).1, (h _ _).2.1, (h _ _).2.2, rfl⟩, ⟨rfl, (h _ _).1, (h _ _).2.1, (h _ _).2.2, rfl⟩,
    ⟨rfl, (h _ _).1, (h _ _).2.1, (h _ _).2.2, rfl⟩, by decide, ⟨rfl, (h _ _).1, (h _ _).2.1, (h _ _).2.2, rfl⟩,
    ⟨rfl, (h _ _).1, (h _ _).2.1, (h _ _).2.2, rfl⟩, ⟨rfl, (h _ _).1, (h _ _).2.1, (h _ _).2.2, rfl⟩,
    ⟨rfl, (h _ _).1, (h _ _).2.1, (h _ _).2.2, rfl⟩, ⟨rfl, (h _ _).1, (h _ _).2.1, (h _ _).2.2, rfl⟩⟩

/-- UAL = 0; and MISC.ALCL0 = 1, at PLV0, each with an address one off; the floating-point unit enabled. -/
theorem witness_MisalignedAccessesTakeAle :
    let s : State := { withGr [(5, 0x1001)] with cfg := { Config.default with ual := false } }
    let u : State := { withGr [(5, 0x1001)] with csr := { base.csr with misc := 0x1000 } }
    (s.watchMem (s.ordinary .load (s.getGr 5 + BitVec.ofInt 64 (0#12).toInt) 2)).2 = false ∧ s.cfg.ual = false ∧
    (s.ordinary .load (s.getGr 5 + BitVec.ofInt 64 (0#12).toInt) 2).va.toNat % 2 ≠ 0 ∧ FpReady true u ∧
    u.cfg.la64 = true ∧ u.cfg.hasLam = true ∧ (u.watchMem (u.ordinary .store (u.getGr 5 + u.getGr 6) 8)).2 = false ∧
    (u.ordinary .store (u.getGr 5 + u.getGr 6) 8).va.toNat % 8 ≠ 0 ∧ u.csr.misc.getLsbD (12 + u.plv.toNat) = true ∧
    (u.watchMem (u.aligned .rmw (u.getGr 5) 4)).2 = false ∧ (u.aligned .rmw (u.getGr 5) 4).va.toNat % 4 ≠ 0 ∧
    (u.watchMem (u.bounded .load (u.getGr 5) 2 (u.boundGt 5 6))).2 = false ∧
    (u.bounded .load (u.getGr 5) 2 (u.boundGt 5 6)).va.toNat % 2 ≠ 0 ∧ (4#5 : Reg) ≠ 5#5 :=
  ⟨by decide, rfl, by decide, ⟨rfl, fun _ => rfl, by decide⟩, rfl, rfl, by decide, by decide, by decide, by decide,
    by decide, by decide, by decide, by decide⟩

/-- One load/store watchpoint on the doubleword at 0x1000, all levels, with MWPS as given. -/
def watched (mwps : BitVec 32) : State :=
  { withCrmd 0x208 (withGr [(5, 0x1000)]) with
    cfg := { Config.default with mwpNum := 1 }
    watch := { base.watch with mwps := mwps, mwp := base.watch.mwp.set 0 ⟨0x1000, 0, 0x31E, 0⟩ } }

/-- Disabled; no hit; a hit from the group below and its last byte; a hit with Skip 1 and with Skip 0, by a load and by
a store. -/
theorem witness_WatchpointTestOfAnAccess :
    let a := (watched 0).ordinary .load 0x1000 8
    let w := (watched 0).watch.mwp.getD 0 .reset
    base.csr.crmd.getLsbD 9 = false ∧ (watched 0).mwAccessHit ((watched 0).ordinary .load 0x1008 8) w = false ∧
    (watched 0).mwAccessHit a w = true ∧ (watched 0).mwAccessHit ((watched 0).ordinary .load 0xFF9 8) w = true ∧
    (watched 0).mwAccessHit ((watched 0).ordinary .load 0xFF8 8) w = false ∧ 0 < (watched 0).cfg.mwpNum ∧
    (watched 0x10000).watch.mwps.getLsbD 16 = true ∧ (watched 0).watch.mwps.getLsbD 16 = false ∧
    ((watched 0).watchMem a).2 = true ∧
    ((watched 0).watchMem ((watched 0).ordinary .store ((watched 0).getGr 5 + BitVec.ofInt 64 (0#12).toInt) 8)).2
      = true := by decide

/-- The forms whose access the watchpoint hits: read-modify-write, indexed, bound-checked, floating-point. -/
theorem witness_WatchpointTestOfAnAccess_forms :
    let s := watched 0
    (s.watchMem (s.aligned .rmw (s.getGr 5) 4)).2 = true ∧
    (s.watchMem (s.aligned .load (s.getGr 5 + BitVec.ofInt 64 ((0#14).toInt * 4)) 4)).2 = true ∧
    (s.watchMem (s.ordinary .store (s.getGr 5 + s.getGr 6) 1)).2 = true ∧
    (s.watchMem (s.bounded .load (s.getGr 5) 2 (s.boundGt 5 6))).2 = true ∧
    (s.watchMem (s.bounded .store (s.getGr 5) 8 (s.boundLe 5 6))).2 = true ∧
    s.cfg.la64 = true ∧ s.cfg.hasLam = true ∧ (4#5 : Reg) ≠ 5#5 ∧ FpReady true s :=
  ⟨by decide, by decide, by decide, by decide, by decide, rfl, rfl, by decide, rfl, fun _ => rfl, by decide⟩

/-- R209: byte 4 of a group is watched by a word-sized watchpoint on address 4, byte 3 is not; the first byte hits. -/
theorem witness_WatchpointTestOfAnAccess_bytes :
    let w : Watchpoint := ⟨0x1004, 0, 0x71E, 0⟩
    w.WatchesByte 4 ∧ ¬w.WatchesByte 3 ∧ (watched 0).WatchHits w 0x1004 ∧ ¬(watched 0).WatchHits w 0x1005 := by
  unfold Watchpoint.WatchesByte State.WatchHits; decide

/-- PLV0; PLV3 with DRDTL3 = 0; PLV3 with DRDTL3 = 1. -/
theorem witness_TimeAndConfigurationReads :
    let u := atPlv 3 base
    let v : State := { u with csr := { u.csr with misc := 0x80 } }
    base.cfg.hasLlftp = true ∧ base.plv = 0#2 ∧ u.plv ≠ 0#2 ∧ u.csr.misc.getLsbD (4 + u.plv.toNat) = false ∧
    v.cfg.la64 = true ∧ v.plv ≠ 0#2 ∧ v.csr.misc.getLsbD (4 + v.plv.toNat) = true := by decide

/-- LA32; LA64 without LAM, and rd = rj; no unit; double precision alone missing; INVTLB 7; an FCMP condition. -/
theorem witness_AbsentInstructionsTakeIne :
    la32.cfg.la64 = false ∧ bare.cfg.la64 = true ∧ bare.cfg.hasLam = false ∧ bare.cfg.hasFp = false ∧
    bare.cfg.hasLlftp = false ∧ bare.cfg.hasIocsr = false ∧ bare.cfg.hasLspw = false ∧ bare.cfg.hasPgmmu = false ∧
    base.plv = 0#2 ∧ 6 < (7#5).toNat ∧
    0x12#5 ∈ ([0x12#5, 0x13#5, 0x16#5, 0x17#5, 0x1A#5, 0x1B#5, 0x1C#5, 0x1D#5, 0x1E#5, 0x1F#5] : List (BitVec 5)) := by
  decide

/-- Each level below PLV0 (the units are all present); CSRRD of a CSR that is no counter, with RPCNTL 0 and 1. -/
theorem witness_PrivilegedInstructionsTakeIpe :
    (∀ p : BitVec 2, p ≠ 0#2 → (atPlv p base).plv ≠ 0#2) ∧ base.cfg.la64 = true ∧ base.cfg.hasIocsr = true ∧
    base.cfg.hasPgmmu = true ∧ base.cfg.tlbType ≠ 0 ∧ base.cfg.hasLspw = true ∧ base.cfg.dbclPrivileged = true ∧
    base.csr.misc.getLsbD (8 + 3) = false ∧ ∀ k < base.cfg.pmCount, (0#14).toNat ≠ 0x201 + 2 * k := by decide

theorem witness_FloatingPointDisabledTakesFpd :
    State.reset.cfg.la64 = true ∧ State.reset.cfg.hasFp = true ∧ State.reset.cfg.hasFpDp = true ∧
    State.reset.csr.euen.getLsbD 0 = false ∧
    0x00#5 ∉ ([0x12#5, 0x13#5, 0x16#5, 0x17#5, 0x1A#5, 0x1B#5, 0x1C#5, 0x1D#5, 0x1E#5, 0x1F#5] : List (BitVec 5)) := by
  decide

/-- The unit present and enabled, in single and in double precision. -/
theorem witness_fp_ready (dp : Bool) : FpReady dp base := ⟨rfl, fun _ => rfl, by decide⟩

/-- An inexact sum, its exception not enabled and enabled (boundary: Enables.I alone). -/
theorem witness_FpArithmeticDelivers :
    (Fmt.add .s base.fpCtl 0x3F800000 0x33800000).exc ≠ 0#5 ∧
    (Fmt.add .s base.fpCtl 0x3F800000 0x33800000).exc &&& base.fpEnables = 0#5 := by decide +kernel
/-- Special operands: signaling and quiet NaN, both infinities, both zeros, 0 times infinity, the extended order at its
ends, and a sum that is exactly 0. -/
theorem witness_FpArithmeticDelivers_special :
    Fmt.isSNaN .s 0x7F800001 = true ∧ Fmt.isNaN .d 0x7FF8000000000000 = true ∧ Fmt.isSNaN .d 0x7FF8000000000000 = false ∧
    Fmt.isInf .d 0x7FF0000000000000 = true ∧ Fmt.isInf .d 0xFFF0000000000000 = true ∧
    Fmt.sign .d 0x7FF0000000000000 ≠ Fmt.sign .d 0xFFF0000000000000 ∧ Fmt.isZero .d 0 = true ∧
    Fmt.isZero .d 0x8000000000000000 = true ∧ Fmt.ZeroTimesInf .d 0x8000000000000000 0x7FF0000000000000 ∧
    ¬Fmt.ZeroTimesInf .d 1 0x7FF0000000000000 ∧ Fmt.isNaN .d 0x7FF0000000000000 = false ∧
    Fmt.isInf .d 0x7FEFFFFFFFFFFFFF = false ∧ Fmt.ext .d 0xFFF0000000000000 < Fmt.ext .d 0xFFEFFFFFFFFFFFFF ∧
    Fmt.ext .d 0x8000000000000000 = Fmt.ext .d 0 ∧
    Fmt.value .d 0x8000000000000001 + Fmt.value .d 1 = 0 ∧ Fmt.value .d 1 - Fmt.value .d 1 = 0 := by
  have s1 : Fmt.sig .d 0x8000000000000001 = 1 := by decide
  have s2 : Fmt.sig .d 1 = 1 := by decide
  have e : Fmt.expo .d 0x8000000000000001 = Fmt.expo .d 1 := by decide
  have z1 : Fmt.sig .d 0x8000000000000000 = 0 := by decide
  have z2 : Fmt.sig .d 0 = 0 := by decide
  refine ⟨by decide, by decide, by decide, by decide, by decide, by decide, by decide, by decide,
    by unfold Fmt.ZeroTimesInf; decide, by unfold Fmt.ZeroTimesInf; decide, by decide, by decide, ?_, ?_, ?_, sub_self _⟩
  · rw [Fmt.ext, if_pos (by decide), if_pos (by decide), Fmt.ext, if_neg (by decide)]
    exact WithBot.bot_lt_coe _
  · rw [Fmt.ext, if_neg (by decide), Fmt.ext, if_neg (by decide), Fmt.value, Fmt.value, z1, z2]
    simp
  · rw [Fmt.value, Fmt.value, s1, s2, e, if_pos (by decide), if_neg (by decide)]
    ring

/-- Every operation signals an enabled exception for some operands: V for a signalling NaN, I for an integer that
does not fit, with every enable set. -/
theorem witness_EnabledFpExceptionsTrap :
    let c : FpCtl := ⟨.even, true⟩
    let s : Word := 0x7F800001
    let d : Word := 0x7FF0000000000001
    [(Fmt.add .s c s 0), (Fmt.sub .s c s 0), (Fmt.mul .s c s 0), (Fmt.div .s c s 0), (Fmt.fma .s c false s 0 0),
     (Fmt.fma .s c true s 0 0), (Fmt.negateResult .s false (Fmt.fma .s c false s 0 0)),
     (Fmt.select .s (Fmt.maxNum .s) s 0), (Fmt.select .s (Fmt.minNum .s) s 0), (Fmt.select .s (Fmt.maxMag .s) s 0),
     (Fmt.select .s (Fmt.minMag .s) s 0), (Fmt.sqrt .s c s), (Fmt.recip .s c s), (Fmt.logB .s c s),
     (Fmt.rsqrt .s c false s), (Fmt.rint .s c true s), (Fmt.scaleB .s c s 0), (cvtDS c s),
     (Fmt.add .d c d 0), (Fmt.sub .d c d 0), (Fmt.mul .d c d 0), (Fmt.div .d c d 0), (Fmt.fma .d c false d 0 0),
     (Fmt.fma .d c true d 0 0), (Fmt.negateResult .d false (Fmt.fma .d c false d 0 0)),
     (Fmt.select .d (Fmt.maxNum .d) d 0), (Fmt.select .d (Fmt.minNum .d) d 0), (Fmt.select .d (Fmt.maxMag .d) d 0),
     (Fmt.select .d (Fmt.minMag .d) d 0), (Fmt.sqrt .d c d), (Fmt.recip .d c d), (Fmt.logB .d c d),
     (Fmt.rsqrt .d c false d), (Fmt.rint .d c true d), (Fmt.scaleB .d c d 0), (cvtSD c d),
     (Fmt.fromInt .s c 0x7FFFFFFF), (Fmt.fromInt .s c 0x7FFFFFFFFFFFFFFF), (Fmt.fromInt .d c 0x7FFFFFFFFFFFFFFF)].all
      (fun r => r.exc &&& 0x1F#5 != 0#5) = true := by decide +kernel

/-- The enables that state is about, all set. -/
theorem witness_EnabledFpExceptionsTrap_enables : ({ base with fcsr0 := 0x1F } : State).fpEnables = 0x1F#5 := by decide

/-- Conversion to 32 bits: a NaN, an infinity, the values at both ends of the range and the next ones outside. -/
theorem witness_ConversionsToIntegerRoundTheValue :
    Fmt.isNaN .s 0x7FC00000 = true ∧ Fmt.isInf .s 0xFF800000 = true ∧ Fmt.Finite .d 0x41DFFFFFFFC00000 ∧
    Fmt.convert .d .zero true true 32 0x41DFFFFFFFC00000 = ⟨0x7FFFFFFF, 0⟩ ∧
    Fmt.convert .d .zero true true 32 0x41E0000000000000 = ⟨0x7FFFFFFF, excV⟩ ∧
    Fmt.convert .d .zero true true 32 0xC1E0000000000000 = ⟨0xFFFFFFFF80000000, 0⟩ ∧
    Fmt.convert .d .zero true true 32 0xC1E0000000200000 = ⟨0xFFFFFFFF80000000, excV⟩ :=
  ⟨by decide, by decide, by unfold Fmt.Finite; decide, by decide +kernel, by decide +kernel, by decide +kernel,
    by decide +kernel⟩

/-- A condition of Table 9; an operand that signals nothing, and one that signals V with V enabled. -/
theorem witness_FpComparisonsSetTheFlag :
    let u : State := { withFr [(2, 0x7FF0000000000001)] with fcsr0 := 0x10 }
    0x18#5 ∉ ([0x12#5, 0x13#5, 0x16#5, 0x17#5, 0x1A#5, 0x1B#5, 0x1C#5, 0x1D#5, 0x1E#5, 0x1F#5] : List (BitVec 5)) ∧
    FpReady true u ∧ Fmt.isSNaN .d (u.getFmt .d 2) = true ∧ excV &&& u.fpEnables ≠ 0#5 ∧
    excNone &&& u.fpEnables = 0#5 := ⟨by decide, ⟨rfl, fun _ => rfl, by decide⟩, by decide, by decide, by decide⟩

/-- The four views of FCSR0, and the first number above them; an instance with each of the open choices. -/
theorem witness_FpMoves : (3#5, 0x300#32) ∈
    [(0#5, 0x1F1F031F#32), (1#5, 0x1F#32), (2#5, 0x1F1F0000#32), (3#5, 0x300#32)] ∧ 3 < (4#5).toNat ∧
    base.cfg.la64 = true ∧ base.cfg.cf2rUpperZero = true ∧ base.cfg.fcsrAbsentNoop = true ∧
    FpReady false { base with cfg := { Config.default with cf2rUpperZero := false, fcsrAbsentNoop := false } } :=
  ⟨by decide, by decide, rfl, rfl, rfl, rfl, fun _ => rfl, by decide⟩

/-- Loads, stores and failing bound checks with the unit enabled. -/
theorem witness_FpLoadsStoresAndBranches :
    let s := withGr [(5, 0x1008), (6, 0x1007), (7, 0x1008)]
    FpReady true s ∧ s.MemOk ∧ s.cfg.la64 = true ∧ s.cfg.boundCmpSigned = true ∧ s.sd 6 < s.sd 5 ∧ s.sd 5 ≤ s.sd 7 ∧
    Reaches s (s.ordinary .load (s.getGr 5 + BitVec.ofInt 64 (0xFF9#12).toInt) 8) (physBytes 0x1001 8) 0#2 ∧
    Reaches s (s.aligned .store (s.getGr 5) 8) (physBytes 0x1008 8) 0#2 ∧
    (s.watchMem (s.bounded .load (s.getGr 5) 8 (s.boundGt 5 7))).2 = false ∧
    (s.vaddr (s.getGr 5)).toNat % 8 = 0 ∧ s.addressError .store (s.vaddr (s.getGr 5)) = false :=
  ⟨⟨rfl, fun _ => rfl, by decide⟩, rfl, rfl, rfl, by decide, by decide, ⟨rfl, rfl⟩, ⟨rfl, rfl⟩, by decide,
    by decide, by decide⟩

/-- Finite operands (the largest and the least), a divisor not 0 and positive, the extremes of the integers; a value
that overflows (2^128, to nearest) and one that does not; tininess after rounding at its boundary: 2^-126 is not tiny,
2^-126 - 2^-150 is, and between them the direction decides. -/
theorem witness_FpResultsAreCorrectlyRounded :
    Fmt.Finite .d 0x7FEFFFFFFFFFFFFF ∧ Fmt.Finite .d 0x8000000000000001 ∧ Fmt.Finite .s 0x7F7FFFFF ∧
    Fmt.value .d 0x8000000000000001 ≠ 0 ∧ (-2 ^ 63 : Int) ≤ -2 ^ 63 ∧ (2 ^ 63 - 1 : Int) < 2 ^ 63 ∧
    0 < Fmt.value .s 0x3F800000 ∧ Fmt.Overflows .s .even (Fmt.value .s 0x3F800000 * 2 ^ (128 : Int)) ∧
    ¬Fmt.Overflows .s .even (Fmt.value .s 0x3F800000) ∧ ¬Fmt.Tiny .s .even (2 ^ (-126 : Int)) ∧
    Fmt.Tiny .s .even (2 ^ (-126 : Int) - 2 ^ (-150 : Int)) ∧ ¬Fmt.Tiny .s .even (2 ^ (-126 : Int) - 2 ^ (-151 : Int)) ∧
    Fmt.Tiny .s .zero (2 ^ (-126 : Int) - 2 ^ (-151 : Int)) := by
  have v : Fmt.value .s 0x3F800000 = 1 := by
    rw [Fmt.value, if_neg (by decide), show Fmt.sig .s 0x3F800000 = 2 ^ 23 from by decide,
      show Fmt.expo .s 0x3F800000 = -23 from by decide]
    norm_num
  refine ⟨by unfold Fmt.Finite; decide, by unfold Fmt.Finite; decide, by unfold Fmt.Finite; decide, ?_, by decide,
    by decide, by rw [v]; norm_num, ?_, ?_, ?_, ?_, ?_, ?_⟩
  · rw [Fmt.value, show Fmt.sig .d 0x8000000000000001 = 1 from by decide]
    split <;> positivity
  · rintro M U rfl rfl
    rw [v]; norm_num [Fmt.frac, Fmt.bias]
  · intro h
    have := h _ _ rfl rfl
    rw [v] at this; norm_num [Fmt.frac, Fmt.bias] at this
  · rintro ⟨-, h⟩
    have := h _ _ rfl rfl
    norm_num [Fmt.emin, Fmt.frac, Fmt.bias] at this
  · refine ⟨by norm_num, ?_⟩
    rintro N D rfl rfl
    norm_num [Fmt.emin, Fmt.frac, Fmt.bias, abs_lt]
  · rintro ⟨-, h⟩
    have := h _ _ rfl rfl
    norm_num [Fmt.emin, Fmt.frac, Fmt.bias, abs_lt] at this
  · refine ⟨by norm_num, ?_⟩
    rintro N D rfl rfl
    norm_num [Fmt.emin, Fmt.frac, Fmt.bias, abs_lt]

/-- Underflow (R654) at 2^-126 - 2^-149, exact: reported with Enables.U = 1 only; at a half of the least datum, inexact:
reported with either. -/
theorem witness_FpResultsAreCorrectlyRounded_underflow :
    Fmt.sub .s ⟨.even, false⟩ 0x00800000 1 = ⟨0x007FFFFF, 0⟩ ∧ Fmt.sub .s ⟨.even, true⟩ 0x00800000 1 = ⟨0x007FFFFF, 2⟩ ∧
    Fmt.mul .s ⟨.up, false⟩ 1 0x3F000000 = ⟨1, 3⟩ ∧ Fmt.mul .s ⟨.up, true⟩ 1 0x3F000000 = ⟨1, 3⟩ := by decide +kernel

/-- PLV0; an implemented counter below PLV0; an undefined number next to defined ones; values that pass. -/
theorem witness_CsrAccessCompletes :
    let u : State := { atPlv 3 base with
      cfg := { Config.default with hasPm := true, pmNum := 3 }, csr := { (atPlv 3 base).csr with misc := 0x800 } }
    base.plv = 0#2 ∧ u.plv ≠ 0#2 ∧ u.csr.misc.getLsbD (8 + u.plv.toNat) = true ∧ 3 < u.cfg.pmCount ∧
    (0x207#14).toNat = 0x201 + 2 * 3 ∧
    (mix base.csr.ecfg (low32 0x70000) (low32 (BitVec.allOnes 64))).extractLsb' 16 3 ≤ base.cfg.vMax ∧
    ((mix base.csr.rvacfg (low32 8) (low32 (BitVec.allOnes 64))).extractLsb' 0 4).toNat ≤
      (if base.cfg.hasRva then min 8 (base.cfg.rvamaxMinus1.toNat + 1) else 8) := by decide

theorem witness_CsrAccessCompletes_undefined : ¬DefinedCsr (0x9#14).toNat ∧ ¬DefinedCsr (0x3FFF#14).toNat ∧
    DefinedCsr (0x8#14).toNat := by
  simp [DefinedCsr]

/-- R80: neighbours in the address map read different fields; the last register of a group and the first that the
instance lacks; the views of LLbit, of the bad address and of the pending interrupts. -/
theorem witness_CsrAccessCompletes_numbers :
    let s : State := { base with
      cfg := { Config.default with saveNum := 16, hasPm := true, pmNum := 31, mwpNum := 8, fwpNum := 7, numDmw := 3 }
      llbit := true, extIrq := 0x100
      csr := { base.csr with
        badv := 0x800000000000, estat := 0x00490001, save := base.csr.save.set 15 15, dmw := base.csr.dmw.set 2 0x11 }
      mmu := { base.mmu with tlbelo0 := 1, tlbelo1 := 2, pgdl := 0x1000, pgdh := 0x2000, tlbrentry := 0x3000 }
      ras := { base.ras with merrentry := 0x4000 }
      pm := { base.pm with pmcfg := base.pm.pmcfg.set 31 5, pmcnt := base.pm.pmcnt.set 31 6 }
      watch := { base.watch with mwp := base.watch.mwp.set 7 ⟨1, 2, 0x80000000, 4⟩ } }
    let r (n : Nat) : Word := s.csrReadNum (BitVec.ofNat 14 n)
    r 0x12 = 1 ∧ r 0x13 = 2 ∧ r 0x88 = 0x3000 ∧ r 0x93 = 0x4000 ∧ r 0x1B = 0x2000 ∧ r 0x5 = 0x00491001 ∧ r 0x60 = 1 ∧
    r 0x3F = 15 ∧ r 0x182 = 0x11 ∧ r 0x183 = 0 ∧ r 0x23E = 5 ∧ r 0x23F = 6 ∧ r 0x348 = 1 ∧ r 0x349 = 2 ∧
    r 0x34A = 0xFFFFFFFF80000000 ∧ r 0x34B = 4 ∧ r 0x3C8 = 0 ∧ r 0x300 = 8 ∧ r 0x380 = 7 ∧ r 0x500 = 2 ∧
    r 0x21 = 0x72F0 ∧ r 0x23 = 0x0080_73F2 ∧ r 0x98 = 0 := by decide

/-- Every register of the list and of the clauses, on an instance that implements them all; a debug-mode-only
watchpoint outside debug mode; CSRXCHG with two registers. -/
theorem witness_CsrExchangeReadsBack :
    let s : State := { base with cfg := { Config.default with
      saveNum := 16, hasPm := true, pmNum := 31, mwpNum := 8, fwpNum := 8 } }
    s.plv = 0#2 ∧ (plainCsrs s).all (fun p => (csrOfNum s.cfg (BitVec.ofNat 14 p.1)).isSome) = true ∧
    [0x11#14, 0x8E#14, 0x60#14, 0x301#14, 0x381#14, 0x8#14, 0x1B#14, 0x20#14, 0x21#14, 0x22#14, 0x23#14, 0x42#14, 0x91#14,
      0x92#14, 0x300#14, 0x380#14, 0x500#14].all (fun n => (csrOfNum s.cfg n).isSome) = true ∧
    14 ≤ s.cfg.valen ∧ s.cfg.valen ≤ 64 ∧ Watchpoint.field s ⟨0, 0, 1, 0⟩ 0xF9E#32 2 1 = false ∧
    Watchpoint.field s ⟨0, 0, 0, 0⟩ 0xF9E#32 2 1 = true := by decide

/-- Side effects on another CSR: TCFG and TICLR exist; a write of TCFG with En = 1 changes what TVAL reads, one with
En = 0 does not; a 1 written to TICLR with TI pending clears ESTAT.IS[11], a 0 does not; both ends of the monitors. -/
theorem witness_CsrExchangeReadsBack_sides :
    let s : State := { withGr [(4, 0x1001), (5, 0x1000)] with timer := { base.timer with ti := true, timeVal := 7 } }
    let w (i : Instr) (p : State → Bool) : Bool := match exec i s with | .next t => p t | _ => false
    (csrOfNum s.cfg 0x41#14).isSome = true ∧ (csrOfNum s.cfg 0x44#14).isSome = true ∧ s.plv = 0#2 ∧
    w (.csrwr 4 0x41) (fun t => t.csrReadNum 0x42 == 0x1000 && t.csrReadNum 0x41 == 0x1001) = true ∧
    w (.csrwr 5 0x41) (fun t => t.csrReadNum 0x42 == 7) = true ∧ (s.csrReadNum 0x5).getLsbD 11 = true ∧
    w (.csrwr 4 0x44) (fun t => !(t.csrReadNum 0x5).getLsbD 11 && t.csrReadNum 0x44 == 0) = true ∧
    w (.csrwr 5 0x44) (fun t => t.csrReadNum 0x5 == s.csrReadNum 0x5) = true ∧
    0x200 ≤ (0x200#14).toNat ∧ (0x23F#14).toNat < 0x240 := by decide

/-- CSRWR and CSRXCHG with the masks of the statement. -/
theorem witness_CsrExchangeReadsBack_mask (s : State) (x : Word) :
    exchanged true 0 x (BitVec.allOnes 64) 5 = x.getLsbD 5 ∧ exchanged true (s.getGr 3) x 0 5 = (s.getGr 3).getLsbD 5 ∧
    exchanged false (s.getGr 3) x (BitVec.allOnes 64) 5 = (s.getGr 3).getLsbD 5 := by
  simp [exchanged]

/-- The first and the last byte of a range of the host's map, and the byte after it; an instance on which ALCL governs
these instructions, ALCL0 = 1 at an aligned and at an odd address, and ALCL0 = 0; and the default, where it does not. -/
theorem witness_IocsrAccess :
    let c : Config := { Config.default with iocsrMap := [(0x1000, 8)], alclCoversAll := true }
    let s : State := { withGr [(5, 0x1002), (6, 0x1001)] with cfg := c, csr := { base.csr with misc := 0x1000 } }
    iocsrDefined c 0x1000 = true ∧ iocsrDefined c 0x1007 = true ∧ iocsrDefined c 0x1008 = false ∧
    s.cfg.hasIocsr = true ∧ s.plv = 0#2 ∧ sparseWf 0#8 s.iocsr = true ∧ 0x1007 ∈ c.iocsrAddrs 0x1000 8 ∧
    s.cfg.alclCoversAll = true ∧ s.csr.misc.getLsbD 12 = true ∧ (s.cfg.wrap (s.getGr 5)).toNat % 2 = 0 ∧
    (s.cfg.wrap (s.getGr 6)).toNat % 2 ≠ 0 ∧ base.csr.misc.getLsbD 12 = false ∧ base.cfg.ual = true ∧
    base.cfg.alclCoversAll = false := by decide

/-- IDLE with nothing pending and with an enabled interrupt pending (an enabled one that is not, and a pending one that
is not enabled, keep it waiting); DBCL outside and inside debug mode, and where it is not privileged; CACOP on an
illegal address, one that translates, one with no entry and one whose page is invalid. -/
theorem witness_IdleDebugCallAndCacheQuery :
    let line (l : BitVec 9) (e : BitVec 32) : State := { base with extIrq := l, csr := { base.csr with ecfg := e } }
    base.wakes = false ∧ (line 1 4).wakes = true ∧ (line 1 4).plv = 0#2 ∧ (line 0 4).wakes = false ∧
    (line 1 8).wakes = false ∧
    base.plv = 0#2 ∧ ({ base with cfg := { Config.default with dbclPrivileged := false } } : State).cfg.dbclPrivileged
      = false ∧ base.dbg.dbg.getLsbD 0 = false ∧
    ({ base with dbg := { base.dbg with dbg := 1 } } : State).dbg.dbg.getLsbD 0 = true ∧ (0x10#5).toNat / 8 = 2 ∧
    (0x17#5).toNat / 8 = 2 ∧ (mapped 0 id).addressError .load 0x0000800000000000 = true ∧
    (mapped 0 id).addressError .load 0x00007FFFFFFFFFFF = false ∧
    (mapped 0 id).translate .load 0x12341008 = .ok (0x80001008, 1#2) ∧
    (mapped 0 id).translate .load 0x12348000 = .trap (.tlbr 0x12348000) ∧
    (mapped 0 (page0With fun q => { q with v := false })).translate .load 0x12341008 = .trap (.pil 0x12341008) :=
  ⟨by decide, by decide, by decide, by decide, by decide, by decide, rfl, by decide, by decide, by decide, by decide,
    by decide, by decide, rfl, rfl, rfl⟩

/-- TLBSRCH with no matching entry, one and two, and in the refill context; TLBRD of a valid and of an empty entry, at
the last index, beyond it and in the STLB; TLBWR at the first MTLB index and in the set of the STLB, and a set and a
size that conflict; TLBFILL with the STLB's page size and with another. -/
theorem witness_TlbSearchReadWriteFill :
    let key (m : MmuCsr) : Word := (if m.tlbrera.getLsbD 0 then m.tlbrehi else m.tlbehi) &&& ~~~0x1FFF#64
    let s : State := { tlbCsrs with tlb := [(0x168, entryA), (0x803, entryA)] }
    let i (n : BitVec 32) : State := withMmu (fun m => { m with tlbidx := 0x0E000000 ||| n }) s
    let r : State := withMmu (fun m => { m with tlbrera := 1, tlbrehi := 0x1234000E }) s
    s.plv = 0#2 ∧ s.cfg.hasPgmmu = true ∧ s.cfg.tlbType = 2 ∧ s.TlbOk ∧ s.StlbUsable ∧ s.cfg.tlbidxN ≤ 16 ∧
    key s.mmu = 0x12340000 ∧ key r.mmu = 0x12340000 ∧ (∀ j, ¬{ s with tlb := [] }.EntryMatches 0x12340000 j) ∧
    (i 0x803).mmu.tlbidx.toNat % 2 ^ s.cfg.tlbidxN = 0x803 ∧ 0x803 < 2 ^ s.cfg.tlbidxN ∧
    0x83F + 1 = tlbEntries s.cfg ∧ (s.tlbAt 0x803).e = true ∧ (s.tlbAt 0x83F).e = false ∧
    tlbEntries s.cfg ≤ (i 0xFFF).mmu.tlbidx.toNat % 2 ^ s.cfg.tlbidxN ∧ stlbEntries s.cfg = 0x800 ∧
    0x168 % 2 ^ s.cfg.stlbSets = s.stlbSet 0x12340000 ∧ 0x169 % 2 ^ s.cfg.stlbSets ≠ s.stlbSet 0x12340000 ∧
    s.mmu.tlbidx.extractLsb' 24 6 = s.mmu.stlbps.extractLsb' 0 6 ∧
    s.cfg.psavl.getLsbD (s.mmu.stlbps.extractLsb' 0 6).toNat = true ∧
    (withMmu (fun m => { m with stlbps := 12 }) s).mmu.stlbps.extractLsb' 0 6 ≠ s.mmu.tlbidx.extractLsb' 24 6 ∧
    14 ≤ s.cfg.valen ∧ s.cfg.valen ≤ 64 ∧ s.cfg.palen ≤ 60 := by
  refine ⟨by decide, rfl, rfl, rfl, .inl (by decide), by decide, by decide, by decide, no_match _ _ rfl, ?_⟩
  decide

/-- Where one entry and where two match is shown for the same TLB in `witness_MappedModeTranslation`; here the key of
TLBSRCH and a TLB of one entry. -/
theorem witness_TlbSearchReadWriteFill_hit :
    let s : State := { tlbCsrs with tlb := [(0x803, entryA)] }
    s.EntryMatches 0x12340000 0x803 ∧ ∀ j, s.EntryMatches 0x12340000 j → j = 0x803 :=
  ⟨⟨rfl, .inr rfl, fun ps h => h ▸ (show 0x91A0 * 2 ^ 13 % 2 ^ 48 / 2 ^ 15 = 0x12340000 % 2 ^ 48 / 2 ^ 15 by decide),
    fun h => absurd h (show ¬(0x803 < 8 * 2 ^ 8) by decide)⟩, only_match _ _ _ _ rfl⟩

/-- The TLB as above; INVTLB 0 and 6. -/
theorem witness_TlbInvalidation :
    let s : State := { tlbCsrs with tlb := [(0x803, entryA)] }
    s.plv = 0#2 ∧ s.cfg.hasPgmmu = true ∧ s.cfg.tlbType ≠ 0 ∧ sparseWf TlbEntry.empty s.tlb = true ∧
    (0#5).toNat ≤ 6 ∧ (6#5).toNat ≤ 6 := by decide

/-- A huge entry; levels 1 and 4 with backed entries; the entry of a page pair; a level that does not exist; LA32; a
misaligned entry with ALCL0 = 1 on an instance on which ALCL governs page walks; PTbase and PTwidth 0. -/
theorem witness_PageWalk :
    let h := walk 0x86001053 []
    let s := walk 0x104000 []
    let u : State := { walk 0x104004 [] with
      csr := { base.csr with misc := 0x1000 }
      cfg := { Config.default with alclCoversAll := true } }
    let z : State := withMmu (fun m => { m with pwcl := 0 }) h
    let l : State := { s with cfg := { la32.cfg with physMap := [⟨0, 2 ^ 32, .ram⟩] } }
    h.cfg.la64 = true ∧ h.cfg.hasLspw = true ∧ h.plv = 0#2 ∧ (h.getGr 4).getLsbD 6 = true ∧
    (s.getGr 4).getLsbD 6 = false ∧ s.csr.crmd.extractLsb' 7 2 ≠ 3#2 ∧
    ¬(s.cfg.alclCoversAll = true ∧ (s.cfg.ual = false ∨ s.csr.misc.getLsbD 12 = true)) ∧
    (1#8).toNat = 1 ∧ (s.mmu.pwcl.extractLsb' 10 5).toNat = 25 ∧ (s.mmu.pwcl.extractLsb' 15 5).toNat = 11 ∧
    (4#8).toNat = 4 ∧ (∀ a ∈ (List.range 8).map (fun k => (0x104048 + k) % 2 ^ s.cfg.palen),
      byteRefusal s.cfg .load a = none) ∧ l.cfg.la64 = false ∧ l.cfg.hasLspw = true ∧ l.plv = 0#2 ∧
    (∀ a ∈ (List.range 4).map (fun k => (0x104024 + k) % 2 ^ l.cfg.palen), byteRefusal l.cfg .load a = none) ∧
    (u.cfg.alclCoversAll = true ∧ u.csr.misc.getLsbD 12 = true) ∧ (u.getGr 4).getLsbD 6 = false ∧
    (0x104004 + 9 * 8) % 2 ^ u.cfg.palen % 8 ≠ 0 ∧
    (z.mmu.pwcl.extractLsb' 0 5).toNat + (z.mmu.pwcl.extractLsb' 5 5).toNat = 0 ∧
    s.cfg.palen ≤ 60 ∧ 8 ≤ l.cfg.la32PpnLsb ∧ l.cfg.la32PpnLsb ≤ 12 := by decide

/-- One state for each context ERTN returns from, with KLO 0 and 1. -/
theorem witness_ErtnReturnsByContext :
    let d : State := { base with dbg := { base.dbg with dbg := 1 } }
    let m : State := { base with ras := { base.ras with merrctl := 1 } }
    let t : State := withMmu (fun x => { x with tlbrera := 1 }) base
    base.plv = 0#2 ∧ base.dbg.dbg.getLsbD 0 = false ∧ d.dbg.dbg.getLsbD 0 = true ∧ m.ras.merrctl.getLsbD 0 = true ∧
    base.ras.merrctl.getLsbD 0 = false ∧ t.mmu.tlbrera.getLsbD 0 = true ∧ base.mmu.tlbrera.getLsbD 0 = false ∧
    base.csr.llbctl.getLsbD 2 = false ∧
    ({ base with csr := { base.csr with llbctl := 4 } } : State).csr.llbctl.getLsbD 2 = true := by decide

/-- Accesses at an address with no entry, with an invalid, a privileged, an unreadable and a clean page, at an illegal
and a misaligned address, and with a failing bound; read-modify-write and floating-point forms among them. -/
theorem witness_TranslationExceptionsOfAccesses :
    let acc (s : State) (k : AccessKind) (va : Word) := s.accessAddrs (s.ordinary k va 8)
    let rmw (s : State) (va : Word) := s.accessAddrs (s.aligned .rmw va 4)
    let s := mapped 0 id
    let v := mapped 0 (page0With fun q => { q with v := false })
    s.cfg.la64 = true ∧ s.cfg.hasLam = true ∧ FpReady true s ∧ (s.watchMem (s.ordinary .load 0x12348000 8)).2 = false ∧
    (s.watchMem (s.aligned .rmw 0x12348000 4)).2 = false ∧
    acc s .load 0x12348000 = .trap (.tlbr 0x12348000) ∧ rmw s 0x12348000 = .trap (.tlbr 0x12348000) ∧
    acc v .load 0x12341008 = .trap (.pil 0x12341008) ∧ acc v .store 0x12341008 = .trap (.pis 0x12341008) ∧
    acc (mapped 3 id) .load 0x12341008 = .trap (.ppi 0x12341008) ∧
    rmw (mapped 0 (page0With fun q => { q with nr := true })) 0x12341008 = .trap (.pnr 0x12341008) ∧
    rmw (mapped 0 (page0With fun q => { q with d := false })) 0x12341008 = .trap (.pme 0x12341008) ∧
    acc s .load 0x0000800000000000 = .trap (.adem 0x0000800000000000) ∧
    rmw s 0x12341002 = .trap (.ale 0x12341002) ∧
    acc { s with csr := { s.csr with misc := 0x1000 } } .store 0x12341001 = .trap (.ale 0x12341001) ∧
    s.accessAddrs (s.bounded .load 0x12341008 8 false) = .trap (.bce 0x12341008) :=
  ⟨rfl, rfl, ⟨rfl, fun _ => rfl, by decide⟩, by decide, by decide, rfl, rfl, rfl, rfl, rfl, rfl, rfl, rfl, rfl, rfl, rfl⟩

/-- Page-crossing accesses (R244; addresses and results by hand from entry A): the last address whose 4 bytes stand in
one page and the first one whose do not; both pages translated; the second with no entry, invalid, illegal, and of
another memory access type; the first page failing too. -/
theorem witness_TranslationExceptionsOfAccesses_crossing :
    let acc (s : State) (va : Word) := s.accessAddrs (s.ordinary .store va 4)
    let s := mapped 0 id
    let q (f : TlbPage → TlbPage) : State := mapped 0 (fun e => { e with page1 := f e.page1 })
    s.cfg.ual = true ∧ s.csr.misc.getLsbD (12 + s.plv.toNat) = false ∧
    acc s 0x12341FFC = .ok ([0x80001FFC, 0x80001FFD, 0x80001FFE, 0x80001FFF], 1#2) ∧
    acc (q fun p => { p with ppn := 0x80010 }) 0x12343FFD = .ok ([0x80003FFD, 0x80003FFE, 0x80003FFF, 0x80010000], 1#2) ∧
    acc s 0x12347FFE = .trap (.tlbr 0x12348000) ∧
    acc (q fun p => { p with v := false }) 0x12343FFF = .trap (.pis 0x12344000) ∧
    acc s 0x00007FFFFFFFFFFE = .trap (.adem 0x00007FFFFFFFFFFE) ∧
    acc (q fun p => { p with mat := 0 }) 0x12343FFE = .trap (.ale 0x12343FFE) ∧
    acc s 0x1233FFFE = .trap (.tlbr 0x1233FFFE) := ⟨rfl, by decide, rfl, rfl, rfl, rfl, rfl, rfl, rfl⟩

/-- A fetch watchpoint at the reset vector. -/
def fetchWatched : State :=
  { withCrmd 0x208 base with
    cfg := { Config.default with fwpNum := 1 }
    watch := { base.watch with fwp := base.watch.fwp.set 0 ⟨0x1C000000, 0, 0x1E, 0⟩ } }

/-- One state for each way a fetch fails, a watchpoint that hits with Skip 0 and with Skip 1, and a machine error
pending where the fetch address translates. -/
theorem witness_FetchStageExceptions :
    let at' (pc : Word) (s : State) : State := awake (atPc pc s)
    let f := awake fetchWatched
    (f.watchFetch (f.vaddr f.pc)).2 = true ∧ f.irqTaken = false ∧ 0 < f.cfg.fwpNum ∧
    f.watch.fwps.getLsbD 16 = false ∧
    (let u := { f with watch := { f.watch with fwps := 0x10000 } }; (u.watchFetch (u.vaddr u.pc)).2 = false) ∧
    (let u := at' 0x1C000002 base; (u.vaddr u.pc).toNat % 4 ≠ 0 ∧ (u.watchFetch (u.vaddr u.pc)).2 = false) ∧
    (let u := at' 0x0000800000000000 (mapped 0 id); u.addressError .fetch (u.vaddr u.pc) = true) ∧
    (at' 0x12348000 (mapped 0 id)).translate .fetch 0x12348000 = .trap (.tlbr 0x12348000) ∧
    (at' 0x12341008 (mapped 0 (page0With fun q => { q with v := false }))).translate .fetch 0x12341008 =
      .trap (.pif 0x12341008) ∧
    (at' 0x12341008 (mapped 0 (page0With fun q => { q with nx := true }))).translate .fetch 0x12341008 =
      .trap (.pnx 0x12341008) ∧
    (at' 0x12341008 (mapped 3 id)).translate .fetch 0x12341008 = .trap (.ppi 0x12341008) ∧
    (let u := awake { base with merrPending := some ⟨1, true, 2, 3⟩ }
     u.translate .fetch (u.vaddr u.pc) = .ok (0x1C000000, 0#2) ∧ u.merrPending = some ⟨1, true, 2, 3⟩) :=
  ⟨by decide, by decide, by decide, by decide, by decide, by decide, by decide, rfl, rfl, rfl, rfl, ⟨rfl, rfl⟩⟩

/-- R216: the watchpoint of `fetchWatched` hits its address and not the next one. -/
theorem witness_FetchStageExceptions_hit :
    fetchWatched.WatchHits fetchWatched.watch.fwp[0] 0x1C000000 ∧
    ¬fetchWatched.WatchHits fetchWatched.watch.fwp[0] 0x1C000004 := by
  unfold State.WatchHits; decide

/-- R44, R875, R849 item 1: a step brings the ticks of its input to the counter and the timer, one where none is listed,
none on an instance without LLFTP; a core that waits sees them too. -/
theorem test_step_clock :
    let s : State := { State.reset with
      timer := { State.reset.timer with tcfg := 1, timeVal := 3, running := true, stableCounter := 0xFFFFFFFFFFFFFFFF } }
    let i : State := { s with idle := true, inputs := [⟨3, 0, none, [], []⟩] }
    let b : State := { s with cfg := bare.cfg }
    let after (s : State) (p : TimerState → Bool) := (match step s with | .next t => p t.timer | _ => false) = true
    after s (fun t => t.stableCounter == 0 && t.timeVal == 2 && !t.ti) ∧
    after i (fun t => t.stableCounter == 2 && t.ti && !t.running) ∧
    after b (fun t => t == s.timer) := by decide

/-- An interrupt that is taken (the highest line, IPI, among two); an idle core that sleeps on; the waking rule, with IE
not asked for and asked for; a monitor that interrupts; an input with stores at one address, the later one counting. -/
theorem witness_InterruptsAndTheWaitState :
    let i : State := { withCrmd 0xC base with
      csr := { base.csr with crmd := 0xC, ecfg := 0x1004 }, inputs := [⟨0, 0x101, none, [], []⟩] }
    let z : State := { base with idle := true }
    let p : State := { base with
      cfg := { Config.default with hasPm := true, pmNum := 31, iocsrMap := [(0x1000, 1)] }
      pm := { base.pm with pmcfg := base.pm.pmcfg.set 31 0x100000, pmcnt := base.pm.pmcnt.set 31 0x8000000000000000 } }
    let w : State := { base with idle := true, extIrq := 1, csr := { base.csr with ecfg := 4 } }
    (awake i).irqTaken = true ∧ (awake i).isBits.getLsbD 12 = true ∧ z.applyInput.idle = true ∧
    z.applyInput.wakes = false ∧ w.wakes = true ∧ w.csr.crmd.getLsbD 2 = false ∧
    ({ w with cfg := { w.cfg with idleWakeNeedsIe := true } } : State).wakes = false ∧ z.inputs = [] ∧ 31 < p.cfg.pmCount ∧
    p.pm.pmcfg[31].getLsbD 20 = true ∧ p.pm.pmcnt[31].getLsbD 63 = true ∧
    ([(0x2000, 1), (0x2000, 2)] : List Host.Cell) = [(0x2000, 1)] ++ (0x2000, 2) :: [] ∧
    backed p.cfg 0x2000 = true ∧ iocsrDefined p.cfg 0x1000 = true ∧
    0x203F / 2 ^ p.cfg.llGranuleLog2 = 0x2000 / 2 ^ p.cfg.llGranuleLog2 ∧
    0x2040 / 2 ^ p.cfg.llGranuleLog2 ≠ 0x2000 / 2 ^ p.cfg.llGranuleLog2 := by decide

/-- TimeVal 2, 1 and 0; periodic and one-shot; stopped; the instance for the TCFG and TICLR writes; a step that answers
a next state with LLFTP and without (that it does: `test_step_clock`). -/
theorem witness_TimerCountsDown :
    let t : TimerState := { base.timer with tcfg := 3, timeVal := 2, running := true }
    t.tcfg.getLsbD 0 = true ∧ t.running = true ∧ 1 < t.timeVal.toNat ∧ (1#64).toNat ≤ 1 ∧ t.tcfg.getLsbD 1 = true ∧
    (1#64).getLsbD 1 = false ∧ 0 < t.timeVal.toNat ∧ t.ti = false ∧ base.timer.running = false ∧
    base.cfg.la64 = true ∧ base.plv = 0#2 ∧ base.cfg.hasLlftp = true ∧ bare.cfg.hasLlftp = false ∧
    (match step bare with | .next _ => true | _ => false) = true := by decide

/-- The invariants hold at reset, from where a step answers a next state. -/
theorem witness_invariants :
    State.reset.Canonical ∧ (match step State.reset with | .next _ => true | _ => false) = true :=
  ⟨by unfold State.Canonical; decide, by decide⟩

theorem witness_StepKeepsReservedBitsZero : State.reset.ReservedZero := by
  constructor <;> decide

/-- An instruction at PLV3 that completes without an exception, and one that takes it. -/
theorem witness_UserModeKeepsPrivilegedState :
    base.cfg.dbclPrivileged = true ∧ (atPlv 3 base).plv ≠ 0#2 ∧
    runs 0x001018A4 (atPlv 3 base) (fun t => t.plv == 3#2) = true ∧
    runs 0x04000004 (atPlv 3 base) (fun t => t.plv == 0#2) = true := by decide

end Sys2Proof.Tests
end

section
/-!
SUPPORT. What a step can do to the state, said once: every next state comes from the state with the step's inputs
applied by a chain of the model's named updates (`Update`, `Changes`). An invariant of `step` is then two facts: the
inputs of a step keep it, and each named update keeps it (`step_keeps`).
-/

namespace Sys2Proof.Machine

/-! ## The updates a step is made of -/

/-- One named update of the state: the only ways in which executing an instruction or taking an exception or an
interrupt changes it. -/
inductive Update : State → State → Prop
  | setPc (s : State) (x : Word) : Update s (s.setPc x)
  | setGr (s : State) (r : Reg) (x : Word) : Update s (s.setGr r x)
  | setFr (s : State) (r : Reg) (x : Word) : Update s (s.setFr r x)
  | setCf (s : State) (c : BitVec 3) (b : Bool) : Update s (s.setCf c b)
  | draw (s : State) : Update s s.draw.2
  | writeBytes (s : State) (as : List Nat) (v : Word) : Update s (s.writeBytes as v)
  | iocsrWrite (s : State) (a : Word) (n : Nat) (v : Word) : Update s (s.iocsrWrite a n v)
  | setCause (s : State) (e : FpExc) : Update s (s.setCause e)
  | addFlags (s : State) (e : FpExc) : Update s (s.addFlags e)
  | writeFcsr (s : State) (n : BitVec 5) (v : BitVec 32) : Update s (s.writeFcsr n v)
  | csrWrite {s t : State} {id : CsrId} {v m : Word} (h : s.csrWrite id v m = .ok t) : Update s t
  | setTlb (s : State) (i : Nat) (e : TlbEntry) : Update s (s.setTlb i e)
  | tlbInvalidate (s : State) (p : Nat → TlbEntry → Bool) : Update s (s.tlbInvalidate p)
  | setNe (s : State) (b : Bool) : Update s (s.setNe b)
  | setTlbIndex (s : State) (i : Nat) : Update s (s.setTlbIndex i)
  | readValid (s : State) (i : Nat) (e : TlbEntry) : Update s (s.readValid i e)
  | readInvalid (s : State) : Update s s.readInvalid
  | setRefill (s : State) (odd : Bool) (x : Word) (ps : BitVec 6) : Update s (s.setRefill odd x ps)
  | watchMem (s : State) (a : Access) : Update s (s.watchMem a).1
  | watchFetch (s : State) (a : Word) : Update s (s.watchFetch a).1
  | recordBadi (s : State) (fetch : Bool) : Update s (s.recordBadi fetch)
  | recordBadv (s : State) (x : Exc) : Update s (s.recordBadv x)
  | enterGeneral (s : State) (n : Nat) (e : BitVec 6) (sub : BitVec 9) : Update s (s.enterGeneral n e sub)
  | enterRefill (s : State) (va : Word) : Update s (s.enterRefill va)
  | enterMerr (s : State) (ev : MerrEvent) : Update s (s.enterMerr ev)
  | ertn (s : State) : Update s s.ertn
  | debugCallEntry (s : State) (code : BitVec 15) : Update s (s.debugCallEntry code)
  | setLlbit (s : State) (b : Bool) : Update s { s with llbit := b }
  | setLladdr (s : State) (a : Nat) : Update s { s with lladdr := a }
  | setIdle (s : State) (b : Bool) : Update s { s with idle := b }
  | setCurInsn (s : State) (w : BitVec 32) : Update s { s with curInsn := w }

/-- A chain of updates leads from one state to the other. -/
def Changes : State → State → Prop := Relation.ReflTransGen Update

theorem Changes.refl (s : State) : Changes s s := Relation.ReflTransGen.refl

theorem Update.changes {s t : State} (h : Update s t) : Changes s t := Relation.ReflTransGen.single h

theorem Changes.trans {s t u : State} (h : Changes s t) (h' : Changes t u) : Changes s u :=
  Relation.ReflTransGen.trans h h'

/-- A chain goes on with one more update. -/
theorem Changes.next {s t u : State} (h : Changes s t) (h' : Update t u) : Changes s u :=
  Relation.ReflTransGen.tail h h'

/-- What every update keeps, a chain of them keeps. -/
theorem Changes.keeps {P : State → Prop} (hP : ∀ s t, Update s t → P s → P t) {s t : State} (h : Changes s t)
    (hs : P s) : P t := by
  induction h with
  | refl => exact hs
  | tail _ h' ih => exact hP _ _ h' ih

/-- A next state that an outcome answers is reached from `s` by updates. -/
def Leads (s : State) (o : Out) : Prop := ∀ t, o = .next t → Changes s t

theorem Changes.leads {s t : State} (h : Changes s t) : Leads s (.next t) := fun u hu => by cases hu; exact h

theorem leads_fault (s : State) (f : Fault) : Leads s (.fault f) := fun _ h => nomatch h

theorem leads_refused (s : State) (r : Refusal) : Leads s (.refused r) := fun _ h => nomatch h

theorem Leads.of_changes {s u : State} {o : Out} (h : Leads u o) (hu : Changes s u) : Leads s o :=
  fun t ht => hu.trans (h t ht)

/-- An outcome from a state that an update gave. -/
theorem Leads.after {s u : State} {o : Out} (h : Leads u o) (hu : Update s u) : Leads s o := h.of_changes hu.changes

theorem Leads.ite {s : State} {p : Prop} [Decidable p] {o o' : Out} (h : Leads s o) (h' : Leads s o') :
    Leads s (if p then o else o') := by split <;> assumption

/-! ## Going on, and results -/

theorem changes_advance (s : State) : Changes s s.advance := (Update.setPc s _).changes

theorem changes_setFrS (s : State) (r : Reg) (x : BitVec 32) : Changes s (s.setFrS r x) :=
  (Update.draw s).changes.next (.setFr _ r _)

theorem changes_setFmt (s : State) (f : Fmt) (r : Reg) (x : Word) : Changes s (s.setFmt f r x) := by
  cases f with
  | s => exact changes_setFrS s r _
  | d => exact (Update.setFr s r x).changes

/-- The next instruction, after a chain of updates. -/
theorem Changes.leads_advance {s t : State} (h : Changes s t) : Leads s (.next t.advance) :=
  (h.trans (changes_advance t)).leads

theorem leads_skip (s : State) : Leads s s.skip := (Changes.refl s).leads_advance

theorem leads_putGr (s : State) (rd : Reg) (x : Word) : Leads s (s.putGr rd x) :=
  (Update.setGr s rd x).changes.leads_advance

theorem leads_putGrFree (s : State) (rd : Reg) : Leads s (s.putGrFree rd) := (leads_putGr _ rd _).after (.draw s)

theorem leads_putFr (s : State) (fd : Reg) (x : Word) : Leads s (s.putFr fd x) :=
  (Update.setFr s fd x).changes.leads_advance

theorem leads_putFrS (s : State) (fd : Reg) (x : BitVec 32) : Leads s (s.putFrS fd x) :=
  (changes_setFrS s fd x).leads_advance

theorem leads_fpPut (s : State) (f : Fmt) (fd : Reg) (x : Word) : Leads s (s.fpPut f fd x) :=
  (changes_setFmt s f fd x).leads_advance

theorem leads_branch (s : State) (c : Bool) (x : Word) : Leads s (s.branch c x) := by
  cases c with
  | false => exact leads_skip s
  | true => exact (Update.setPc s _).changes.leads

/-! ## Exceptions and gates -/

/-- Taking an exception: BADI, then the refill entry, or BADV and the general entry (R850). -/
theorem changes_takeExc (s : State) (fetch : Bool) (x : Exc) : Changes s (s.takeExc fetch x) := by
  have general : Changes s (((s.recordBadi fetch).recordBadv x).enterGeneral x.code.1.toNat x.code.1 x.code.2) :=
    ((Update.recordBadi s fetch).changes.next (.recordBadv _ x)).next (.enterGeneral _ _ _ _)
  cases x with
  | tlbr va => exact (Update.recordBadi s fetch).changes.next (.enterRefill _ va)
  | _ => exact general

theorem leads_raise (s : State) (x : Exc) : Leads s (s.raise x) := (changes_takeExc s false x).leads

theorem Leads.need {s : State} {k : Out} (h : Leads s k) (b : Bool) : Leads s (s.need b k) := h.ite (leads_raise s _)

theorem Leads.la64Only {s : State} {k : Out} (h : Leads s k) : Leads s (s.la64Only k) := h.need _

theorem Leads.privileged {s : State} {k : Out} (h : Leads s k) : Leads s (s.privileged k) := h.ite (leads_raise s _)

theorem Leads.fpGate {s : State} {k : Out} (h : Leads s k) (dp : Bool) : Leads s (s.fpGate dp k) :=
  (h.ite (leads_raise s _)).need _

theorem Leads.tlbGate {s : State} {k : Out} (h : Leads s k) : Leads s (s.tlbGate k) := h.privileged.need _

theorem Leads.alignGate {s : State} {k : Out} (h : Leads s k) (x : Word) (n : Nat) : Leads s (s.alignGate x n k) :=
  (leads_raise s _).ite h

theorem Leads.iocsrGate {s : State} {k : Out} (h : Leads s k) (a : Word) (n : Nat) : Leads s (s.iocsrGate a n k) :=
  (h.alignGate _ n).privileged.need _

/-- A check passes its value on, takes its exception, or stops. -/
theorem leads_run {α : Type} {s : State} {k : α → Out} (h : ∀ a, Leads s (k a)) (c : Check α) :
    Leads s (c.run s k) := by
  cases c with
  | ok a => exact h a
  | trap x => exact leads_raise s x
  | fault f => exact leads_fault s f
  | refused r => exact leads_refused s r

/-! ## Integer and floating-point forms -/

theorem leads_rdtime (s : State) (t : Word) (rd rj : Reg) : Leads s (s.rdtime t rd rj) :=
  ((leads_raise s _).ite ((Update.setGr s rd t).changes.next (.setGr _ rj _)).leads_advance).need _

/-- The end of an arithmetic floating-point instruction: Cause, then the trap, or Flags and the write (R657). -/
theorem leads_fpFinish (s : State) (e : FpExc) {write : State → State} (h : ∀ u, Changes u (write u)) :
    Leads s (s.fpFinish e write) :=
  Leads.ite (((Update.setCause s e).changes.next (.addFlags _ e)).trans (h _)).leads_advance
    ((leads_raise _ _).after (.setCause s e))

theorem leads_fpDone (s : State) (f : Fmt) (fd : Reg) (r : FpRes) : Leads s (s.fpDone f fd r) :=
  leads_fpFinish s r.exc fun u => changes_setFmt u f fd r.bits

/-- What a flag move writes may be a free value above the flag (D67). -/
theorem changes_flagWord (s : State) (cj : BitVec 3) : Changes s (s.flagWord cj).2 := by
  unfold State.flagWord
  split
  · exact Changes.refl s
  · exact (Update.draw s).changes

/-! ## Memory -/

/-- The watchpoint test and the address part of an access, then the rest of the instruction. -/
theorem leads_withAddrs {k : State → List Nat → BitVec 2 → Out} (h : ∀ u as mat, Leads u (k u as mat)) (s : State)
    (a : Access) : Leads s (s.withAddrs a k) :=
  Leads.after ((leads_raise _ _).ite (leads_run (fun _ => h _ _ _) _)) (.watchMem s a)

theorem leads_withAccess {k : State → List Nat → BitVec 2 → Out} (h : ∀ u as mat, Leads u (k u as mat)) (s : State)
    (a : Access) : Leads s (s.withAccess a k) :=
  leads_withAddrs (fun u as mat => leads_run (fun _ => h u as mat) _) s a

theorem leads_loadS (s : State) (a : Access) (rd : Reg) : Leads s (s.loadS a rd) :=
  leads_withAccess (fun u _ _ => leads_putGr u rd _) s a

theorem leads_loadU (s : State) (a : Access) (rd : Reg) : Leads s (s.loadU a rd) :=
  leads_withAccess (fun u _ _ => leads_putGr u rd _) s a

theorem leads_loadFp (s : State) (f : Fmt) (a : Access) (fd : Reg) : Leads s (s.loadFp f a fd) :=
  leads_withAccess (fun u _ _ => leads_fpPut u f fd _) s a

theorem leads_store (s : State) (a : Access) (v : Word) : Leads s (s.store a v) :=
  leads_withAccess (fun u as _ => (Update.writeBytes u as v).changes.leads_advance) s a

theorem leads_amo {w : Nat} (s : State) (f : BitVec w → BitVec w → BitVec w) (rd rj rk : Reg) :
    Leads s (s.amo f rd rj rk) := by
  refine ((Leads.ite (leads_raise s _) (leads_withAccess (fun u as _ => Leads.ite ?_ ?_) s _)).need _).la64Only
  · exact ((leads_putGrFree _ rd).after (.writeBytes _ as _)).after (.draw u)
  · exact (leads_putGr _ rd _).after (.writeBytes u as _)

theorem leads_loadLinked (s : State) (n : Nat) (rd rj : Reg) (i : BitVec 14) : Leads s (s.loadLinked n rd rj i) := by
  refine leads_withAccess (fun u as _ => Leads.after (Leads.ite ?_ ?_) (.setLladdr u (as.headD 0))) s _
  · exact (leads_putGr _ rd _).after (.setLlbit _ true)
  · exact ((leads_putGrFree _ rd).after (.setLlbit _ _)).after (.draw _)

theorem leads_storeIf {k : State → Out} (h : ∀ u, Leads u (k u)) (s : State) (c : Bool) (as : List Nat) (mat : BitVec 2)
    (v : Word) : Leads s (s.storeIf c as mat v k) :=
  leads_run (fun _ => (h _).after (.writeBytes s _ v)) _

theorem leads_storeConditional (s : State) (n : Nat) (rd rj : Reg) (i : BitVec 14) :
    Leads s (s.storeConditional n rd rj i) := by
  refine leads_withAddrs (fun u as mat => Leads.ite ?_ ?_) s _
  · exact leads_storeIf (fun v => (leads_putGr _ rd _).after (.setLlbit v false)) u _ as mat _
  · exact (leads_storeIf (fun v => (leads_putGrFree _ rd).after (.setLlbit v _)) _ _ as mat _).after (.draw u)

/-! ## CSRs, IOCSR, cache operations -/

theorem changes_csrWriteNum {s t : State} {num : BitVec 14} {v m : Word} (h : s.csrWriteNum num v m = .ok t) :
    Changes s t := by
  unfold State.csrWriteNum at h
  split at h
  · exact (Update.csrWrite h).changes
  · cases h; exact Changes.refl s

theorem leads_csrSwap (s : State) (rd : Reg) (num : BitVec 14) (m : Word) : Leads s (s.csrSwap rd num m) := by
  unfold State.csrSwap
  split
  · rename_i t ht
    exact (leads_putGr t rd _).of_changes (changes_csrWriteNum ht)
  · exact leads_refused s _

theorem leads_iocsrLoad (s : State) (n : Nat) (rd rj : Reg) : Leads s (s.iocsrLoad n rd rj) :=
  (leads_putGr s rd _).iocsrGate _ n

theorem leads_iocsrStore (s : State) (n : Nat) (rd rj : Reg) : Leads s (s.iocsrStore n rd rj) :=
  ((leads_skip _).after (.iocsrWrite s _ n _)).iocsrGate _ n

theorem leads_cacop (s : State) (op : BitVec 5) (va : Word) : Leads s (s.cacop op va) :=
  Leads.ite (Leads.ite (leads_raise s _) (leads_run (fun _ => leads_skip s) _)) (leads_skip s)

/-! ## The TLB and page walking -/

theorem leads_tlbSearch (s : State) : Leads s s.tlbSearch := by
  refine leads_run (fun hit => ?_) _
  cases hit with
  | none => exact (leads_skip _).after (.setNe s true)
  | some p => exact ((leads_skip _).after (.setNe _ false)).after (.setTlbIndex s p.1)

theorem leads_tlbRead (s : State) : Leads s s.tlbRead := by
  refine Leads.ite (leads_fault s _) ?_
  dsimp only
  split
  · exact (leads_skip _).after (.readValid s _ _)
  · exact (leads_skip _).after (.readInvalid s)

theorem leads_tlbWrite (s : State) : Leads s s.tlbWrite := by
  have put : Leads s (s.setTlb s.tlbIndex s.tlbNew).skip := (leads_skip _).after (.setTlb s _ _)
  exact Leads.ite (leads_fault s _)
    (Leads.ite (Leads.ite (leads_fault s _) (Leads.ite (leads_refused s _) put)) put)

theorem leads_tlbFill (s : State) : Leads s s.tlbFill :=
  Leads.ite (leads_refused s _) (((leads_skip _).after (.setTlb _ _ _)).after (.draw s))

theorem leads_tlbInvalidate (s : State) (p : Nat → TlbEntry → Bool) : Leads s (s.tlbInvalidate p).skip :=
  (leads_skip _).after (.tlbInvalidate s p)

theorem leads_walkRead {s : State} {k : Word → Out} (h : ∀ x, Leads s (k x)) (base : Word) (idx : Nat) :
    Leads s (s.walkRead base idx k) :=
  (leads_run (fun _ => h _) _).alignGate _ _

theorem leads_lddir (s : State) (rd rj : Reg) (level : BitVec 8) : Leads s (s.lddir rd rj level) := by
  refine Leads.ite (leads_putGr s rd _) ?_
  split
  · exact leads_refused s _
  · exact leads_walkRead (fun x => leads_putGr s rd x) _ _

theorem changes_ldpteHuge (s : State) (e : Word) (hps : Nat) (odd : Bool) : Changes s (s.ldpteHuge e hps odd) := by
  unfold State.ldpteHuge
  split
  · exact (Update.draw s).changes.next (.setRefill _ _ _ _)
  · exact (Update.setRefill s _ _ _).changes

theorem leads_ldpte (s : State) (rj : Reg) (seq : BitVec 8) : Leads s (s.ldpte rj seq) :=
  Leads.ite (changes_ldpteHuge s _ _ _).leads_advance
    (leads_walkRead (fun _ => (leads_skip _).after (.setRefill s _ _ _)) _ _)

end Sys2Proof.Machine
end

section
/-!
SUPPORT. Every instruction, every step: what a next state was reached by.
-/

namespace Sys2Proof.Machine

/-! ## Every instruction -/

/-- Whatever an instruction answers as a next state was reached by updates. The cases stand together by the shape of the
instruction's meaning. -/
theorem leads_exec (i : Instr) (s : State) : Leads s (exec i s) := by
  cases i
  -- one general register from the registers, the pc and the immediate
  case addW | subW | addiW | alslW | mulW | mulhW | mulhWu | sllW | srlW | sraW | rotrW | slliW | srliW | sraiW
      | rotriW | bytepickW | revb2h | bitrev4b | bitrevW | cpucfg | lu12iW | slt | sltu | slti | sltui | pcaddi
      | pcaddu12i | pcalau12i | and | or | nor | xor | andn | orn | andi | ori | xori | extWB | extWH | cloW | clzW
      | ctoW | ctzW | maskeqz | masknez | divW | modW | divWu | modWu => exact leads_putGr s _ _
  case addD | subD | addiD | addu16iD | alslWu | alslD | lu32iD | lu52iD | pcaddu18i | mulD | mulhD | mulhDu | mulwDW
      | mulwDWu | sllD | srlD | sraD | rotrD | slliD | srliD | sraiD | rotriD | cloD | clzD | ctoD | ctzD | bytepickD
      | revb4h | revb2w | revbD | revh2w | revhD | bitrev8b | bitrevD | divD | modD | divDu | modDu | crcWBW | crcWHW
      | crcWWW | crcWDW | crccWBW | crccWHW | crccWWW | crccWDW => exact (leads_putGr s _ _).la64Only
  case bstrinsW | bstrpickW => exact (leads_putGrFree s _).ite (leads_putGr s _ _)
  case bstrinsD | bstrpickD => exact ((leads_putGrFree s _).ite (leads_putGr s _ _)).la64Only
  case rdtimelW | rdtimehW => exact leads_rdtime s _ _ _
  case rdtimeD => exact (leads_rdtime s _ _ _).la64Only
  -- branches
  case beq | bne | blt | bge | bltu | bgeu | beqz | bnez | b => exact leads_branch s _ _
  case bl | jirl => exact ((Update.setGr s _ _).changes.next (.setPc _ _)).leads
  case bceqz | bcnez => exact (leads_branch s _ _).fpGate _
  -- loads, stores, atomic accesses
  case ldB | ldH | ldW => exact leads_loadS s _ _
  case ldD | ldxB | ldxH | ldxW | ldxD | ldptrW | ldptrD | ldgtB | ldgtH | ldgtW | ldgtD | ldleB | ldleH | ldleW
      | ldleD => exact (leads_loadS s _ _).la64Only
  case ldBu | ldHu => exact leads_loadU s _ _
  case ldWu | ldxBu | ldxHu | ldxWu => exact (leads_loadU s _ _).la64Only
  case stB | stH | stW => exact leads_store s _ _
  case stD | stxB | stxH | stxW | stxD | stptrW | stptrD | stgtB | stgtH | stgtW | stgtD | stleB | stleH | stleW
      | stleD => exact (leads_store s _ _).la64Only
  case amswapW | amswapDbW => exact leads_amo (w := 32) s (fun _ b => b) _ _ _
  case amswapD | amswapDbD => exact leads_amo (w := 64) s (fun _ b => b) _ _ _
  case amaddW | amandW | amorW | amxorW | ammaxW | amminW | ammaxWu | amminWu | amaddDbW
      | amandDbW | amorDbW | amxorDbW | ammaxDbW | amminDbW | ammaxDbWu | amminDbWu | amaddD | amandD | amorD
      | amxorD | ammaxD | amminD | ammaxDu | amminDu | amaddDbD | amandDbD | amorDbD | amxorDbD | ammaxDbD
      | amminDbD | ammaxDbDu | amminDbDu => exact leads_amo s _ _ _ _
  case llW => exact leads_loadLinked s _ _ _ _
  case llD => exact (leads_loadLinked s _ _ _ _).la64Only
  case scW => exact leads_storeConditional s _ _ _ _
  case scD => exact (leads_storeConditional s _ _ _ _).la64Only
  case preld | dbar | ibar => exact leads_skip s
  case preldx => exact (leads_skip s).la64Only
  -- instructions that raise
  case syscall | brk => exact leads_raise s _
  case asrtleD => exact ((leads_raise s _).ite (leads_skip s)).la64Only
  case asrtgtD => exact ((leads_skip s).ite (leads_raise s _)).la64Only
  -- floating-point arithmetic, comparison, conversion
  case faddS | faddD | fsubS | fsubD | fmulS | fmulD | fdivS | fdivD | fmaxS | fmaxD | fminS | fminD | fmaxaS | fmaxaD
      | fminaS | fminaD | fmaddS | fmaddD | fmsubS | fmsubD | fnmaddS | fnmaddD | fnmsubS | fnmsubD | fsqrtS | fsqrtD
      | frecipS | frecipD | frsqrtS | frsqrtD | fscalebS | fscalebD | flogbS | flogbD | frintS | frintD | fcvtSD
      | fcvtDS | ffintSW | ffintSL | ffintDW | ffintDL | ftintWS | ftintWD | ftintLS | ftintLD | ftintrmWS | ftintrmWD
      | ftintrmLS | ftintrmLD | ftintrpWS | ftintrpWD | ftintrpLS | ftintrpLD | ftintrzWS | ftintrzWD | ftintrzLS
      | ftintrzLD | ftintrneWS | ftintrneWD | ftintrneLS | ftintrneLD => exact (leads_fpDone s _ _ _).fpGate _
  case fabsS | fabsD | fnegS | fnegD | fcopysignS | fcopysignD | fclassS | fclassD =>
    exact (leads_fpPut s _ _ _).fpGate _
  case fcmpCondS | fcmpCondD => exact ((leads_fpFinish s _ fun u => (Update.setCf u _ _).changes).fpGate _).need _
  -- floating-point moves
  case fmovS | movgr2frW => exact (leads_putFrS s _ _).fpGate _
  case fmovD | fsel | movgr2frhW => exact (leads_putFr s _ _).fpGate _
  case movgr2frD => exact ((leads_putFr s _ _).fpGate _).la64Only
  case movfr2grS | movfrh2grS => exact (leads_putGr s _ _).fpGate _
  case movfr2grD => exact ((leads_putGr s _ _).fpGate _).la64Only
  case movgr2fcsr =>
    exact (Leads.ite (Update.writeFcsr s _ _).changes.leads_advance
      ((Update.draw s).changes.next (.writeFcsr _ _ _)).leads_advance).fpGate _
  case movfcsr2gr => exact ((leads_putGr s _ _).ite (leads_putGrFree s _)).fpGate _
  case movfr2cf | movgr2cf => exact (Update.setCf s _ _).changes.leads_advance.fpGate _
  case movcf2fr => exact ((leads_putFr _ _ _).of_changes (changes_flagWord s _)).fpGate _
  case movcf2gr => exact ((leads_putGr _ _ _).of_changes (changes_flagWord s _)).fpGate _
  -- floating-point loads and stores
  case fldS | fldD => exact (leads_loadFp s _ _ _).fpGate _
  case fstS | fstD => exact (leads_store s _ _).fpGate _
  case fldxS | fldxD | fldgtS | fldgtD | fldleS | fldleD => exact ((leads_loadFp s _ _ _).fpGate _).la64Only
  case fstxS | fstxD | fstgtS | fstgtD | fstleS | fstleD => exact ((leads_store s _ _).fpGate _).la64Only
  -- privileged instructions
  case csrrd => exact (leads_putGr s _ _).ite (leads_raise s _)
  case csrwr | csrxchg => exact (leads_csrSwap s _ _ _).privileged
  case iocsrrdB | iocsrrdH | iocsrrdW => exact leads_iocsrLoad s _ _ _
  case iocsrrdD => exact (leads_iocsrLoad s _ _ _).la64Only
  case iocsrwrB | iocsrwrH | iocsrwrW => exact leads_iocsrStore s _ _ _
  case iocsrwrD => exact (leads_iocsrStore s _ _ _).la64Only
  case cacop => exact (leads_cacop s _ _).privileged
  case tlbsrch => exact (leads_tlbSearch s).tlbGate
  case tlbrd => exact (leads_tlbRead s).tlbGate
  case tlbwr => exact (leads_tlbWrite s).tlbGate
  case tlbfill => exact (leads_tlbFill s).tlbGate
  case tlbclr | tlbflush => exact (leads_tlbInvalidate s _).tlbGate
  case invtlb => exact ((leads_tlbInvalidate s _).need _).tlbGate
  case ertn => exact (Update.ertn s).changes.leads.privileged
  case dbcl => exact (leads_raise s _).ite (Update.debugCallEntry s _).changes.leads
  case idle => exact ((changes_advance s).next (.setIdle _ _)).leads.privileged
  case lddir => exact (leads_lddir s _ _ _).privileged.need _
  case ldpte => exact (leads_ldpte s _ _).privileged.need _

/-! ## Every step -/

/-- What a fetch answers was reached from `s` by updates. -/
def Fetched.LedFrom (s : State) : Fetched → Prop
  | .word u _ => Changes s u
  | .done o => Leads s o

theorem ledFrom_fetched {α : Type} {s : State} {k : α → Fetched} (h : ∀ a, (k a).LedFrom s) (c : Check α) :
    (c.fetched s k).LedFrom s := by
  cases c with
  | ok a => exact h a
  | trap x => exact (changes_takeExc s true x).leads
  | fault f => exact leads_fault s f
  | refused r => exact leads_refused s r

theorem Fetched.LedFrom.after {s u : State} {f : Fetched} (h : f.LedFrom u) (hu : Update s u) : f.LedFrom s := by
  cases f with
  | word v w => exact hu.changes.trans h
  | done o => exact Leads.after h hu

theorem ledFrom_fetch (s : State) : s.fetch.LedFrom s := by
  unfold State.fetch
  dsimp only
  split
  · exact Leads.after (changes_takeExc _ true .wpef).leads (.watchFetch s _)
  · refine (ledFrom_fetched (fun _ => ?_) _).after (.watchFetch s _)
    split
    · exact (Update.enterMerr _ _).changes.leads
    · refine ledFrom_fetched (fun _ => ?_) _
      exact Changes.refl _

theorem leads_runWord (s : State) (w : BitVec 32) : Leads s (runWord s w) := by
  refine Leads.after ?_ (.setCurInsn s w)
  unfold runWord
  dsimp only
  split
  · exact leads_exec _ _
  · exact leads_raise _ _

theorem leads_stepAwake (s : State) : Leads s (stepAwake s) := by
  refine Leads.ite (Update.enterGeneral s _ _ _).changes.leads ?_
  have h := ledFrom_fetch s
  cases hf : s.fetch with
  | word u w => rw [hf] at h; exact (leads_runWord u w).of_changes h
  | done o => rw [hf] at h; exact h

/-- The inputs of a step, then updates. -/
theorem leads_step (s : State) : Leads s.applyInput (step s) :=
  Leads.ite (Changes.refl _).leads ((leads_stepAwake _).after (.setIdle s.applyInput false))

/-- An invariant of `step`: the inputs of a step keep it, and every update does. -/
theorem step_keeps {P : State → Prop} (hin : ∀ s, P s → P s.applyInput) (hup : ∀ s t, Update s t → P s → P t)
    {s t : State} (h : step s = .next t) (hs : P s) : P t :=
  (leads_step s t h).keeps hup (hin s hs)

end Sys2Proof.Machine
end

section
/-!
What every step keeps: the canonical form of memory, IOCSR space and TLB, the configuration, the register width.
-/

namespace Sys2Proof.Machine

/-- A CSR write changes CSRs, what stands behind them, and LLbit. -/
theorem csrWrite_rest {s t : State} {id : CsrId} {v m : Word} (h : s.csrWrite id v m = .ok t) :
    t = { s with
      csr := t.csr, mmu := t.mmu, timer := t.timer, ras := t.ras, pm := t.pm, watch := t.watch, dbg := t.dbg
      llbit := t.llbit } := by
  cases id <;> simp only [State.csrWrite] at h
  case ticlr => cases h; split <;> rfl
  case ecfg | rvacfg => split at h <;> cases h; rfl
  all_goals cases h; rfl

/-! ## Canonical form -/

theorem Update.canonical {s t : State} (h : Update s t) (hs : s.Canonical) : t.Canonical := by
  obtain ⟨hmem, hiocsr, htlb⟩ := hs
  cases h
  case writeBytes as v => exact ⟨writeBytes_wf hmem as v, hiocsr, htlb⟩
  case iocsrWrite a n v => exact ⟨hmem, iocsrWrite_wf hiocsr a n v, htlb⟩
  case setTlb i e => exact ⟨hmem, hiocsr, setTlb_wf htlb i e⟩
  case tlbInvalidate p => exact ⟨hmem, hiocsr, tlbInvalidate_wf htlb p⟩
  case csrWrite h => rw [csrWrite_rest h]; exact ⟨hmem, hiocsr, htlb⟩
  all_goals simpa [State.Canonical] using ⟨hmem, hiocsr, htlb⟩

/-- What each step of a fold keeps, the fold keeps. -/
theorem foldl_preserves {α β : Type} {f : α → β → α} {P : α → Prop} (h : ∀ a b, P a → P (f a b)) (l : List β) :
    ∀ a, P a → P (l.foldl f a) := by
  induction l with
  | nil => exact fun _ ha => ha
  | cons b l ih => exact fun a ha => ih (f a b) (h a b ha)

theorem applyInput_canonical {s : State} (hs : s.Canonical) : s.applyInput.Canonical := by
  unfold State.applyInput
  split
  · simpa [State.Canonical] using hs
  · refine foldl_preserves (fun u c hu => ?_) _ _ (foldl_preserves (fun u c hu => ?_) _ _ ?_)
    · exact ⟨hu.1, otherIocsr_wf hu.2.1 c, hu.2.2⟩
    · exact ⟨otherStore_wf hu.1 c, hu.2⟩
    · simpa [State.Canonical] using hs

/-- Settles O57: the inputs of a step keep the canonical form, and every update does. -/
theorem stepKeepsCanonicalForm : Obligations.StepKeepsCanonicalForm :=
  fun _ _ hs h => step_keeps (P := State.Canonical) (fun _ => applyInput_canonical) (fun _ _ => Update.canonical) h hs

/-! ## The configuration and the register width -/

theorem Update.cfg_eq {s t : State} (h : Update s t) : t.cfg = s.cfg := by
  cases h
  case csrWrite h => rw [csrWrite_rest h]
  all_goals simp

theorem step_cfg {s t : State} (h : step s = .next t) : t.cfg = s.cfg :=
  step_keeps (P := fun u => u.cfg = s.cfg) (fun _ hu => (applyInput_cfg _).trans hu)
    (fun _ _ hu => hu.cfg_eq.trans) h rfl

/-- ERTN goes to an address cut to the register width. -/
theorem ertn_pc (s : State) : ∃ x, s.ertn.pc = s.cfg.wrap x := by
  have hpc : s.ertn.pc = s.ertnContext.pc := by
    unfold State.ertn State.ertnLlbit
    split <;> rfl
  rw [hpc]
  unfold State.ertnContext
  dsimp only
  split_ifs <;> exact ⟨_, rfl⟩

/-- Whatever writes the pc cuts it to the register width. -/
theorem Update.pc_cases {s t : State} (h : Update s t) : t.pc = s.pc ∨ ∃ x, t.pc = s.cfg.wrap x := by
  cases h
  case setPc x => exact .inr ⟨x, rfl⟩
  case enterGeneral | enterRefill | enterMerr | debugCallEntry => exact .inr ⟨_, rfl⟩
  case ertn => exact .inr (ertn_pc s)
  case csrWrite h => rw [csrWrite_rest h]; exact .inl rfl
  all_goals exact .inl (by simp)

/-- Whatever writes a general register brings the value to the register width. -/
theorem Update.getGr_cases {s t : State} (h : Update s t) (r : Reg) :
    t.getGr r = s.getGr r ∨ ∃ x, t.getGr r = s.cfg.normGr x := by
  cases h
  case setGr q x =>
    by_cases hq : r = q
    · subst hq
      rw [setGr_getGr_same]
      split
      · exact .inr ⟨0#64, (normGr_zero _).symm⟩
      · exact .inr ⟨x, rfl⟩
    · exact .inl (setGr_getGr_other s x hq)
  case csrWrite h => rw [csrWrite_rest h]; exact .inl rfl
  all_goals exact .inl (getGr_of_gr (by simp) r)

theorem Update.fitsWidth {s t : State} (h : Update s t) (hs : s.FitsWidth) : t.FitsWidth := by
  obtain ⟨hpc, hgr⟩ := hs
  refine ⟨?_, fun r => ?_⟩ <;> rw [h.cfg_eq]
  · obtain h | ⟨x, h⟩ := h.pc_cases <;> rw [h]
    · exact hpc
    · exact wrap_idem _ x
  · obtain h | ⟨x, h⟩ := h.getGr_cases r <;> rw [h]
    · exact hgr r
    · exact normGr_idem _ x

theorem applyInput_fitsWidth {s : State} (hs : s.FitsWidth) : s.applyInput.FitsWidth := by
  obtain ⟨hpc, hgr⟩ := hs
  refine ⟨by simpa using hpc, fun r => ?_⟩
  rw [applyInput_cfg, getGr_of_gr (applyInput_gr s)]
  exact hgr r

/-- Settles O58: no update changes the configuration, and what an update writes to the pc or to a general register has
the register width. -/
theorem stepKeepsRegisterWidth : Obligations.StepKeepsRegisterWidth :=
  ⟨fun _ _ h => ⟨step_cfg h,
    step_keeps (P := State.FitsWidth) (fun _ => applyInput_fitsWidth) (fun _ _ => Update.fitsWidth) h⟩, getGr_zero⟩

end Sys2Proof.Machine
end

section
/-!
The clock and the timer: what a step, a tick, a write of TCFG and a write of TICLR do (R44, R875-R878).
-/

namespace Sys2Proof.Machine

/-! ## The clock of a step -/

theorem Update.stableCounter_eq {s t : State} (h : Update s t) : t.timer.stableCounter = s.timer.stableCounter := by
  cases h
  case csrWrite h => exact csrWrite_stableCounter h
  all_goals simp

theorem clockAfter_stableCounter (s : State) (n : Nat) : (s.clockAfter n).stableCounter =
    s.timer.stableCounter + (if s.cfg.hasLlftp then BitVec.ofNat 64 n else 0#64) := by
  unfold State.clockAfter
  split
  · exact ticks_stableCounter n _
  · simp

/-- Only the inputs of a step move the Stable Counter. -/
theorem step_stableCounter {s t : State} (h : step s = .next t) : t.timer.stableCounter =
    s.timer.stableCounter + (if s.cfg.hasLlftp then BitVec.ofNat 64 s.comingTicks else 0#64) := by
  have kept : t.timer.stableCounter = s.applyInput.timer.stableCounter :=
    (leads_step s t h).keeps (P := fun u => u.timer.stableCounter = s.applyInput.timer.stableCounter)
      (fun _ _ hu => hu.stableCounter_eq.trans) rfl
  rw [kept, applyInput_timer, clockAfter_stableCounter]

/-! ## One tick and many -/

theorem ticks_succ (n : Nat) : ∀ t : TimerState, TimerState.ticks (n + 1) t = (TimerState.ticks n t).tick := by
  induction n with
  | zero => exact fun _ => rfl
  | succ n ih => exact fun t => ih t.tick

/-- A disabled or stopped timer: only the Stable Counter moves. -/
theorem tick_stopped {t : TimerState} (h : t.tcfg.getLsbD 0 = false ∨ t.running = false) :
    t.tick = { t with stableCounter := t.stableCounter + 1 } := by
  have hoff : (t.tcfg.getLsbD 0 && t.running) = false := by
    rcases h with h | h <;> simp only [h, Bool.false_and, Bool.and_false]
  simp only [TimerState.tick, TimerState.timerTick, hoff, Bool.false_eq_true, if_false]

/-- A running timer above 1 counts down. -/
theorem tick_counts {t : TimerState} (hen : t.tcfg.getLsbD 0 = true) (hrun : t.running = true)
    (hv : 1 < t.timeVal.toNat) :
    t.tick = { t with timeVal := t.timeVal - 1, stableCounter := t.stableCounter + 1 } := by
  have h0 : t.timeVal ≠ 0#64 := by bv_omega
  have h1 : t.timeVal - 1 ≠ 0#64 := by bv_omega
  simp only [TimerState.tick, TimerState.timerTick, hen, hrun, Bool.and_self, if_true, if_neg h0, if_neg h1]

/-- A running timer at 1 or 0 sets TI, and reloads or stops. -/
theorem tick_expires {t : TimerState} (hen : t.tcfg.getLsbD 0 = true) (hrun : t.running = true)
    (hv : t.timeVal.toNat ≤ 1) :
    t.tick = { t with
      ti := true, timeVal := if t.tcfg.getLsbD 1 then t.tcfg &&& ~~~3#64 else 0#64, running := t.tcfg.getLsbD 1
      stableCounter := t.stableCounter + 1 } := by
  have hlast : (if t.timeVal = 0#64 then 0#64 else t.timeVal - 1) = 0#64 := by split <;> bv_omega
  simp only [TimerState.tick, TimerState.timerTick, hen, hrun, Bool.and_self, if_true, hlast]
  cases t.tcfg.getLsbD 1 <;> simp

/-- No tick clears TI. -/
theorem tick_ti {t : TimerState} (h : t.ti = true) : t.tick.ti = true := by
  by_cases hon : t.tcfg.getLsbD 0 = true ∧ t.running = true
  · obtain ⟨hen, hrun⟩ := hon
    rcases Nat.lt_or_ge 1 t.timeVal.toNat with hv | hv
    · rw [tick_counts hen hrun hv]; exact h
    · rw [tick_expires hen hrun hv]
  · rw [not_and_or, Bool.not_eq_true, Bool.not_eq_true] at hon
    rw [tick_stopped hon]; exact h

theorem ticks_ti (n : Nat) : ∀ {t : TimerState}, t.ti = true → (TimerState.ticks n t).ti = true := by
  induction n with
  | zero => exact id
  | succ n ih => exact fun h => ih (tick_ti h)

/-- A tick writes no CSR of the timer but TVAL. -/
theorem tick_csrs (t : TimerState) : t.tick.tcfg = t.tcfg ∧ t.tick.tid = t.tid ∧ t.tick.cntc = t.cntc := by
  unfold TimerState.tick TimerState.timerTick
  dsimp only
  split_ifs <;> exact ⟨rfl, rfl, rfl⟩

/-- A one-shot timer sets TI after as many ticks as its TimeVal, and not before. -/
theorem ticks_ti_iff (n : Nat) : ∀ t : TimerState, t.tcfg.getLsbD 0 = true → t.tcfg.getLsbD 1 = false →
    t.running = true → 0 < t.timeVal.toNat → t.ti = false →
    ((TimerState.ticks n t).ti = true ↔ t.timeVal.toNat ≤ n) := by
  induction n with
  | zero =>
    intro t _ _ _ hpos hti
    simp [TimerState.ticks, hti, hpos.ne']
  | succ n ih =>
    intro t hen hper hrun hpos hti
    rw [TimerState.ticks]
    by_cases hv : 1 < t.timeVal.toNat
    · have hdec : (t.timeVal - 1).toNat = t.timeVal.toNat - 1 := by bv_omega
      have rest := ih { t with timeVal := t.timeVal - 1, stableCounter := t.stableCounter + 1 } hen hper hrun
        (by dsimp only; omega) hti
      rw [tick_counts hen hrun hv, rest, hdec]
      omega
    · have hexp : t.tick.ti = true := by rw [tick_expires hen hrun (by omega)]
      exact iff_of_true (ticks_ti n hexp) (by omega)

/-! ## Writes of TCFG and TICLR -/

theorem csrOfNum_tcfg {c : Config} (h : c.hasLlftp = true) : csrOfNum c 0x41#14 = some .tcfg := by
  simp [csrOfNum, csrFixed, CsrId.implemented, h]

theorem csrOfNum_ticlr {c : Config} (h : c.hasLlftp = true) : csrOfNum c 0x44#14 = some .ticlr := by
  simp [csrOfNum, csrFixed, CsrId.implemented, h]

/-- CSRWR at PLV0 of an implemented CSR whose write is not refused: the old value to rd, the new one to the CSR. -/
theorem csrwr_spec {s u : State} {rd : Reg} {num : BitVec 14} {id : CsrId} (hplv : s.plv = 0#2)
    (hid : csrOfNum s.cfg num = some id) (hw : s.csrWrite id (s.getGr rd) (BitVec.allOnes 64) = .ok u) :
    ∃ t, exec (.csrwr rd num) s = .next t ∧ GrIs s t rd (s.csrRead id) ∧ t.csr = u.csr ∧ t.timer = u.timer := by
  have hx : exec (.csrwr rd num) s = u.putGr rd (s.csrRead id) := by
    show s.privileged (s.csrSwap rd num _) = _
    simp only [State.privileged, hplv, if_true, State.csrSwap, State.csrWriteNum, State.csrReadNum, hid, hw]
  obtain ⟨t, ht, hgr, -, ho⟩ := putGr_spec u rd (s.csrRead id)
  have hcfg : u.cfg = s.cfg := (Update.csrWrite hw).cfg_eq
  exact ⟨t, hx.trans ht, by rw [GrIs, ← hcfg]; exact hgr, ho.sys.csr, ho.sys.timer⟩

theorem lowMask_getLsbD (n i : Nat) (hi : i < 64) : (lowMask n).getLsbD i = decide (i < n) := by
  rw [lowMask, BitVec.getLsbD_ofNat, Nat.testBit_two_pow_sub_one, decide_eq_true hi, Bool.true_and]

theorem mix_getLsbD {n : Nat} (old v m : BitVec n) (i : Nat) :
    (mix old v m).getLsbD i = if m.getLsbD i then v.getLsbD i else old.getLsbD i := by
  by_cases hi : i < n
  · simp only [mix, BitVec.getLsbD_or, BitVec.getLsbD_and, BitVec.getLsbD_not, hi]
    cases m.getLsbD i <;> simp
  · simp [BitVec.getLsbD_of_ge _ i (not_lt.1 hi)]

/-- A write of TCFG takes the bits the timer has, and starts or stops it. -/
theorem writeTcfg_spec {c : Config} (hc : c.la64 = true) (t : TimerState) (v : Word) :
    let w := t.writeTcfg c v (BitVec.allOnes 64)
    w.ti = t.ti ∧ (∀ i < 64, i < c.timerBits → w.tcfg.getLsbD i = v.getLsbD i) ∧
    (w.tcfg.getLsbD 0 = true → w.running = true ∧ w.timeVal = w.tcfg &&& ~~~3#64) ∧
    (w.tcfg.getLsbD 0 = false → w.running = false ∧ w.timeVal = t.timeVal) := by
  have bits : ∀ i < 64, i < c.timerBits →
      (mix t.tcfg v (BitVec.allOnes 64 &&& grMask c &&& lowMask c.timerBits)).getLsbD i = v.getLsbD i := by
    intro i hi hn
    rw [mix_getLsbD, if_pos]
    rw [BitVec.getLsbD_and, BitVec.getLsbD_and, lowMask_getLsbD _ _ hi, grMask, if_pos hc, BitVec.getLsbD_allOnes]
    simp [hi, hn]
  unfold TimerState.writeTcfg
  dsimp only
  split
  · rename_i hen
    exact ⟨rfl, bits, fun _ => ⟨rfl, rfl⟩, fun hdis => absurd (hen.symm.trans hdis) (by decide)⟩
  · rename_i hdis
    exact ⟨rfl, bits, fun hen => absurd hen hdis, fun _ => ⟨rfl, rfl⟩⟩

/-- A write of TICLR clears TI exactly where bit 0 is 1. -/
theorem csrWrite_ticlr (s : State) (v : Word) : s.csrWrite .ticlr v (BitVec.allOnes 64) =
    .ok { s with timer := { s.timer with ti := s.timer.ti && !v.getLsbD 0 } } := by
  have bit : (low32 v &&& low32 (BitVec.allOnes 64)).getLsbD 0 = v.getLsbD 0 := by simp [low32]
  simp only [State.csrWrite, bit]
  cases v.getLsbD 0 <;> simp

/-- Settles O56: only the inputs of a step move the clock, a tick is one of `tick_stopped`, `tick_counts` and
`tick_expires`, and CSRWR at PLV0 answers the write of the CSR. -/
theorem timerCountsDown : Obligations.TimerCountsDown := by
  refine ⟨fun s t => step_stableCounter, fun s n => ⟨applyInput_timer s, ?_, ?_⟩, fun t => ⟨?_, ?_, ?_, ?_⟩,
    fun t n => ticks_ti_iff n t, fun rd s hla hplv hll => ⟨?_, ?_⟩⟩
  · intro h
    simp [State.clockAfter, h]
  · intro h
    simp only [State.clockAfter, h, if_true]
    exact ⟨rfl, ticks_succ n s.timer⟩
  · rfl
  · intro hen hrun
    refine ⟨fun hv => ?_, fun hv => ?_⟩
    · rw [tick_counts hen hrun hv]
      exact ⟨rfl, rfl, hrun⟩
    · rw [tick_expires hen hrun hv]
      exact ⟨rfl, fun hper => ⟨if_pos hper, hper⟩, fun hper => ⟨if_neg (by rw [hper]; decide), hper⟩⟩
  · exact tick_stopped
  · exact tick_csrs t
  · obtain ⟨t, hx, hgr, -, htimer⟩ := csrwr_spec (rd := rd) hplv (csrOfNum_tcfg hll) rfl
    refine ⟨t, hx, hgr, ?_⟩
    rw [htimer]
    exact writeTcfg_spec hla s.timer (s.getGr rd)
  · obtain ⟨t, hx, hgr, hcsr, htimer⟩ := csrwr_spec (rd := rd) hplv (csrOfNum_ticlr hll) (csrWrite_ticlr s _)
    exact ⟨t, hx, hgr, hcsr, htimer⟩

end Sys2Proof.Machine
end

section
/-!
What every step keeps: the bits of CSRs and FCSR0 that do not exist stay 0 (R81). `r` is a mask of such bits, and
`x &&& r = 0` says that `x` has none of them set.
-/

namespace Sys2Proof.Machine

/-! ## Masks and fields beside the reserved bits -/

theorem and_mask_clear {n : Nat} {k r : BitVec n} (h : k &&& r = 0#n) (x : BitVec n) : x &&& k &&& r = 0#n := by
  rw [BitVec.and_assoc, h, BitVec.and_zero]

theorem and_clear {n : Nat} {x r : BitVec n} (h : x &&& r = 0#n) (k : BitVec n) : x &&& k &&& r = 0#n := by
  rw [BitVec.and_comm x k, and_mask_clear h]

theorem or_clear {n : Nat} {x y r : BitVec n} (hx : x &&& r = 0#n) (hy : y &&& r = 0#n) : (x ||| y) &&& r = 0#n := by
  rw [BitVec.and_or_distrib_right, hx, hy, BitVec.or_zero]

theorem append_clear {a b : Nat} {x rx : BitVec a} {y ry : BitVec b} (hx : x &&& rx = 0#a) (hy : y &&& ry = 0#b) :
    (x ++ y) &&& (rx ++ ry) = 0#(a + b) := by
  rw [BitVec.and_append, hx, hy, BitVec.zero_append_zero]

/-- A value moved to a field that holds no reserved bit sets none. -/
theorem field_clear {n : Nat} {r : BitVec n} {lo w : Nat} (hr : (BitVec.allOnes w).setWidth n <<< lo &&& r = 0#n)
    (v : BitVec w) : v.setWidth n <<< lo &&& r = 0#n := by
  have inside : v.setWidth n <<< lo &&& (BitVec.allOnes w).setWidth n <<< lo = v.setWidth n <<< lo := by
    rw [← BitVec.shiftLeft_and_distrib, ← BitVec.setWidth_and, BitVec.and_allOnes]
  rw [← inside, and_mask_clear hr]

/-- Replacing a field sets no reserved bit where the new field has none. -/
theorem putBits_clear {n : Nat} {x r : BitVec n} {lo w : Nat} {v : BitVec w} (hx : x &&& r = 0#n)
    (hv : v.setWidth n <<< lo &&& r = 0#n) : putBits x lo w v &&& r = 0#n := or_clear (and_clear hx _) hv

theorem putBit_false_clear {n : Nat} {x r : BitVec n} (hx : x &&& r = 0#n) (i : Nat) :
    putBit x i false &&& r = 0#n := putBits_clear hx (by simp)

/-- A write through a mask with no reserved bit sets none. -/
theorem mix_clear {n : Nat} {old r k : BitVec n} (hold : old &&& r = 0#n) (hk : k &&& r = 0#n) (v m : BitVec n) :
    mix old v (m &&& k) &&& r = 0#n := or_clear (and_clear hold _) (and_mask_clear (and_mask_clear hk m) v)

/-! ## The write masks -/

theorem weMask_clear {m r : BitVec 32} (h : m &&& r = 0#32) (c : Config) (i : Nat) : weMask c i m &&& r = 0#32 := by
  unfold weMask
  split
  · exact h
  · exact putBit_false_clear h i

theorem euenMask_clear (c : Config) : euenMask c &&& ~~~0x1#32 = 0#32 := by
  unfold euenMask
  split <;> rfl

theorem miscMask_clear (c : Config) : miscMask c &&& ~~~0x0007FEEE#32 = 0#32 := by
  unfold miscMask
  refine or_clear (or_clear rfl ?_) ?_ <;> split <;> rfl

theorem ppnMask_clear (c : Config) : ppnMask c &&& 0xFFF#64 = 0#64 := and_mask_clear rfl _

theorem fcsrMask_clear (n : BitVec 5) : fcsrMask n &&& ~~~0x1F1F031F#32 = 0#32 := by
  unfold fcsrMask
  split_ifs <;> rfl

/-! ## What exception entry and return write -/

/-- CRMD as ERTN restores it. -/
theorem restoreMode_clear {c : BitVec 32} (h : c &&& ~~~0x3FF#32 = 0#32) (m : BitVec 3) (we : BitVec 1) :
    restoreMode c m we &&& ~~~0x3FF#32 = 0#32 :=
  putBits_clear (putBits_clear h (field_clear rfl m)) (field_clear rfl we)

/-- PRMD as general entry saves it (R92, R851). -/
theorem savedPrmd_clear (we : BitVec 1) (m : BitVec 3) : (we ++ m).setWidth 32 &&& ~~~0xF#32 = 0#32 := by
  have fields : 0#28 ++ (we ++ m) &&& 0xFFFFFFF#28 ++ (0#1 ++ 0#3) = 0#32 :=
    append_clear BitVec.zero_and (append_clear BitVec.and_zero BitVec.and_zero)
  rw [BitVec.setWidth_eq_append (by decide)]
  exact fields

/-- TLBRPRMD as the refill entry saves it: bit 3 does not exist (R147, R853). -/
theorem savedTlbrprmd_clear (we : BitVec 1) (m : BitVec 3) :
    (we ++ 0#1 ++ m).setWidth 32 &&& ~~~0x17#32 = 0#32 := by
  have fields : 0#27 ++ (we ++ 0#1 ++ m) &&& 0x7FFFFFF#27 ++ (0#1 ++ 1#1 ++ 0#3) = 0#32 :=
    append_clear BitVec.zero_and (append_clear (append_clear BitVec.and_zero BitVec.zero_and) BitVec.and_zero)
  rw [BitVec.setWidth_eq_append (by decide)]
  exact fields

/-- MERRCTL as the machine error entry writes it: bits 5, 15:13 and 31:24 do not exist (R170, R860). -/
theorem savedMerrctl_clear (cause : BitVec 8) (da : BitVec 6) (we ie : BitVec 1) (plv : BitVec 2) (rep : BitVec 1) :
    0#8 ++ cause ++ 0#3 ++ da ++ we ++ 0#1 ++ ie ++ plv ++ rep ++ 1#1 &&& ~~~0x00FF1FDF#32 = 0#32 :=
  have fields : 0#8 ++ cause ++ 0#3 ++ da ++ we ++ 0#1 ++ ie ++ plv ++ rep ++ 1#1 &&&
      (0xFF#8 ++ 0#8 ++ 7#3 ++ 0#6 ++ 0#1 ++ 1#1 ++ 0#1 ++ 0#2 ++ 0#1 ++ 0#1) = 0#32 := by
    repeat' apply append_clear
    all_goals simp
  fields

/-! ## Each update keeps them -/

/-- Only CSRs and FCSR0 have such bits. -/
theorem State.ReservedZero.of_parts {s t : State} (hs : s.ReservedZero) (hcsr : t.csr = s.csr) (hmmu : t.mmu = s.mmu)
    (hras : t.ras = s.ras) (hfcsr : t.fcsr0 = s.fcsr0) : t.ReservedZero := by
  have parts : { s with csr := t.csr, mmu := t.mmu, ras := t.ras, fcsr0 := t.fcsr0 }.ReservedZero := by
    rw [hcsr, hmmu, hras, hfcsr]; exact hs
  exact { parts with }

/-- A CSR write goes through the mask of the bits that exist. -/
theorem csrWrite_reservedZero {s t : State} {id : CsrId} {v m : Word} (h : s.csrWrite id v m = .ok t)
    (hs : s.ReservedZero) : t.ReservedZero := by
  cases id <;> simp only [State.csrWrite] at h
  case crmd => cases h; exact { hs with crmd := mix_clear hs.crmd (weMask_clear rfl _ _) _ _ }
  case prmd => cases h; exact { hs with prmd := mix_clear hs.prmd (weMask_clear rfl _ _) _ _ }
  case euen => cases h; exact { hs with euen := mix_clear hs.euen (euenMask_clear _) _ _ }
  case misc => cases h; exact { hs with misc := mix_clear hs.misc (miscMask_clear _) _ _ }
  case ecfg => split at h <;> cases h; exact { hs with ecfg := mix_clear hs.ecfg rfl _ _ }
  case estat => cases h; exact { hs with estat := mix_clear hs.estat rfl _ _ }
  case eentry => cases h; exact { hs with eentry := mix_clear hs.eentry rfl _ _ }
  case rvacfg => split at h <;> cases h; exact { hs with rvacfg := mix_clear hs.rvacfg rfl _ _ }
  case llbctl => cases h; exact { hs with llbctl := mix_clear hs.llbctl rfl _ _ }
  case asid => cases h; exact { hs with asid := mix_clear hs.asid rfl _ _ }
  case stlbps => cases h; exact { hs with stlbps := mix_clear hs.stlbps rfl _ _ }
  case pgdl => cases h; exact { hs with pgd := ⟨mix_clear hs.pgd.1 rfl _ _, hs.pgd.2⟩ }
  case pgdh => cases h; exact { hs with pgd := ⟨hs.pgd.1, mix_clear hs.pgd.2 rfl _ _⟩ }
  case pwch => cases h; exact { hs with pwch := mix_clear hs.pwch rfl _ _ }
  case tlbrentry => cases h; exact { hs with tlbrentry := mix_clear hs.tlbrentry (ppnMask_clear _) _ _ }
  case tlbrera => cases h; exact { hs with tlbrera := mix_clear hs.tlbrera rfl _ _ }
  case tlbrprmd => cases h; exact { hs with tlbrprmd := mix_clear hs.tlbrprmd (weMask_clear rfl _ _) _ _ }
  case merrctl => cases h; exact { hs with merrctl := mix_clear hs.merrctl (weMask_clear rfl _ _) _ _ }
  case merrentry => cases h; exact { hs with merrentry := mix_clear hs.merrentry (ppnMask_clear _) _ _ }
  case ticlr => cases h; split <;> exact { hs with }
  all_goals cases h; exact { hs with }

theorem setCause_reservedZero {s : State} (hs : s.ReservedZero) (e : FpExc) : (s.setCause e).ReservedZero :=
  { hs with fcsr := putBits_clear hs.fcsr (field_clear rfl e) }

theorem addFlags_reservedZero {s : State} (hs : s.ReservedZero) (e : FpExc) : (s.addFlags e).ReservedZero :=
  { hs with fcsr := or_clear hs.fcsr (field_clear rfl e) }

theorem writeFcsr_reservedZero {s : State} (hs : s.ReservedZero) (n : BitVec 5) (v : BitVec 32) :
    (s.writeFcsr n v).ReservedZero :=
  { hs with fcsr := or_clear (and_clear hs.fcsr _) (and_mask_clear (fcsrMask_clear n) v) }

theorem readValid_reservedZero {s : State} (hs : s.ReservedZero) (i : Nat) (e : TlbEntry) :
    (s.readValid i e).ReservedZero :=
  { hs with asid := putBits_clear hs.asid (field_clear rfl e.asid) }

theorem setRefill_reservedZero {s : State} (hs : s.ReservedZero) (odd : Bool) (x : Word) (ps : BitVec 6) :
    (s.setRefill odd x ps).ReservedZero := by
  cases odd <;> exact { hs with }

theorem recordBadi_reservedZero {s : State} (hs : s.ReservedZero) (fetch : Bool) :
    (s.recordBadi fetch).ReservedZero := by
  cases fetch <;> exact { hs with }

theorem recordBadv_reservedZero {s : State} (hs : s.ReservedZero) (x : Exc) : (s.recordBadv x).ReservedZero := by
  cases x <;> exact { hs with }

theorem enterGeneral_reservedZero {s : State} (hs : s.ReservedZero) (n : Nat) (e : BitVec 6) (sub : BitVec 9) :
    (s.enterGeneral n e sub).ReservedZero :=
  { hs with
    crmd := and_clear hs.crmd _
    prmd := savedPrmd_clear _ _
    estat := putBits_clear (putBits_clear hs.estat (field_clear rfl e)) (field_clear rfl sub) }

theorem enterRefill_reservedZero {s : State} (hs : s.ReservedZero) (va : Word) : (s.enterRefill va).ReservedZero :=
  { hs with
    crmd := or_clear (and_clear hs.crmd _) rfl
    tlbrprmd := savedTlbrprmd_clear _ _
    tlbrera := or_clear (and_mask_clear rfl _) rfl }

theorem enterMerr_reservedZero {s : State} (hs : s.ReservedZero) (ev : MerrEvent) : (s.enterMerr ev).ReservedZero :=
  { hs with
    crmd := show 0x8#32 &&& ~~~0x3FF#32 = 0#32 from rfl
    merrctl := savedMerrctl_clear _ _ _ _ _ _ }

theorem ertnContext_reservedZero {s : State} (hs : s.ReservedZero) : s.ertnContext.ReservedZero := by
  unfold State.ertnContext
  dsimp only
  split_ifs
  case pos => exact { hs with }
  case pos =>
    exact { hs with
      crmd := putBits_clear (restoreMode_clear hs.crmd _ _) (field_clear rfl _)
      merrctl := putBit_false_clear hs.merrctl 0 }
  case pos =>
    exact { hs with
      crmd := putBits_clear (restoreMode_clear hs.crmd _ _) rfl
      tlbrera := putBit_false_clear hs.tlbrera 0 }
  case neg => exact { hs with crmd := restoreMode_clear hs.crmd _ _ }

theorem ertnLlbit_reservedZero {s : State} (hs : s.ReservedZero) : s.ertnLlbit.ReservedZero := by
  unfold State.ertnLlbit
  split
  · exact { hs with llbctl := putBit_false_clear hs.llbctl 2 }
  · exact { hs with }

theorem Update.reservedZero {s t : State} (h : Update s t) (hs : s.ReservedZero) : t.ReservedZero := by
  cases h
  case csrWrite h => exact csrWrite_reservedZero h hs
  case setCause e => exact setCause_reservedZero hs e
  case addFlags e => exact addFlags_reservedZero hs e
  case writeFcsr n v => exact writeFcsr_reservedZero hs n v
  case readValid i e => exact readValid_reservedZero hs i e
  case setRefill odd x ps => exact setRefill_reservedZero hs odd x ps
  case recordBadi fetch => exact recordBadi_reservedZero hs fetch
  case recordBadv x => exact recordBadv_reservedZero hs x
  case enterGeneral n e sub => exact enterGeneral_reservedZero hs n e sub
  case enterRefill va => exact enterRefill_reservedZero hs va
  case enterMerr ev => exact enterMerr_reservedZero hs ev
  case ertn => exact ertnLlbit_reservedZero (ertnContext_reservedZero hs)
  case setNe | setTlbIndex | readInvalid => exact { hs with }
  all_goals exact hs.of_parts (by simp) (by simp) (by simp) (by simp)

theorem applyInput_reservedZero {s : State} (hs : s.ReservedZero) : s.applyInput.ReservedZero :=
  hs.of_parts (applyInput_csr s) (applyInput_mmu s) (applyInput_ras s) (applyInput_fcsr0 s)

/-- Settles O59: the inputs of a step reach no CSR, and every update writes through a mask of bits that exist or puts
fields where bits exist. -/
theorem stepKeepsReservedBitsZero : Obligations.StepKeepsReservedBitsZero :=
  fun _ _ hs h =>
    step_keeps (P := State.ReservedZero) (fun _ => applyInput_reservedZero) (fun _ _ => Update.reservedZero) h hs

end Sys2Proof.Machine
end

section
/-!
SUPPORT. The watchpoints (spec/13_csr_pm_watch_debug.md R205-R209, R216, R217): when one hits, the status bits of those
that hit, what the test of an access does to MWPS.
-/

namespace Sys2Proof.Machine

/-! ## One watchpoint -/

/-- Words agree outside a mask exactly when their bits do. -/
theorem and_not_eq_iff {n : Nat} (x y m : BitVec n) :
    x &&& ~~~m = y &&& ~~~m ↔ ∀ i < n, m.getLsbD i = false → x.getLsbD i = y.getLsbD i := by
  constructor
  · intro h i hi hm
    have hbit := congrArg (·.getLsbD i) h
    simpa only [BitVec.getLsbD_and, BitVec.getLsbD_not, hi, hm, decide_true, Bool.not_false, Bool.and_true] using hbit
  · refine fun h => BitVec.eq_of_getLsbD_eq fun i hi => ?_
    cases hm : m.getLsbD i <;> simp [hm, h i hi]

/-- The tests that load/store and fetch watchpoints share (R207, R216). -/
theorem watchCommon_iff (s : State) (w : Watchpoint) (a : Word) : s.watchCommon w a = true ↔ s.WatchHits w a := by
  have dmOnly : (s.dbg.dbg.getLsbD 0 = false → w.cfg3.getLsbD 0 = false) ↔
      (w.cfg3.getLsbD 0 = true → s.dbg.dbg.getLsbD 0 = true) := by
    rw [← not_imp_not, Bool.not_eq_false, Bool.not_eq_false]
  simp only [State.watchCommon, State.WatchHits, State.asid, Bool.and_eq_true, and_assoc, beq_iff_eq, and_not_eq_iff,
    Bool.not_eq_true', Bool.and_eq_false_imp, bne_eq_false_iff_eq, dmOnly]

/-- The bytes that the byte mask of R209 lets take part. -/
theorem byteMask_iff (w : Watchpoint) {b : Nat} (hb : b < 8) :
    (~~~byteMask (w.cfg3.extractLsb' 10 2) w.vaddr).getLsbD b = true ↔ w.WatchesByte b := by
  have table : ∀ (size : BitVec 2) (o : BitVec 3), ∀ b < 8,
      ((~~~byteMask size (o.setWidth 64)).getLsbD b = true ↔
        o.toNat / (8 / 2 ^ size.toNat) = b / (8 / 2 ^ size.toNat)) := by decide
  have low : byteMask (w.cfg3.extractLsb' 10 2) w.vaddr =
      byteMask (w.cfg3.extractLsb' 10 2) ((w.vaddr.extractLsb' 0 3).setWidth 64) := by
    have : ((w.vaddr.extractLsb' 0 3).setWidth 64).extractLsb' 0 3 = w.vaddr.extractLsb' 0 3 := by
      refine BitVec.eq_of_getLsbD_eq fun i hi => ?_
      simp [hi, show i < 64 by omega]
    simp only [byteMask, this]
  rw [low, table _ _ b hb, Watchpoint.WatchesByte, BitVec.extractLsb'_toNat]
  simp

/-- A mask lets something through exactly when it lets some bit through. -/
theorem and_ne_zero_iff {n : Nat} (x y : BitVec n) :
    (x &&& y) ≠ 0#n ↔ ∃ i < n, x.getLsbD i = true ∧ y.getLsbD i = true := by
  refine ⟨fun h => ?_, fun ⟨i, hi, hx, hy⟩ h => ?_⟩
  · by_contra hno
    refine h (BitVec.eq_of_getLsbD_eq fun i hi => ?_)
    simpa using fun hx => not_and.1 (not_and.1 (not_exists.1 hno i) hi) hx
  · simpa [hx, hy] using congrArg (·.getLsbD i) h

/-- The kinds of access that a load/store watchpoint is set for (R207, D31). -/
def Watchpoint.WatchesKind (w : Watchpoint) (k : AccessKind) : Prop :=
  (k = .load ∨ k = .rmw) ∧ w.cfg3.getLsbD 8 = true ∨ (k = .store ∨ k = .rmw) ∧ w.cfg3.getLsbD 9 = true

/-- A load/store watchpoint against the bytes of one group (R207, R209). -/
theorem mwHit_iff (s : State) (k : AccessKind) (g : Word) (bytes : BitVec 8) (w : Watchpoint) :
    s.mwHit k g bytes w = true ↔
      s.WatchHits w g ∧ w.WatchesKind k ∧ ∃ b < 8, w.WatchesByte b ∧ bytes.getLsbD b = true := by
  have bytes_iff : (~~~byteMask (w.cfg3.extractLsb' 10 2) w.vaddr &&& bytes) ≠ 0#8 ↔
      ∃ b < 8, w.WatchesByte b ∧ bytes.getLsbD b = true := by
    rw [and_ne_zero_iff]
    exact exists_congr fun b => and_congr_right fun hb => and_congr_left' (byteMask_iff w hb)
  simp only [State.mwHit, Bool.and_eq_true, watchCommon_iff, bne_iff_ne, bytes_iff, Bool.or_eq_true, decide_eq_true_eq,
    Watchpoint.WatchesKind, and_assoc]

/-- Byte `j` from the start of the first group is one of the access (R208). -/
theorem mbyten_getLsbD {a : Access} (ha : a.size ≤ 8) {j : Nat} (hj : j < 16) :
    a.mbyten.getLsbD j = decide (a.va.toNat % 8 ≤ j ∧ j < a.va.toNat % 8 + a.size) := by
  rw [Access.mbyten, BitVec.extractLsb'_toNat, BitVec.getLsbD_shiftLeft, BitVec.getLsbD_ofNat,
    Nat.testBit_two_pow_sub_one, Bool.eq_iff_iff]
  simp only [Nat.shiftRight_zero, Nat.reducePow, Bool.and_eq_true, Bool.not_eq_true', decide_eq_true_eq,
    decide_eq_false_iff_not]
  omega

/-- The bytes of the access in one of its two groups (D32). -/
theorem mbyten_group {a : Access} (ha : a.size ≤ 8) {lo b : Nat} (hlo : lo ≤ 8) (hb : b < 8) :
    (a.mbyten.extractLsb' lo 8).getLsbD b = true ↔
      a.va.toNat % 8 ≤ lo + b ∧ lo + b < a.va.toNat % 8 + a.size := by
  rw [BitVec.getLsbD_extractLsb', mbyten_getLsbD ha (by omega)]
  simp [hb]

/-- A load/store watchpoint against an access that may run into the next group (R207-R209). -/
theorem mwAccessHit_iff (s : State) {a : Access} (ha : a.size ≤ 8) (w : Watchpoint) :
    s.mwAccessHit a w = true ↔ w.WatchesKind a.kind ∧ ∃ k < a.size, w.WatchesByte ((a.va.toNat + k) % 8) ∧
      s.WatchHits w (if a.va.toNat % 8 + k < 8 then a.va else s.vaddr ((a.va &&& ~~~7#64) + 8#64)) := by
  rw [State.mwAccessHit, Bool.or_eq_true, Bool.and_eq_true, bne_iff_ne, mwHit_iff, mwHit_iff]
  constructor
  · rintro (⟨haddr, hkind, b, hb, hwatched, hbyte⟩ | ⟨-, haddr, hkind, b, hb, hwatched, hbyte⟩)
    · rw [mbyten_group ha (by omega) hb] at hbyte
      refine ⟨hkind, b - a.va.toNat % 8, by omega, ?_, ?_⟩
      · rwa [show (a.va.toNat + (b - a.va.toNat % 8)) % 8 = b by omega]
      · rwa [if_pos (by omega)]
    · rw [mbyten_group ha (by omega) hb] at hbyte
      refine ⟨hkind, 8 + b - a.va.toNat % 8, by omega, ?_, ?_⟩
      · rwa [show (a.va.toNat + (8 + b - a.va.toNat % 8)) % 8 = b by omega]
      · rwa [if_neg (by omega)]
  · rintro ⟨hkind, k, hk, hwatched, haddr⟩
    split at haddr
    · refine .inl ⟨haddr, hkind, (a.va.toNat + k) % 8, by omega, hwatched, ?_⟩
      rw [mbyten_group ha] <;> omega
    · have hbyte : (a.mbyten.extractLsb' 8 8).getLsbD ((a.va.toNat + k) % 8) = true := by
        rw [mbyten_group ha] <;> omega
      refine .inr ⟨fun hnone => ?_, haddr, hkind, (a.va.toNat + k) % 8, by omega, hwatched, hbyte⟩
      simp [hnone] at hbyte

/-! ## All of them, and the status bits -/

theorem foldl_putBit_getLsbD (p : Nat → Bool) {i : Nat} (hi : i < 32) : ∀ (ns : List Nat) (acc : BitVec 32),
    (ns.foldl (fun acc n => if p n then putBit acc n true else acc) acc).getLsbD i =
      (acc.getLsbD i || (decide (i ∈ ns) && p i))
  | [], acc => by simp
  | n :: ns, acc => by
    rw [List.foldl_cons, foldl_putBit_getLsbD p hi ns]
    by_cases hn : i = n
    · subst hn
      cases hp : p i <;> simp [putBit_get _ _ _ _ hi]
    · split <;> simp [putBit_get _ _ _ _ hi, hn]

theorem hitBits_getLsbD (num : Nat) (ws : Vector Watchpoint 8) (hit : Watchpoint → Bool) (i : Nat) :
    (hitBits num ws hit).getLsbD i = (decide (i < 8) && decide (i < num) && hit (ws.getD i .reset)) := by
  by_cases hi : i < 32
  · rw [hitBits, foldl_putBit_getLsbD (fun n => decide (n < num) && hit (ws.getD n .reset)) hi]
    simp [Bool.and_assoc]
  · rw [BitVec.getLsbD_of_ge _ i (by omega)]
    simp [show ¬i < 8 by omega]

/-- No status bit is to be set exactly where no implemented watchpoint hits. -/
theorem hitBits_eq_zero_iff (num : Nat) (ws : Vector Watchpoint 8) (hit : Watchpoint → Bool) :
    hitBits num ws hit = 0#32 ↔ ∀ n < 8, n < num → hit (ws.getD n .reset) = false := by
  constructor
  · intro h n h8 hnum
    simpa [h, h8, hnum] using (hitBits_getLsbD num ws hit n).symm
  · intro h
    refine BitVec.eq_of_getLsbD_eq fun i _ => ?_
    rw [hitBits_getLsbD]
    simpa using h i

/-- Skip swallows the hit (R217). -/
theorem applyHit_skip {wps hits : BitVec 32} (hhit : hits ≠ 0#32) (hskip : wps.getLsbD 16 = true) :
    applyHit wps hits = (putBit wps 16 false, false) := by
  rw [applyHit, if_neg hhit, if_pos hskip]

theorem applyHit_raise {wps hits : BitVec 32} (hhit : hits ≠ 0#32) (hskip : wps.getLsbD 16 = false) :
    applyHit wps hits = (wps ||| hits, true) := by
  rw [applyHit, if_neg hhit, if_neg (by rw [hskip]; decide)]

theorem putBit_false_getLsbD (x : BitVec 32) (k i : Nat) :
    (putBit x k false).getLsbD i = (x.getLsbD i && decide (i ≠ k)) := by
  by_cases hi : i < 32
  · rw [putBit_get _ _ _ _ hi]
    by_cases hk : i = k <;> simp [hk]
  · simp [BitVec.getLsbD_of_ge _ i (not_lt.1 hi)]

/-! ## The test of an access -/

theorem watchMem_no_hit {s : State} {a : Access}
    (h : ∀ n < 8, n < s.cfg.mwpNum → s.mwAccessHit a (s.watch.mwp.getD n .reset) = false) :
    s.watchMem a = (s, false) := by
  rw [State.watchMem, (hitBits_eq_zero_iff _ _ _).2 h]
  rfl

section
variable {s : State} {a : Access}
  (hit : ∃ n < 8, n < s.cfg.mwpNum ∧ s.mwAccessHit a (s.watch.mwp.getD n .reset) = true)
include hit

theorem hitBits_ne_zero : hitBits s.cfg.mwpNum s.watch.mwp (s.mwAccessHit a) ≠ 0#32 := fun hzero => by
  obtain ⟨n, h8, hnum, htrue⟩ := hit
  exact absurd ((hitBits_eq_zero_iff _ _ _).1 hzero n h8 hnum) (by rw [htrue]; decide)

/-- Skip is cleared, the status bits stay, nothing is raised. -/
theorem watchMem_skip (hskip : s.watch.mwps.getLsbD 16 = true) : (s.watchMem a).2 = false ∧
    ∀ i, (s.afterWatch a).watch.mwps.getLsbD i = (s.watch.mwps.getLsbD i && decide (i ≠ 16)) := by
  rw [State.afterWatch, State.watchMem, applyHit_skip (hitBits_ne_zero hit) hskip]
  exact ⟨rfl, putBit_false_getLsbD _ 16⟩

/-- The status bits of the watchpoints that hit are set, and WPEM is raised. -/
theorem watchMem_raise (hskip : s.watch.mwps.getLsbD 16 = false) : (s.watchMem a).2 = true ∧
    ∀ i, (s.afterWatch a).watch.mwps.getLsbD i = (s.watch.mwps.getLsbD i ||
      (decide (i < 8) && decide (i < s.cfg.mwpNum) && s.mwAccessHit a (s.watch.mwp.getD i .reset))) := by
  rw [State.afterWatch, State.watchMem, applyHit_raise (hitBits_ne_zero hit) hskip]
  refine ⟨rfl, fun i => ?_⟩
  rw [← hitBits_getLsbD]
  exact BitVec.getLsbD_or

end

end Sys2Proof.Machine
end

section
/-!
The loads, stores and atomic forms: behind which gates each makes its access before anything else. So a form takes
whatever exception its access raises, WPEM among them.
-/

namespace Sys2Proof.Machine

theorem simm14_eq (i : BitVec 14) : simm14 i = BitVec.ofInt 64 (i.toInt * 4) := scaled_eq i (by decide)

/-- Where `P` holds, `i` makes the access `acc` before anything else. -/
def AccessFirst (i : Instr) (P : State → Prop) (acc : State → Access) : Prop :=
  ∀ s, P s → ∃ k, exec i s = s.withAddrs (acc s) k

theorem AccessFirst.takesWpem {i : Instr} {P : State → Prop} {acc : State → Access} (h : AccessFirst i P acc) :
    TakesWpem i P acc := takesWpem_of h

/-! The forms that no gate closes (R520, R590): each is its access and what follows. -/

theorem loadS_withAccess (s : State) (a : Access) (rd : Reg) : ∃ k, s.loadS a rd = s.withAccess a k := ⟨_, rfl⟩

theorem loadU_withAccess (s : State) (a : Access) (rd : Reg) : ∃ k, s.loadU a rd = s.withAccess a k := ⟨_, rfl⟩

theorem store_withAccess (s : State) (a : Access) (v : Word) : ∃ k, s.store a v = s.withAccess a k := ⟨_, rfl⟩

theorem loadLinked_withAccess (s : State) (n : Nat) (rd rj : Reg) (i : BitVec 14) :
    ∃ k, s.loadLinked n rd rj i = s.withAccess (s.aligned .load (s.getGr rj + simm14 i) n) k := ⟨_, rfl⟩

/-- SC may not store, and then asks nothing of the physical bytes (R593). -/
theorem storeConditional_withAddrs (s : State) (n : Nat) (rd rj : Reg) (i : BitVec 14) :
    ∃ k, s.storeConditional n rd rj i = s.withAddrs (s.aligned .rmw (s.getGr rj + simm14 i) n) k := ⟨_, rfl⟩

section
variable {i : Instr} {P : State → Prop} {acc : State → Access} {dp : Bool} {rd rj : Reg}

/-- The access behind the gates that `P` opens. -/
theorem AccessFirst.of_gate {gate : State → Out → Out} (hopen : ∀ s, P s → ∀ o, gate s o = o)
    (h : ∀ s, ∃ k, exec i s = gate s (s.withAccess (acc s) k)) : AccessFirst i P acc := fun s hp => by
  obtain ⟨k, hk⟩ := h s
  rw [hk, hopen s hp]
  exact ⟨_, rfl⟩

theorem AccessFirst.always (h : ∀ s, ∃ k, exec i s = s.withAccess (acc s) k) :
    AccessFirst i Always acc := of_gate (gate := fun _ o => o) (fun _ _ _ => rfl) h

/-- The gates of a form stand in `exec`, so unfolding it is the default proof of `h`, here and below. -/
theorem AccessFirst.la64
    (h : ∀ s, ∃ k, exec i s = s.la64Only (s.withAccess (acc s) k) := by exact fun _ => ⟨_, rfl⟩) :
    AccessFirst i InLa64 acc := of_gate (fun _ => la64Only_of) h

theorem AccessFirst.fp
    (h : ∀ s, ∃ k, exec i s = s.fpGate dp (s.withAccess (acc s) k) := by exact fun _ => ⟨_, rfl⟩) :
    AccessFirst i (FpReady dp) acc := of_gate (fun _ => fpGate_of) h

theorem AccessFirst.la64Fp
    (h : ∀ s, ∃ k, exec i s = s.la64Only (s.fpGate dp (s.withAccess (acc s) k)) := by exact fun _ => ⟨_, rfl⟩) :
    AccessFirst i (fun s => s.cfg.la64 = true ∧ FpReady dp s) acc :=
  of_gate (gate := fun s o => s.la64Only (s.fpGate dp o))
    (fun _ ⟨hla, hfp⟩ o => (la64Only_of hla _).trans (fpGate_of hfp o)) h

/-- AM* (R570, R572). -/
theorem AccessFirst.amo (h : ∀ s, ∃ k, exec i s = s.la64Only (s.need s.cfg.hasLam
      (if rd = rj then s.raise .ine else s.withAccess (acc s) k)) := by exact fun _ => ⟨_, rfl⟩) :
    AccessFirst i (fun s => s.cfg.la64 = true ∧ s.cfg.hasLam = true ∧ rd ≠ rj) acc :=
  of_gate (gate := fun s o => s.la64Only (s.need s.cfg.hasLam (if rd = rj then s.raise .ine else o)))
    (fun _ ⟨hla, hlam, hne⟩ o => by rw [la64Only_of hla, need_of hlam, if_neg hne]) h

end

/-- Settles O30: the test goes through `mwAccessHit_iff`, `watchMem_no_hit`, `watchMem_skip` and `watchMem_raise`, and
every form makes its access behind the gates of its shape. -/
theorem watchpointTestOfAnAccess : Obligations.WatchpointTestOfAnAccess := by
  refine ⟨fun _ _ => rfl, fun s _ w ha => mwAccessHit_iff s ha w, fun _ _ => watchMem_no_hit,
    fun _ _ hit => ⟨watchMem_skip hit, watchMem_raise hit⟩, fun fd rd rj rk i12 i14 => ?_⟩
  rw [← simm14_eq]  -- the offset as the meanings of LDPTR, STPTR, LL and SC write it
  and_intros
  all_goals apply AccessFirst.takesWpem
  exacts [
    -- LD, LDX, LDPTR
    .always fun s => loadS_withAccess s _ rd, .always fun s => loadS_withAccess s _ rd,
    .always fun s => loadS_withAccess s _ rd, .la64, .always fun s => loadU_withAccess s _ rd,
    .always fun s => loadU_withAccess s _ rd, .la64, .la64, .la64, .la64, .la64, .la64, .la64, .la64, .la64, .la64,
    -- ST, STX, STPTR
    .always fun s => store_withAccess s _ _, .always fun s => store_withAccess s _ _,
    .always fun s => store_withAccess s _ _, .la64, .la64, .la64, .la64, .la64, .la64, .la64,
    -- FLD, FST, FLDX, FSTX
    .fp, .fp, .fp, .fp, .la64Fp, .la64Fp, .la64Fp, .la64Fp,
    -- LL, SC
    .always fun s => loadLinked_withAccess s 4 rd rj i14, .la64,
    fun s _ => storeConditional_withAddrs s 4 rd rj i14,
    fun s hla => (storeConditional_withAddrs s 8 rd rj i14).imp fun _ hk => (la64Only_of hla _).trans hk,
    -- AM*
    .amo, .amo, .amo, .amo, .amo, .amo, .amo, .amo, .amo, .amo, .amo, .amo, .amo, .amo, .amo, .amo, .amo, .amo,
    .amo, .amo, .amo, .amo, .amo, .amo, .amo, .amo, .amo, .amo, .amo, .amo, .amo, .amo, .amo, .amo, .amo, .amo,
    -- the bound-check forms
    .la64, .la64, .la64, .la64, .la64, .la64, .la64, .la64, .la64, .la64, .la64, .la64, .la64, .la64, .la64, .la64,
    .la64Fp, .la64Fp, .la64Fp, .la64Fp, .la64Fp, .la64Fp, .la64Fp, .la64Fp]

end Sys2Proof.Machine
end

section
/-!
The alignment of loads, stores and atomic forms (spec/20_memory.md R242, R243, R250): what a misaligned address raises,
and that every form whose access comes first takes it.
-/

namespace Sys2Proof.Machine

/-- The alignment test comes before every other check of the address, the bound of a bound-check form included. -/
theorem accessAddrs_misaligned {s : State} {a : Access} (hva : a.va.toNat % a.size ≠ 0)
    (hchecked : a.strict = true ∨ s.cfg.ual = false ∨ s.csr.misc.getLsbD (12 + s.plv.toNat) = true) :
    s.accessAddrs a = .trap (.ale a.va) := by
  have hmis : s.misaligned a = true := by simpa [State.misaligned, State.alignChecked, hva] using hchecked
  exact if_pos hmis

/-- ALE records the address of the access as it is where `vaddr` has been applied to it. -/
theorem AccessFirst.takesAle {i : Instr} {P : State → Prop} {acc : State → Access} {always : Bool}
    (h : AccessFirst i P acc) (hva : ∀ s, s.vaddr (acc s).va = (acc s).va) (hstrict : ∀ s, (acc s).strict = always) :
    TakesAle i P acc always := fun s ⟨hp, hwatch, hmis, hchecked⟩ => by
  obtain ⟨k, hk⟩ := h s hp
  have htrap := accessAddrs_misaligned hmis (by rwa [hstrict])
  obtain ⟨t, hraise, hentry, hbadi, hbadv, hfcsr0, hmmu, hwatch'⟩ :=
    raise_spec (s := s) (acc s) (.ale (acc s).va) (fun _ h => nomatch h)
  exact ⟨t, by rw [hk, withAddrs_trap hwatch htrap, hraise], hentry, hbadi, hbadv.trans (hva s), hfcsr0, hmmu, hwatch'⟩

/-- Settles O29: every form makes its access behind the gates of its shape, the ordinary ones with the alignment of
R243, the others with that of R242. -/
theorem misalignedAccessesTakeAle : Obligations.MisalignedAccessesTakeAle := by
  intro fd rd rj rk i12 i14
  rw [← simm14_eq]  -- the offset as the meanings of LDPTR, STPTR, LL and SC write it
  and_intros
  all_goals refine AccessFirst.takesAle ?_ (fun s => vaddr_vaddr s _) fun _ => rfl
  exacts [
    -- LD, LDX, LDPTR
    .always fun s => loadS_withAccess s _ rd, .always fun s => loadS_withAccess s _ rd, .la64,
    .always fun s => loadU_withAccess s _ rd, .la64, .la64, .la64, .la64, .la64, .la64, .la64, .la64,
    -- ST, STX, STPTR
    .always fun s => store_withAccess s _ _, .always fun s => store_withAccess s _ _, .la64, .la64, .la64, .la64,
    .la64, .la64,
    -- FLD, FST, FLDX, FSTX
    .fp, .fp, .fp, .fp, .la64Fp, .la64Fp, .la64Fp, .la64Fp,
    -- LL, SC
    .always fun s => loadLinked_withAccess s 4 rd rj i14, .la64,
    fun s _ => storeConditional_withAddrs s 4 rd rj i14,
    fun s hla => (storeConditional_withAddrs s 8 rd rj i14).imp fun _ hk => (la64Only_of hla _).trans hk,
    -- AM*
    .amo, .amo, .amo, .amo, .amo, .amo, .amo, .amo, .amo, .amo, .amo, .amo, .amo, .amo, .amo, .amo, .amo, .amo,
    .amo, .amo, .amo, .amo, .amo, .amo, .amo, .amo, .amo, .amo, .amo, .amo, .amo, .amo, .amo, .amo, .amo, .amo,
    -- the bound-check forms
    .la64, .la64, .la64, .la64, .la64, .la64, .la64, .la64, .la64, .la64, .la64, .la64,
    .la64Fp, .la64Fp, .la64Fp, .la64Fp, .la64Fp, .la64Fp, .la64Fp, .la64Fp]

end Sys2Proof.Machine
end

section
/-!
Direct address translation mode (spec/21_address_translation.md R281, R247): translation is a cut to PALEN bits, no
address is illegal, and an aligned access passes where its physical bytes may be used.
-/

namespace Sys2Proof.Machine

/-! ## What an access and a fetch need besides their translation -/

/-- The physical bytes pass where the memory type is not the reserved one and no byte is refused (U13, U14). -/
theorem physCheck_of {c : Config} {k : AccessKind} {mat : BitVec 2} {as : List Nat} (hmat : mat ≠ 3#2)
    (has : ∀ b ∈ as, byteRefusal c k b = none) : physCheck c k mat as = .ok () := by
  rw [physCheck, if_neg hmat, List.findSome?_eq_none_iff.2 has]

theorem physCheck_physBytes {c : Config} {k : AccessKind} {mat : BitVec 2} {pa n : Nat} (hmat : mat ≠ 3#2)
    (hpa : ∀ j < n, byteRefusal c k (pa + j) = none) : physCheck c k mat (physBytes pa n) = .ok () :=
  physCheck_of hmat (List.forall_mem_map.2 fun j hj => hpa j (List.mem_range.1 hj))

/-- A naturally aligned access to a legal address within its bound reaches the bytes from its translated address. -/
theorem accessAddrs_aligned {s : State} {a : Access} {pa : Nat} {mat : BitVec 2}
    (hsize : a.size = 1 ∨ a.size = 2 ∨ a.size = 4 ∨ a.size = 8) (halign : a.va.toNat % a.size = 0)
    (hlegal : s.addressError a.kind a.va = false) (hbound : a.outOfBound = false)
    (htranslate : s.translate a.kind a.va = .ok (pa, mat)) : s.accessAddrs a = .ok (physBytes pa a.size, mat) := by
  simp [State.accessAddrs, misaligned_of_aligned halign, firstPart_of_aligned hsize halign, hlegal, hbound, htranslate,
    Check.bind]

/-- An aligned fetch from a legal address goes to its translated address. -/
theorem fetchAddr_aligned {s : State} (halign : (s.vaddr s.pc).toNat % 4 = 0)
    (hlegal : s.addressError .fetch (s.vaddr s.pc) = false) :
    s.fetchAddr = s.translate .fetch (s.vaddr s.pc) := by
  have hlow : (s.vaddr s.pc).extractLsb' 0 2 = 0#2 := BitVec.eq_of_toNat_eq (by simpa using halign)
  simp [State.fetchAddr, hlow, hlegal]

/-! ## Direct mode -/

section
variable {s : State} (hda : s.csr.crmd.getLsbD 3 = true)
include hda

theorem addressError_direct (k : AccessKind) (va : Word) : s.addressError k va = false := by
  simp [State.addressError, State.directMode, hda]

theorem translate_direct (k : AccessKind) (va : Word) :
    s.translate k va = .ok (va.toNat % 2 ^ s.cfg.palen, s.directMat k) := if_pos hda

end

theorem directMat_fetch (s : State) : s.directMat .fetch = s.csr.crmd.extractLsb' 5 2 := rfl

theorem directMat_data (s : State) {k : AccessKind} (hk : k ≠ .fetch) : s.directMat k = s.csr.crmd.extractLsb' 7 2 :=
  if_neg hk

/-- Settles O27: an access and a fetch pass each of their checks, with what direct mode translates to. -/
theorem directModeTranslatesToItself : Obligations.DirectModeTranslatesToItself := by
  refine ⟨fun s a hda hsize halign hbound hmat hkind hbytes => ?_, fun s hda halign hmat hbytes => ?_,
    fun s k va hda => addressError_direct hda k va⟩
  · have haddrs := accessAddrs_aligned hsize halign (addressError_direct hda _ _) hbound (translate_direct hda _ _)
    rw [directMat_data s hkind] at haddrs
    simp only [State.accessBytes, haddrs, Check.bind, physCheck_physBytes hmat hbytes]
    rfl
  · have haddr := (fetchAddr_aligned halign (addressError_direct hda _ _)).trans (translate_direct hda _ _)
    rw [directMat_fetch] at haddr
    simp only [State.fetchPa, haddr, Check.bind, physCheck_physBytes hmat hbytes]

end Sys2Proof.Machine
end

section
/-!
Mapped address translation mode (spec/21_address_translation.md R282-R302): the direct mapping windows, legality, the
entries of the TLB that match, and the page that the one matching entry selects.
-/

namespace Sys2Proof.Machine

/-! ## Sparse data: what is listed is what differs from the default -/

section
variable {α : Type} [DecidableEq α] {d : α}

theorem sparseWfFrom_mem_iff {a : Nat} {x : α} : ∀ {m : List (Nat × α)} {lo : Option Nat},
    sparseWfFrom d lo m = true → ((a, x) ∈ m ↔ x ≠ d ∧ sparseGet d m a = x)
  | [], _, _ => by simpa [sparseGet] using fun hne heq => hne heq.symm
  | (k, v) :: m, lo, h => by
    obtain ⟨-, hv, hm⟩ := sparseWfFrom_cons.1 h
    have ih := sparseWfFrom_mem_iff (a := a) (x := x) hm
    by_cases hak : a = k
    · subst hak
      have htail : (a, x) ∉ m := fun hmem =>
        absurd (sparseGet_below le_rfl hm le_rfl) fun hd => (ih.1 hmem).1 ((ih.1 hmem).2.symm.trans hd)
      simpa [sparseGet, htail, eq_comm (a := x)] using fun hx => hx ▸ Ne.symm hv
    · simpa [sparseGet, hak] using ih

theorem sparseWfFrom_nodup : ∀ {m : List (Nat × α)} {lo : Option Nat}, sparseWfFrom d lo m = true → m.Nodup
  | [], _, _ => List.nodup_nil
  | (k, v) :: m, lo, h => by
    obtain ⟨-, hv, hm⟩ := sparseWfFrom_cons.1 h
    refine List.nodup_cons.2 ⟨fun hmem => hv ?_, sparseWfFrom_nodup hm⟩
    exact ((sparseWfFrom_mem_iff hm).1 hmem).2.symm.trans (sparseGet_below le_rfl hm le_rfl)

end

/-! ## The direct mapping windows (R285) -/

/-- The implemented windows that serve an access of kind `k`: `dmwFind` searches this list. -/
def State.windows (s : State) (k : AccessKind) : List Word :=
  s.csr.dmw.toList.take (min s.cfg.numDmw (if k = .fetch then 2 else 4))

theorem dmwFind_eq_find (s : State) (k : AccessKind) (va : Word) :
    s.dmwFind k va = (s.windows k).find? (s.dmwHit va) := rfl

theorem dmwHit_iff (s : State) (va w : Word) : s.dmwHit va w = true ↔ w.getLsbD s.plv.toNat = true ∧
    (if s.cfg.la64 then va.extractLsb' 60 4 = w.extractLsb' 60 4 else va.extractLsb' 29 3 = w.extractLsb' 29 3) := by
  rw [State.dmwHit, Bool.and_eq_true]
  split <;> rw [beq_iff_eq]

theorem windows_length_iff (s : State) (k : AccessKind) (n : Nat) :
    n < (s.windows k).length ↔ n < s.cfg.numDmw ∧ (k = .fetch → n < 2) ∧ n < 4 := by
  by_cases hk : k = .fetch
  · simp [State.windows, hk]
    omega
  · simp [State.windows, hk]

theorem windowHits_iff (s : State) (k : AccessKind) (va : Word) (n : Nat) :
    s.WindowHits k va n ↔ ∃ h : n < (s.windows k).length, s.dmwHit va (s.windows k)[n] = true := by
  constructor
  · rintro ⟨hnum, hfetch, h4, hhit⟩
    refine ⟨(windows_length_iff s k n).2 ⟨hnum, hfetch, h4⟩, (dmwHit_iff _ _ _).2 ?_⟩
    simpa [State.windows] using hhit
  · rintro ⟨hlen, hhit⟩
    obtain ⟨hnum, hfetch, h4⟩ := (windows_length_iff s k n).1 hlen
    exact ⟨hnum, hfetch, h4, by simpa [State.windows] using (dmwHit_iff _ _ _).1 hhit⟩

/-- The lowest-numbered window that hits is the one that is used (D41). -/
theorem dmwFind_of_first {s : State} {k : AccessKind} {va : Word} {n : Nat} (h4 : n < 4) (hhit : s.WindowHits k va n)
    (hfirst : ∀ m < n, ¬s.WindowHits k va m) : s.dmwFind k va = some s.csr.dmw[n] := by
  obtain ⟨hlen, hdmw⟩ := (windowHits_iff s k va n).1 hhit
  have hget : (s.windows k)[n] = s.csr.dmw[n] := by simp [State.windows]
  rw [dmwFind_eq_find, List.find?_eq_some_iff_getElem]
  refine ⟨hget ▸ hdmw, n, hlen, hget, fun m hm => ?_⟩
  have hmiss := mt (windowHits_iff s k va m).2 (hfirst m hm)
  simpa using fun htrue => hmiss ⟨hm.trans hlen, htrue⟩

theorem dmwFind_of_none {s : State} {k : AccessKind} {va : Word} (hnone : ∀ n, ¬s.WindowHits k va n) :
    s.dmwFind k va = none := by
  rw [dmwFind_eq_find, List.find?_eq_none]
  intro w hw hhit
  obtain ⟨n, hlen, rfl⟩ := List.getElem_of_mem hw
  exact hnone n ((windowHits_iff s k va n).2 ⟨hlen, hhit⟩)

theorem dmwPa_eq (c : Config) (va w : Word) : dmwPa c va w = if c.la64 then va.toNat % 2 ^ c.palen
    else (w.extractLsb' 25 3).toNat * 2 ^ 29 + va.toNat % 2 ^ 29 := by
  rw [dmwPa]
  split
  · rfl
  · rw [append_toNat, BitVec.extractLsb'_toNat (s := 0), Nat.shiftRight_zero]

/-! ## Legal addresses (spec/20_memory.md R232) -/

/-- The bits below `n` stay, the others are copies of bit `n - 1`. -/
theorem sextFrom_getLsbD {n : Nat} (hn : 0 < n) (hn' : n ≤ 64) (x : Word) {i : Nat} (hi : i < 64) :
    (sextFrom n x).getLsbD i = x.getLsbD (if i < n then i else n - 1) := by
  rw [sextFrom, BitVec.getLsbD_sshiftRight, decide_eq_false (by omega), Bool.not_false, Bool.true_and]
  split_ifs with hshift hin hin
  · rw [BitVec.getLsbD_shiftLeft]
    simp [hshift]
  · omega
  · omega
  · rw [BitVec.msb_eq_getLsbD_last, BitVec.getLsbD_shiftLeft, show 64 - 1 - (64 - n) = n - 1 by omega]
    simp [show 64 - 1 ≥ 64 - n by omega]

theorem sextFrom_eq_self_iff {n : Nat} (hn : 0 < n) (hn' : n ≤ 64) (x : Word) :
    sextFrom n x = x ↔ ∀ i, n ≤ i → i < 64 → x.getLsbD i = x.getLsbD (n - 1) := by
  constructor
  · intro h i hni hi
    calc x.getLsbD i = (sextFrom n x).getLsbD i := by rw [h]
      _ = x.getLsbD (n - 1) := by rw [sextFrom_getLsbD hn hn' x hi, if_neg (by omega)]
  · intro h
    refine BitVec.eq_of_getLsbD_eq fun i hi => ?_
    rw [sextFrom_getLsbD hn hn' x hi]
    split_ifs with hin
    · rfl
    · exact (h i (by omega) hi).symm

theorem legalVa_la32 {s : State} (h : s.cfg.la64 = false) (va : Word) : s.legalVa va = true := by
  simp [State.legalVa, h]

theorem legalVa_iff {s : State} (h : s.cfg.la64 = true) {w : Nat}
    (hw : w + (s.csr.rvacfg.extractLsb' 0 4).toNat = s.cfg.valen) (hw0 : 0 < w) (hw64 : w ≤ 64) (va : Word) :
    s.legalVa va = true ↔ ∀ i, w ≤ i → i < 64 → va.getLsbD i = va.getLsbD (w - 1) := by
  have hwidth : s.cfg.valen - (s.csr.rvacfg.extractLsb' 0 4).toNat = w := by omega
  rw [State.legalVa, hwidth, h, Bool.not_true, Bool.false_or, beq_iff_eq, sextFrom_eq_self_iff hw0 hw64]

/-! ## The entries that match (R292, R295) -/

theorem stlbIdx_eq (s : State) (va : Word) :
    stlbIdx s.cfg (s.mmu.stlbps.extractLsb' 0 6).toNat va = s.stlbSet va := by
  rw [stlbIdx, State.stlbSet]
  split <;> rfl

theorem tlbMatch_iff (s : State) (va : Word) (i : Nat) :
    s.tlbMatch va i (s.tlbAt i) = true ↔ s.EntryMatches va i := by
  simp only [State.tlbMatch, State.EntryMatches, Bool.and_eq_true, Bool.or_eq_true, beq_iff_eq, decide_eq_true_eq,
    State.asid, State.entryPs, State.stlbPs, vppnMatch, stlbIdx_eq, forall_eq, and_assoc, ← Nat.not_lt,
    ← imp_iff_not_or]

section
variable {s : State} (hok : s.TlbOk)
include hok

/-- A valid entry is listed at its index and nowhere else. -/
theorem mem_tlb_iff {i : Nat} {e : TlbEntry} (he : e.e = true) : (i, e) ∈ s.tlb ↔ e = s.tlbAt i := by
  have hne : e ≠ TlbEntry.empty := fun hempty => absurd he (by rw [hempty]; decide)
  rw [sparseWfFrom_mem_iff hok, and_iff_right hne, eq_comm]
  rfl

theorem mem_tlbHits_iff {va : Word} {p : Nat × TlbEntry} :
    p ∈ s.tlbHits va ↔ p.2 = s.tlbAt p.1 ∧ s.EntryMatches va p.1 := by
  obtain ⟨i, e⟩ := p
  rw [State.tlbHits, List.mem_filter]
  constructor
  · rintro ⟨hlisted, hmatch⟩
    obtain ⟨-, rfl⟩ := (sparseWfFrom_mem_iff hok).1 hlisted
    exact ⟨rfl, (tlbMatch_iff s va i).1 hmatch⟩
  · rintro ⟨he, hmatch⟩
    obtain rfl : e = s.tlbAt i := he
    exact ⟨(mem_tlb_iff hok hmatch.1).2 rfl, (tlbMatch_iff s va i).2 hmatch⟩

theorem tlbHits_nodup (va : Word) : (s.tlbHits va).Nodup := (sparseWfFrom_nodup hok).filter _

theorem any_stlb_valid_iff : (s.tlb.any fun p => decide (p.1 < stlbEntries s.cfg) && p.2.e) = true ↔
    ∃ i < stlbEntries s.cfg, (s.tlbAt i).e = true := by
  simp only [List.any_eq_true, Bool.and_eq_true, decide_eq_true_eq, Prod.exists]
  constructor
  · rintro ⟨i, e, hlisted, hi, he⟩
    obtain rfl := (mem_tlb_iff hok he).1 hlisted
    exact ⟨i, hi, he⟩
  · rintro ⟨i, hi, he⟩
    exact ⟨i, s.tlbAt i, (mem_tlb_iff hok he).2 rfl, hi, he⟩

theorem stlbPsIllegal_iff : s.stlbPsIllegal = true ↔ ¬s.StlbUsable := by
  rw [State.stlbPsIllegal, Bool.and_eq_true, any_stlb_valid_iff hok, State.StlbUsable]
  simp [psSupported, State.stlbPs]

/-! ## The lookup (R293, U11, U15) -/

theorem tlbLookup_unusable (hbad : ¬s.StlbUsable) (va : Word) : s.tlbLookup va = .refused .pageSizeUnsupported :=
  if_pos ((stlbPsIllegal_iff hok).2 hbad)

variable {va : Word} (husable : s.StlbUsable)
include husable

theorem stlbPsIllegal_of_usable : ¬s.stlbPsIllegal = true := fun hill => (stlbPsIllegal_iff hok).1 hill husable

theorem tlbLookup_none (hnone : ∀ i, ¬s.EntryMatches va i) : s.tlbLookup va = .ok none := by
  have hhits : s.tlbHits va = [] :=
    List.eq_nil_iff_forall_not_mem.2 fun p hp => hnone p.1 ((mem_tlbHits_iff hok).1 hp).2
  rw [State.tlbLookup, if_neg (stlbPsIllegal_of_usable hok husable), hhits]

theorem tlbLookup_one {i : Nat} (hmatch : s.EntryMatches va i) (hone : ∀ j, s.EntryMatches va j → j = i) :
    s.tlbLookup va = .ok (some (i, s.tlbAt i)) := by
  have hmem (p : Nat × TlbEntry) : p ∈ s.tlbHits va ↔ p = (i, s.tlbAt i) := by
    rw [mem_tlbHits_iff hok]
    constructor
    · rintro ⟨hp, hpm⟩
      obtain rfl := hone p.1 hpm
      exact Prod.ext rfl hp
    · rintro rfl
      exact ⟨rfl, hmatch⟩
  have hhits : s.tlbHits va = [(i, s.tlbAt i)] :=
    List.perm_singleton.1 ((List.perm_ext_iff_of_nodup (tlbHits_nodup hok va) (List.nodup_singleton _)).2 fun p => by
      rw [hmem, List.mem_singleton])
  rw [State.tlbLookup, if_neg (stlbPsIllegal_of_usable hok husable), hhits]

theorem tlbLookup_two {i j : Nat} (hne : i ≠ j) (hi : s.EntryMatches va i) (hj : s.EntryMatches va j) :
    s.tlbLookup va = .fault .multipleTlbHit := by
  have hmi : (i, s.tlbAt i) ∈ s.tlbHits va := (mem_tlbHits_iff hok).2 ⟨rfl, hi⟩
  have hmj : (j, s.tlbAt j) ∈ s.tlbHits va := (mem_tlbHits_iff hok).2 ⟨rfl, hj⟩
  rw [State.tlbLookup, if_neg (stlbPsIllegal_of_usable hok husable)]
  match hhits : s.tlbHits va with
  | [] => simp [hhits] at hmi
  | [p] =>
    rw [hhits, List.mem_singleton] at hmi hmj
    exact absurd (congrArg Prod.fst (hmi.trans hmj.symm)) hne
  | _ :: _ :: _ => rfl

end

/-! ## The permission tests of a page (R298-R300), each where those before it pass -/

/-- The page is not open to the current privilege level (R299). -/
def State.LevelDenied (s : State) (p : TlbPage) : Prop :=
  (p.rplv = false ∧ p.plv < s.plv) ∨ (p.rplv = true ∧ s.plv ≠ p.plv)

theorem levelDenied_iff (s : State) (p : TlbPage) :
    (if p.rplv then s.plv != p.plv else decide (p.plv < s.plv)) = true ↔ s.LevelDenied p := by
  unfold State.LevelDenied
  cases p.rplv <;> simp

theorem dwpl_iff (s : State) :
    s.dwpl = true ↔ s.plv ≠ 3#2 ∧ s.csr.misc.getLsbD (16 + s.plv.toNat) = true := by
  simp [State.dwpl]

theorem dwpl_eq_false_iff (s : State) :
    s.dwpl = false ↔ s.plv = 3#2 ∨ s.csr.misc.getLsbD (16 + s.plv.toNat) = false := by
  rw [← Bool.not_eq_true, dwpl_iff, not_and_or, not_not, Bool.not_eq_true]

section
variable {s : State} {k : AccessKind} {va : Word} {p : TlbPage}

theorem pageCheck_invalid (hv : p.v = false) : s.pageCheck k va p = some (k.pageInvalid va) := by
  simp [State.pageCheck, hv]

theorem pageCheck_nx (hv : p.v = true) (hk : k = .fetch) (hnx : p.nx = true) :
    s.pageCheck k va p = some (.pnx va) := by
  simp [State.pageCheck, hv, hk, hnx]

theorem pageCheck_level (hv : p.v = true) (hnx : k = .fetch → p.nx = false) (hlevel : s.LevelDenied p) :
    s.pageCheck k va p = some (.ppi va) := by
  have hfetch : (k = .fetch && p.nx) = false := by simpa using hnx
  rw [State.pageCheck, hv, hfetch, (levelDenied_iff s p).2 hlevel]
  rfl

/-- Behind the first three tests stand those of reading and of writing. -/
theorem pageCheck_open (hv : p.v = true) (hnx : k = .fetch → p.nx = false) (hlevel : ¬s.LevelDenied p) :
    s.pageCheck k va p = if (k = .load || k = .rmw) && p.nr then some (.pnr va)
      else if (k = .store || k = .rmw) && !p.d && !s.dwpl then some (.pme va) else none := by
  have hfetch : (k = .fetch && p.nx) = false := by simpa using hnx
  rw [State.pageCheck, hv, hfetch, if_neg (mt (levelDenied_iff s p).1 hlevel)]
  rfl

theorem pageCheck_nr (hv : p.v = true) (hlevel : ¬s.LevelDenied p) (hk : k = .load ∨ k = .rmw) (hnr : p.nr = true) :
    s.pageCheck k va p = some (.pnr va) := by
  have hfetch : k = .fetch → p.nx = false := by rintro rfl; simp at hk
  rw [pageCheck_open hv hfetch hlevel, if_pos (by simp [hk, hnr])]

theorem pageCheck_notDirty (hv : p.v = true) (hlevel : ¬s.LevelDenied p) (hk : k = .store ∨ (k = .rmw ∧ p.nr = false))
    (hd : p.d = false) (hdwpl : s.dwpl = false) : s.pageCheck k va p = some (.pme va) := by
  have hfetch : k = .fetch → p.nx = false := by rintro rfl; simp at hk
  have hread : ¬((k = .load || k = .rmw) && p.nr) = true := by
    rcases hk with rfl | ⟨-, hnr⟩
    · simp
    · simp [hnr]
  rw [pageCheck_open hv hfetch hlevel, if_neg hread, if_pos (by rcases hk with rfl | ⟨rfl, -⟩ <;> simp [hd, hdwpl])]

theorem pageCheck_passes (hv : p.v = true) (hlevel : ¬s.LevelDenied p) (hnx : k = .fetch → p.nx = false)
    (hnr : k = .load ∨ k = .rmw → p.nr = false) (hd : k = .store ∨ k = .rmw → p.d = true ∨ s.dwpl = true) :
    s.pageCheck k va p = none := by
  have hread : ¬((k = .load || k = .rmw) && p.nr) = true := by simpa using hnr
  have hwrite : ¬((k = .store || k = .rmw) && !p.d && !s.dwpl) = true := by
    simpa [or_iff_not_imp_left] using hd
  rw [pageCheck_open hv hnx hlevel, if_neg hread, if_neg hwrite]

end

/-! ## The page address (R301) -/

theorem pagePa_mod (c : Config) (ps : Nat) (p : TlbPage) (va : Word) :
    pagePa c ps p va % 2 ^ ps = va.toNat % 2 ^ ps := by
  rw [pagePa, Nat.mul_add_mod_self_right, Nat.mod_mod]

theorem pagePa_div (c : Config) (ps : Nat) (p : TlbPage) (va : Word) :
    pagePa c ps p va / 2 ^ ps = p.ppn.toNat * 2 ^ 12 % 2 ^ c.palen / 2 ^ ps := by
  have hpos : 0 < 2 ^ ps := Nat.two_pow_pos ps
  rw [pagePa, Nat.mul_comm, Nat.mul_add_div hpos, Nat.div_eq_of_lt (Nat.mod_lt _ hpos), Nat.add_zero]

/-! ## Translation in mapped mode (R282, R302) -/

section
variable {s : State} {k : AccessKind} {va : Word}

theorem addressError_window {w : Word} (hw : s.dmwFind k va = some w) : s.addressError k va = false := by
  simp [State.addressError, hw]

theorem tlbTranslate_refused {r : Refusal} (hlookup : s.tlbLookup va = .refused r) :
    s.tlbTranslate k va = .refused r := by
  rw [State.tlbTranslate, hlookup]; rfl

theorem tlbTranslate_fault {f : Fault} (hlookup : s.tlbLookup va = .fault f) : s.tlbTranslate k va = .fault f := by
  rw [State.tlbTranslate, hlookup]; rfl

theorem tlbTranslate_none (hlookup : s.tlbLookup va = .ok none) : s.tlbTranslate k va = .trap (.tlbr va) := by
  rw [State.tlbTranslate, hlookup]; rfl

section
variable {i : Nat} {e : TlbEntry} (hlookup : s.tlbLookup va = .ok (some (i, e)))
include hlookup

theorem tlbTranslate_denied {x : Exc} (hcheck : s.pageCheck k va (e.page (s.entryPs i e) va) = some x) :
    s.tlbTranslate k va = .trap x := by
  simp only [State.tlbTranslate, hlookup, Check.bind, hcheck]

theorem tlbTranslate_passes (hcheck : s.pageCheck k va (e.page (s.entryPs i e) va) = none) :
    s.tlbTranslate k va =
      .ok (pagePa s.cfg (s.entryPs i e) (e.page (s.entryPs i e) va) va, (e.page (s.entryPs i e) va).mat) := by
  simp only [State.tlbTranslate, hlookup, Check.bind, hcheck]

end

variable (hda : s.directMode = false)
include hda

theorem translate_window {w : Word} (hw : s.dmwFind k va = some w) :
    s.translate k va = .ok (dmwPa s.cfg va w, w.extractLsb' 4 2) := by
  simp [State.translate, hda, hw]

theorem addressError_noWindow (hw : s.dmwFind k va = none) : s.addressError k va = !s.legalVa va := by
  simp [State.addressError, hda, hw]

theorem translate_noWindow (hw : s.dmwFind k va = none) : s.translate k va = s.tlbTranslate k va := by
  simp [State.translate, hda, hw]

end

/-- Settles O28: `dmwFind` finds the lowest window that hits, `legalVa_iff` says what is legal where none does, the
lookup finds the entries that match (`mem_tlbHits_iff`), and the page of the only one is tested by `pageCheck`. -/
theorem mappedModeTranslation : Obligations.MappedModeTranslation := by
  intro s k va hda
  refine ⟨fun n h4 hhit hfirst => ?_, fun hnone => ?_⟩
  · have hw := dmwFind_of_first h4 hhit hfirst
    exact ⟨addressError_window hw, by rw [translate_window hda hw, dmwPa_eq]⟩
  have hw := dmwFind_of_none hnone
  have hlegal := addressError_noWindow hda hw
  have htlb := translate_noWindow hda hw
  refine ⟨fun hla => by rw [hlegal, legalVa_la32 hla]; rfl,
    fun w hla hsum hw0 hw64 => by rw [hlegal, Bool.not_eq_false', legalVa_iff hla hsum hw0 hw64],
    fun i e he => he ▸ tlbMatch_iff s va i,
    fun hok hbad => htlb.trans (tlbTranslate_refused (tlbLookup_unusable hok hbad va)),
    fun hok hus hmiss => htlb.trans (tlbTranslate_none (tlbLookup_none hok hus hmiss)),
    fun hok hus i j hne hi hj => htlb.trans (tlbTranslate_fault (tlbLookup_two hok hus hne hi hj)),
    fun hok hus i hmatch hone ps p hps hp => ?_⟩
  have hlookup := tlbLookup_one hok hus hmatch hone
  obtain rfl : ps = s.entryPs i (s.tlbAt i) := hps
  obtain rfl : p = (s.tlbAt i).page (s.entryPs i (s.tlbAt i)) va := hp
  have hdenied {x : Exc} (hcheck : s.pageCheck k va _ = some x) : s.translate k va = .trap x :=
    htlb.trans (tlbTranslate_denied hlookup hcheck)
  refine ⟨fun hv => (hdenied (pageCheck_invalid hv)).trans (by cases k <;> rfl),
    fun hv hk hnx => hdenied (pageCheck_nx hv hk hnx),
    fun hv hnx hlevel => hdenied (pageCheck_level hv hnx hlevel),
    fun hv hlevel hk hnr => hdenied (pageCheck_nr hv hlevel hk hnr),
    fun hv hlevel hk hd hdwpl => hdenied (pageCheck_notDirty hv hlevel hk hd ?_),
    fun hv hlevel hnx hnr hd => ⟨_, htlb.trans (tlbTranslate_passes hlookup ?_), pagePa_mod .., pagePa_div ..⟩⟩
  · rwa [dwpl_eq_false_iff]
  · exact pageCheck_passes hv hlevel hnx hnr (by simpa only [dwpl_iff] using hd)

end Sys2Proof.Machine
end

section
/-!
SUPPORT. Encoding, layout by layout (spec/30_encoding.md R331-R334): a word is the encoding of an opcode and fields
exactly when the decoder reads that opcode and those fields from it. One direction serves decoding what was encoded,
the other encoding what was decoded.
-/

namespace Sys2Proof

theorem extractLsb'_toNat_eq_mod {n lo len : Nat} (w : BitVec n) :
    (w.extractLsb' lo len).toNat = w.toNat / 2 ^ lo % 2 ^ len := by
  rw [BitVec.extractLsb'_toNat, Nat.shiftRight_eq_div_pow]

/-- A word is a concatenation exactly when its high and its low part are. -/
theorem append_eq_iff {n m : Nat} {x : BitVec n} {y : BitVec m} {z : BitVec (n + m)} :
    x ++ y = z ↔ x = z.extractLsb' m n ∧ y = z.extractLsb' 0 m := by
  constructor
  · rintro rfl
    exact ⟨BitVec.extractLsb'_append_eq_left.symm, BitVec.extractLsb'_append_eq_right.symm⟩
  · rintro ⟨rfl, rfl⟩
    exact BitVec.extractLsb'_append_extractLsb'

/-! ## Layouts whose fields are contiguous -/

theorem enc4R_eq_iff {p : BitVec 12} {a k j d : BitVec 5} {w : BitVec 32} :
    enc4R p a k j d = w ↔ w.extractLsb' 20 12 = p ∧ fA w = a ∧ fK w = k ∧ fJ w = j ∧ fD w = d := by
  simp only [← BitVec.toNat_inj, enc4R_toNat, fA, fK, fJ, fD, extractLsb'_toNat_eq_mod]
  omega

theorem enc3R_eq_iff {p : BitVec 17} {k j d : BitVec 5} {w : BitVec 32} :
    enc3R p k j d = w ↔ w.extractLsb' 15 17 = p ∧ fK w = k ∧ fJ w = j ∧ fD w = d := by
  simp only [← BitVec.toNat_inj, enc3R_toNat, fK, fJ, fD, extractLsb'_toNat_eq_mod]
  omega

theorem enc2R_eq_iff {p : BitVec 22} {j d : BitVec 5} {w : BitVec 32} :
    enc2R p j d = w ↔ w.extractLsb' 10 22 = p ∧ fJ w = j ∧ fD w = d := by
  simp only [← BitVec.toNat_inj, enc2R_toNat, fJ, fD, extractLsb'_toNat_eq_mod]
  omega

theorem encSa2_eq_iff {p : BitVec 15} {sa : BitVec 2} {k j d : BitVec 5} {w : BitVec 32} :
    encSa2 p sa k j d = w ↔ w.extractLsb' 17 15 = p ∧ fSa2 w = sa ∧ fK w = k ∧ fJ w = j ∧ fD w = d := by
  simp only [← BitVec.toNat_inj, encSa2_toNat, fSa2, fK, fJ, fD, extractLsb'_toNat_eq_mod]
  omega

theorem encSa3_eq_iff {p : BitVec 14} {sa : BitVec 3} {k j d : BitVec 5} {w : BitVec 32} :
    encSa3 p sa k j d = w ↔ w.extractLsb' 18 14 = p ∧ fSa3 w = sa ∧ fK w = k ∧ fJ w = j ∧ fD w = d := by
  simp only [← BitVec.toNat_inj, encSa3_toNat, fSa3, fK, fJ, fD, extractLsb'_toNat_eq_mod]
  omega

theorem encU6_eq_iff {p : BitVec 16} {imm : BitVec 6} {j d : BitVec 5} {w : BitVec 32} :
    encU6 p imm j d = w ↔ w.extractLsb' 16 16 = p ∧ fU6 w = imm ∧ fJ w = j ∧ fD w = d := by
  simp only [← BitVec.toNat_inj, encU6_toNat, fU6, fJ, fD, extractLsb'_toNat_eq_mod]
  omega

theorem encI8_eq_iff {p : BitVec 14} {imm : BitVec 8} {j d : BitVec 5} {w : BitVec 32} :
    encI8 p imm j d = w ↔ w.extractLsb' 18 14 = p ∧ fI8 w = imm ∧ fJ w = j ∧ fD w = d := by
  simp only [← BitVec.toNat_inj, encI8_toNat, fI8, fJ, fD, extractLsb'_toNat_eq_mod]
  omega

theorem encI12_eq_iff {p : BitVec 10} {imm : BitVec 12} {j d : BitVec 5} {w : BitVec 32} :
    encI12 p imm j d = w ↔ w.extractLsb' 22 10 = p ∧ fI12 w = imm ∧ fJ w = j ∧ fD w = d := by
  simp only [← BitVec.toNat_inj, encI12_toNat, fI12, fJ, fD, extractLsb'_toNat_eq_mod]
  omega

theorem encI14_eq_iff {p : BitVec 8} {imm : BitVec 14} {j d : BitVec 5} {w : BitVec 32} :
    encI14 p imm j d = w ↔ w.extractLsb' 24 8 = p ∧ fI14 w = imm ∧ fJ w = j ∧ fD w = d := by
  simp only [← BitVec.toNat_inj, encI14_toNat, fI14, fJ, fD, extractLsb'_toNat_eq_mod]
  omega

theorem encI16_eq_iff {p : BitVec 6} {imm : BitVec 16} {j d : BitVec 5} {w : BitVec 32} :
    encI16 p imm j d = w ↔ w.extractLsb' 26 6 = p ∧ fI16 w = imm ∧ fJ w = j ∧ fD w = d := by
  simp only [← BitVec.toNat_inj, encI16_toNat, fI16, fJ, fD, extractLsb'_toNat_eq_mod]
  omega

theorem encI20_eq_iff {p : BitVec 7} {imm : BitVec 20} {d : BitVec 5} {w : BitVec 32} :
    encI20 p imm d = w ↔ w.extractLsb' 25 7 = p ∧ fI20 w = imm ∧ fD w = d := by
  simp only [← BitVec.toNat_inj, encI20_toNat, fI20, fD, extractLsb'_toNat_eq_mod]
  omega

theorem encCode_eq_iff {p : BitVec 17} {c : BitVec 15} {w : BitVec 32} :
    encCode p c = w ↔ w.extractLsb' 15 17 = p ∧ fCode w = c := by
  simp only [← BitVec.toNat_inj, encCode_toNat, fCode, extractLsb'_toNat_eq_mod]
  omega

theorem encBstrD_eq_iff {p : BitVec 10} {msb lsb : BitVec 6} {j d : BitVec 5} {w : BitVec 32} :
    encBstrD p msb lsb j d = w ↔ w.extractLsb' 22 10 = p ∧ fMsbd w = msb ∧ fU6 w = lsb ∧ fJ w = j ∧ fD w = d := by
  simp only [← BitVec.toNat_inj, encBstrD_toNat, fMsbd, fU6, fJ, fD, extractLsb'_toNat_eq_mod]
  omega

theorem encBstrW_eq_iff {p : BitVec 11} {msb : BitVec 5} {sub : BitVec 1} {lsb j d : BitVec 5} {w : BitVec 32} :
    encBstrW p msb sub lsb j d = w ↔
      w.extractLsb' 21 11 = p ∧ fMsbw w = msb ∧ fBit15 w = sub ∧ fK w = lsb ∧ fJ w = j ∧ fD w = d := by
  simp only [← BitVec.toNat_inj, encBstrW_toNat, fMsbw, fBit15, fK, fJ, fD, extractLsb'_toNat_eq_mod]
  omega

/-! ## Branch offsets, stored in two halves (R334) -/

theorem encOffs21_eq_iff {p : BitVec 6} {offs : BitVec 21} {j : BitVec 5} {w : BitVec 32} :
    encOffs21 p offs j = w ↔ w.extractLsb' 26 6 = p ∧ fJ w = j ∧ fOffs21 w = offs := by
  have halves : fOffs21 w = offs ↔ fI16 w = offs.extractLsb' 0 16 ∧ fD w = offs.extractLsb' 16 5 :=
    append_eq_iff.trans and_comm
  rw [halves]
  have layout := encI16_eq_iff (p := p) (imm := offs.extractLsb' 0 16) (j := j) (d := offs.extractLsb' 16 5) (w := w)
  exact layout.trans (and_congr_right fun _ => and_left_comm)

theorem encOffs26_eq_iff {p : BitVec 6} {offs : BitVec 26} {w : BitVec 32} :
    encOffs26 p offs = w ↔ w.extractLsb' 26 6 = p ∧ fOffs26 w = offs := by
  have halves : fOffs26 w = offs ↔ w.extractLsb' 0 10 = offs.extractLsb' 16 10 ∧ fI16 w = offs.extractLsb' 0 16 :=
    append_eq_iff
  rw [halves, encOffs26]
  generalize offs.extractLsb' 0 16 = lo
  generalize offs.extractLsb' 16 10 = hi
  simp only [← BitVec.toNat_inj, append_toNat, fI16, extractLsb'_toNat_eq_mod]
  omega

/-! ## Condition flags: register fields whose two high bits are 0 -/

theorem fD_eq_append_iff {h : BitVec 2} {c : BitVec 3} {w : BitVec 32} : fD w = h ++ c ↔ fCdHi w = h ∧ fCd w = c := by
  simp only [← BitVec.toNat_inj, flagField_toNat, fD, fCdHi, fCd, extractLsb'_toNat_eq_mod]
  omega

theorem fJ_eq_append_iff {h : BitVec 2} {c : BitVec 3} {w : BitVec 32} : fJ w = h ++ c ↔ fCjHi w = h ∧ fCj w = c := by
  simp only [← BitVec.toNat_inj, flagField_toNat, fJ, fCjHi, fCj, extractLsb'_toNat_eq_mod]
  omega

end Sys2Proof
end

section
/-!
Decoding what was encoded: the decoder as a search through its stages, what the leading bits of a word determine, and
the row of every instruction.
-/

namespace Sys2Proof

/-! ## The decoder as a search -/

/-- A stage of the decoder: the length of its opcodes, and the look-up of an opcode. -/
abbrev DecodeStage := Σ n, BitVec n → BitVec 32 → Option Instr

/-- The stages in the order the decoder tries them. -/
noncomputable def decodeStages : List DecodeStage :=
  [⟨6, dec6⟩, ⟨7, dec7⟩, ⟨8, dec8⟩, ⟨10, dec10⟩, ⟨11, dec11⟩, ⟨12, dec12⟩, ⟨14, dec14⟩, ⟨15, dec15⟩, ⟨16, dec16⟩,
   ⟨17, dec17Fp⟩, ⟨17, dec17Int⟩, ⟨17, dec17Mem⟩, ⟨22, dec22⟩, ⟨32, dec32⟩]

/-- What a stage answers for the word `w`, if it takes the opcode from the leading bits of `p`. -/
def stageAnswer {n : Nat} (p : BitVec n) (w : BitVec 32) (st : DecodeStage) : Option Instr :=
  st.2 (p.extractLsb' (n - st.1) st.1) w

theorem findSome?_cons_eq_or {α β : Type} (f : α → Option β) (a : α) (l : List α) :
    (a :: l).findSome? f = (f a).or (l.findSome? f) := by
  rw [List.findSome?_cons]
  cases f a <;> rfl

/-- The decoder answers what the first stage that answers does. -/
theorem decode_eq_findSome (w : BitVec 32) : decode w = decodeStages.findSome? (stageAnswer w w) := by
  simp only [decode, decodeStages, stageAnswer, findSome?_cons_eq_or, List.findSome?_nil, Nat.reduceSub,
    Option.or_none, BitVec.extractLsb'_eq_self]

/-- What the stages answer that look at no more than the leading `n` bits, where these are `p`. -/
noncomputable def decodePrefix {n : Nat} (p : BitVec n) (w : BitVec 32) : Option Instr :=
  (decodeStages.takeWhile fun st => decide (st.1 ≤ n)).findSome? (stageAnswer p w)

/-- The leading bits of the leading bits. -/
theorem extractLsb'_top_top {n m N : Nat} (hm : m ≤ n) (hn : n ≤ N) (w : BitVec N) :
    (w.extractLsb' (N - n) n).extractLsb' (n - m) m = w.extractLsb' (N - m) m := by
  refine BitVec.eq_of_getLsbD_eq fun i hi => ?_
  simp only [BitVec.getLsbD_extractLsb', hi, show n - m + i < n by omega, decide_true, Bool.true_and]
  congr 1
  omega

theorem findSome?_congr_mem {α β : Type} {f g : α → Option β} : ∀ {l : List α}, (∀ a ∈ l, f a = g a) →
    l.findSome? f = l.findSome? g
  | [], _ => rfl
  | a :: l, h => by
    have tail := findSome?_congr_mem fun b hb => h b (List.mem_cons_of_mem a hb)
    simp only [List.findSome?_cons, h a List.mem_cons_self, tail]

/-- An answer that the leading bits of a word determine is the answer of the decoder. -/
theorem decode_of_prefix {n : Nat} (hn : n ≤ 32) {p : BitVec n} {w : BitVec 32} {i : Instr}
    (hp : w.extractLsb' (32 - n) n = p) (h : decodePrefix p w = some i) : decode w = some i := by
  have same : decodePrefix p w =
      (decodeStages.takeWhile fun st => decide (st.1 ≤ n)).findSome? (stageAnswer w w) :=
    findSome?_congr_mem fun st hst => by
      rw [stageAnswer, ← hp, extractLsb'_top_top (by simpa using List.mem_takeWhile_imp hst) hn, stageAnswer]
  rw [decode_eq_findSome]
  exact (List.takeWhile_prefix _).findSome?_eq_some (same ▸ h)

/-- A stage that answers ends the search. -/
theorem search_ends {n : Nat} {p : BitVec n} {w : BitVec 32} {i : Instr} {st : DecodeStage} {l : List DecodeStage}
    (h : stageAnswer p w st = some i) : (st :: l).findSome? (stageAnswer p w) = some i := by
  rw [List.findSome?_cons, h]

/-- A word of a layout decodes to the instruction that the stages answer for its opcode `p` in every word with its
fields. -/
theorem decode_of_fields {start n : Nat} {p : BitVec n} {e : BitVec 32} {Fields : BitVec 32 → Prop} {i : Instr}
    (layout : ∀ w, e = w ↔ w.extractLsb' start n = p ∧ Fields w) (h : ∀ w, Fields w → decodePrefix p w = some i)
    (hn : start + n = 32 := by rfl) : decode e = some i := by
  obtain ⟨hp, hfields⟩ := (layout e).1 rfl
  obtain rfl : start = 32 - n := by omega
  exact decode_of_prefix (by omega) hp (h e hfields)

/-! ## Opcodes of 17 and 22 bits

None begins with a shorter opcode, so no earlier stage answers. After the split, `h` has the opcode as a number and the
stages evaluate; the first goal closed is that of no row. -/

theorem decodePrefix_of_dec17Fp {p : BitVec 17} {w : BitVec 32} {i : Instr} (h : dec17Fp p w = some i) :
    decodePrefix p w = some i := by
  unfold dec17Fp at h
  split at h
  on_goal -1 => cases h
  all_goals exact h

theorem decodePrefix_of_dec17Int {p : BitVec 17} {w : BitVec 32} {i : Instr} (h : dec17Int p w = some i) :
    decodePrefix p w = some i := by
  unfold dec17Int at h
  split at h
  on_goal -1 => cases h
  any_goals exact h
  all_goals exact search_ends (st := ⟨17, dec17Int⟩) h

theorem decodePrefix_of_dec17Mem {p : BitVec 17} {w : BitVec 32} {i : Instr} (h : dec17Mem p w = some i) :
    decodePrefix p w = some i := by
  unfold dec17Mem at h
  split at h
  on_goal -1 => cases h
  all_goals exact h

theorem decodePrefix_of_dec22 {p : BitVec 22} {w : BitVec 32} {i : Instr} (h : dec22 p w = some i) :
    decodePrefix p w = some i := by
  unfold dec22 at h
  split at h
  on_goal -1 => cases h
  any_goals exact h
  all_goals exact search_ends (st := ⟨22, dec22⟩) h

/-! ## Every instruction -/

/-- Settles O5: the cases stand together by layout and stage; in each, the operands are the fields read back from the
encoded word, and the stage answers the instruction for its opcode. Rows that test a field come last. -/
theorem decodeOfEncodeIsTheInstruction : Obligations.DecodeOfEncodeIsTheInstruction := by
  intro i hi
  cases i
  case fmaddS | fmaddD | fmsubS | fmsubD | fnmaddS | fnmaddD | fnmsubS | fnmsubD =>
    exact decode_of_fields (fun _ => enc4R_eq_iff) (by rintro _ ⟨rfl, rfl, rfl, rfl⟩; rfl)
  case addW | subW | addD | subD | slt | sltu | and | or | nor | xor | andn | orn | mulW | mulhW | mulhWu | mulD
      | mulhD | mulhDu | mulwDW | mulwDWu | divW | modW | divWu | modWu | divD | modD | divDu | modDu | sllW
      | srlW | sraW | rotrW | sllD | srlD | sraD | rotrD | maskeqz | masknez | crcWBW | crcWHW | crcWWW | crcWDW
      | crccWBW | crccWHW | crccWWW | crccWDW =>
    exact decode_of_fields (fun _ => enc3R_eq_iff) (by rintro _ ⟨rfl, rfl, rfl⟩; exact decodePrefix_of_dec17Int rfl)
  case slliW | srliW | sraiW | rotriW | ldxB | ldxH | ldxW | ldxD | ldxBu | ldxHu | ldxWu | stxB | stxH | stxW
      | stxD | preldx | ldgtB | ldgtH | ldgtW | ldgtD | ldleB | ldleH | ldleW | ldleD | stgtB | stgtH | stgtW
      | stgtD | stleB | stleH | stleW | stleD | amswapW | amswapD | amaddW | amaddD | amandW | amandD | amorW
      | amorD | amxorW | amxorD | ammaxW | ammaxD | amminW | amminD | ammaxWu | ammaxDu | amminWu | amminDu
      | amswapDbW | amswapDbD | amaddDbW | amaddDbD | amandDbW | amandDbD | amorDbW | amorDbD | amxorDbW
      | amxorDbD | ammaxDbW | ammaxDbD | amminDbW | amminDbD | ammaxDbWu | ammaxDbDu | amminDbWu | amminDbDu
      | fldxS | fldxD | fstxS | fstxD | fldgtS | fldgtD | fldleS | fldleD | fstgtS | fstgtD | fstleS | fstleD
      | invtlb =>
    exact decode_of_fields (fun _ => enc3R_eq_iff) (by rintro _ ⟨rfl, rfl, rfl⟩; exact decodePrefix_of_dec17Mem rfl)
  case faddS | faddD | fsubS | fsubD | fmulS | fmulD | fdivS | fdivD | fmaxS | fmaxD | fminS | fminD | fmaxaS
      | fmaxaD | fminaS | fminaD | fscalebS | fscalebD | fcopysignS | fcopysignD =>
    exact decode_of_fields (fun _ => enc3R_eq_iff) (by rintro _ ⟨rfl, rfl, rfl⟩; exact decodePrefix_of_dec17Fp rfl)
  case extWB | extWH | cloW | clzW | ctoW | ctzW | cloD | clzD | ctoD | ctzD | revb2h | revb4h | revb2w | revbD
      | revh2w | revhD | bitrev4b | bitrev8b | bitrevW | bitrevD | rdtimelW | rdtimehW | rdtimeD | cpucfg
      | fabsS | fabsD | fnegS | fnegD | fsqrtS | fsqrtD | frecipS | frecipD | frsqrtS | frsqrtD | flogbS
      | flogbD | fclassS | fclassD | fcvtSD | fcvtDS | ffintSW | ffintSL | ffintDW | ffintDL | ftintWS | ftintWD
      | ftintLS | ftintLD | ftintrmWS | ftintrmWD | ftintrmLS | ftintrmLD | ftintrpWS | ftintrpWD | ftintrpLS
      | ftintrpLD | ftintrzWS | ftintrzWD | ftintrzLS | ftintrzLD | ftintrneWS | ftintrneWD | ftintrneLS
      | ftintrneLD | frintS | frintD | fmovS | fmovD | movgr2frW | movgr2frD | movgr2frhW | movfr2grS
      | movfr2grD | movfrh2grS | movgr2fcsr | movfcsr2gr | iocsrrdB | iocsrrdH | iocsrrdW | iocsrrdD | iocsrwrB
      | iocsrwrH | iocsrwrW | iocsrwrD =>
    exact decode_of_fields (fun _ => enc2R_eq_iff) (by rintro _ ⟨rfl, rfl⟩; exact decodePrefix_of_dec22 rfl)
  case alslW | alslWu | alslD | bytepickW =>
    exact decode_of_fields (fun _ => encSa2_eq_iff) (by rintro _ ⟨rfl, rfl, rfl, rfl⟩; rfl)
  case bytepickD | fsel =>
    exact decode_of_fields (fun _ => encSa3_eq_iff) (by rintro _ ⟨rfl, rfl, rfl, rfl⟩; rfl)
  case slliD | srliD | sraiD | rotriD =>
    exact decode_of_fields (fun _ => encU6_eq_iff) (by rintro _ ⟨rfl, rfl, rfl⟩; rfl)
  case lddir =>
    exact decode_of_fields (fun _ => encI8_eq_iff) (by rintro _ ⟨rfl, rfl, rfl⟩; rfl)
  case addiW | addiD | lu52iD | slti | sltui | andi | ori | xori | ldB | ldH | ldW | ldD | ldBu | ldHu | ldWu
      | stB | stH | stW | stD | preld | fldS | fldD | fstS | fstD | cacop =>
    exact decode_of_fields (fun _ => encI12_eq_iff) (by rintro _ ⟨rfl, rfl, rfl⟩; rfl)
  case ldptrW | ldptrD | stptrW | stptrD | llW | scW | llD | scD =>
    exact decode_of_fields (fun _ => encI14_eq_iff) (by rintro _ ⟨rfl, rfl, rfl⟩; rfl)
  case addu16iD | beq | bne | blt | bge | bltu | bgeu | jirl =>
    exact decode_of_fields (fun _ => encI16_eq_iff) (by rintro _ ⟨rfl, rfl, rfl⟩; rfl)
  case lu12iW | lu32iD | pcaddi | pcaddu12i | pcaddu18i | pcalau12i =>
    exact decode_of_fields (fun _ => encI20_eq_iff) (by rintro _ ⟨rfl, rfl⟩; rfl)
  case beqz | bnez =>
    exact decode_of_fields (fun _ => encOffs21_eq_iff) (by rintro _ ⟨rfl, rfl⟩; rfl)
  case b | bl =>
    exact decode_of_fields (fun _ => encOffs26_eq_iff) (by rintro _ rfl; rfl)
  case dbar | ibar | idle =>
    exact decode_of_fields (fun _ => encCode_eq_iff) (by rintro _ rfl; exact decodePrefix_of_dec17Mem rfl)
  case syscall | brk | dbcl =>
    exact decode_of_fields (fun _ => encCode_eq_iff) (by rintro _ rfl; exact decodePrefix_of_dec17Int rfl)
  case bstrinsD | bstrpickD =>
    exact decode_of_fields (fun _ => encBstrD_eq_iff) (by rintro _ ⟨rfl, rfl, rfl, rfl⟩; rfl)
  -- rows that test a field besides the opcode
  case asrtleD | asrtgtD =>
    refine decode_of_fields (fun _ => enc3R_eq_iff) ?_
    rintro w ⟨rfl, rfl, hd⟩
    exact decodePrefix_of_dec17Int (if_pos hd)
  case movfr2cf | movgr2cf =>
    refine decode_of_fields (fun _ => enc2R_eq_iff) ?_
    rintro w ⟨rfl, hd⟩
    obtain ⟨hzero, rfl⟩ := fD_eq_append_iff.1 hd
    exact decodePrefix_of_dec22 (if_pos hzero)
  case movcf2fr | movcf2gr =>
    refine decode_of_fields (fun _ => enc2R_eq_iff) ?_
    rintro w ⟨hj, rfl⟩
    obtain ⟨hzero, rfl⟩ := fJ_eq_append_iff.1 hj
    exact decodePrefix_of_dec22 (if_pos hzero)
  case fcmpCondS | fcmpCondD =>
    refine decode_of_fields (fun _ => enc4R_eq_iff) ?_
    rintro w ⟨rfl, rfl, rfl, hd⟩
    obtain ⟨hzero, rfl⟩ := fD_eq_append_iff.1 hd
    exact search_ends (st := ⟨12, dec12⟩) (if_pos hzero)
  case bceqz =>
    refine decode_of_fields (fun _ => encOffs21_eq_iff) ?_
    rintro w ⟨hj, rfl⟩
    obtain ⟨hzero, rfl⟩ := fJ_eq_append_iff.1 hj
    exact search_ends (st := ⟨6, dec6⟩) (if_pos hzero)
  case bcnez =>
    refine decode_of_fields (fun _ => encOffs21_eq_iff) ?_
    rintro w ⟨hj, rfl⟩
    obtain ⟨hone, rfl⟩ := fJ_eq_append_iff.1 hj
    exact search_ends (st := ⟨6, dec6⟩) ((if_neg (by rw [hone]; decide)).trans (if_pos hone))
  case ldpte =>
    refine decode_of_fields (fun _ => encI8_eq_iff) ?_
    rintro w ⟨rfl, rfl, hd⟩
    exact search_ends (st := ⟨14, dec14⟩) (if_pos hd)
  case bstrinsW =>
    refine decode_of_fields (fun _ => encBstrW_eq_iff) ?_
    rintro w ⟨rfl, hsub, rfl, rfl, rfl⟩
    exact search_ends (st := ⟨11, dec11⟩) (if_pos hsub)
  case bstrpickW =>
    refine decode_of_fields (fun _ => encBstrW_eq_iff) ?_
    rintro w ⟨rfl, hsub, rfl, rfl, rfl⟩
    exact search_ends (st := ⟨11, dec11⟩) (if_neg (by rw [hsub]; decide))
  case csrrd =>
    refine decode_of_fields (fun _ => encI14_eq_iff) ?_
    rintro w ⟨rfl, hj, rfl⟩
    exact search_ends (st := ⟨8, dec8⟩) (if_pos hj)
  case csrwr =>
    refine decode_of_fields (fun _ => encI14_eq_iff) ?_
    rintro w ⟨rfl, hj, rfl⟩
    exact search_ends (st := ⟨8, dec8⟩) ((if_neg (by rw [hj]; decide)).trans (if_pos hj))
  case csrxchg =>
    have hrj := of_decide_eq_true hi
    refine decode_of_fields (fun _ => encI14_eq_iff) ?_
    rintro w ⟨rfl, rfl, rfl⟩
    exact search_ends (st := ⟨8, dec8⟩) ((if_neg (by bv_omega)).trans (if_neg (by bv_omega)))
  case tlbsrch | tlbrd | tlbwr | tlbfill | tlbclr | tlbflush | ertn => rfl

end Sys2Proof
end

section
/-!
Encoding what was decoded: every row a stage finds for a word is the row that encodes to the word.
-/

namespace Sys2Proof

/-! ## The stages

Each proof begins with the layouts of the stage's rows, written with the fields read from the word; a row then is one
of them, with the opcode and the tested field at their values. -/

theorem dec6_sound {p : BitVec 6} {w : BitVec 32} {i : Instr} (hp : w.extractLsb' 26 6 = p)
    (h : dec6 p w = some i) : WellFormed i ∧ encode i = w := by
  have imm16 : encI16 p (fI16 w) (fJ w) (fD w) = w := encI16_eq_iff.2 ⟨hp, rfl, rfl, rfl⟩
  have offs21 : encOffs21 p (fOffs21 w) (fJ w) = w := encOffs21_eq_iff.2 ⟨hp, rfl, rfl⟩
  have offs26 : encOffs26 p (fOffs26 w) = w := encOffs26_eq_iff.2 ⟨hp, rfl⟩
  have flag {hi : BitVec 2} (hhi : fCjHi w = hi) : encOffs21 p (fOffs21 w) (hi ++ fCj w) = w :=
    encOffs21_eq_iff.2 ⟨hp, fJ_eq_append_iff.2 ⟨hhi, rfl⟩, rfl⟩
  clear hp
  unfold dec6 at h
  split at h
  any_goals split at h
  any_goals split at h
  all_goals cases h
  all_goals refine ⟨rfl, ?_⟩
  any_goals exact imm16
  any_goals exact offs21
  any_goals exact offs26
  all_goals exact flag ‹_›

theorem dec7_sound {p : BitVec 7} {w : BitVec 32} {i : Instr} (hp : w.extractLsb' 25 7 = p)
    (h : dec7 p w = some i) : WellFormed i ∧ encode i = w := by
  have imm20 : encI20 p (fI20 w) (fD w) = w := encI20_eq_iff.2 ⟨hp, rfl, rfl⟩
  clear hp
  unfold dec7 at h
  split at h <;> cases h
  all_goals exact ⟨rfl, imm20⟩

theorem dec8_sound {p : BitVec 8} {w : BitVec 32} {i : Instr} (hp : w.extractLsb' 24 8 = p)
    (h : dec8 p w = some i) : WellFormed i ∧ encode i = w := by
  have imm14 {j : BitVec 5} (hj : fJ w = j) : encI14 p (fI14 w) j (fD w) = w := encI14_eq_iff.2 ⟨hp, rfl, hj, rfl⟩
  clear hp
  unfold dec8 at h
  split at h
  · split_ifs at h with h0 h1 <;> cases h
    · exact ⟨rfl, imm14 h0⟩
    · exact ⟨rfl, imm14 h1⟩
    · exact ⟨decide_eq_true (by bv_omega), imm14 rfl⟩
  all_goals cases h
  all_goals exact ⟨rfl, imm14 rfl⟩

theorem dec10_sound {p : BitVec 10} {w : BitVec 32} {i : Instr} (hp : w.extractLsb' 22 10 = p)
    (h : dec10 p w = some i) : WellFormed i ∧ encode i = w := by
  have imm12 : encI12 p (fI12 w) (fJ w) (fD w) = w := encI12_eq_iff.2 ⟨hp, rfl, rfl, rfl⟩
  have bits : encBstrD p (fMsbd w) (fU6 w) (fJ w) (fD w) = w := encBstrD_eq_iff.2 ⟨hp, rfl, rfl, rfl, rfl⟩
  clear hp
  unfold dec10 at h
  split at h <;> cases h
  all_goals refine ⟨rfl, ?_⟩
  any_goals exact imm12
  all_goals exact bits

theorem dec11_sound {p : BitVec 11} {w : BitVec 32} {i : Instr} (hp : w.extractLsb' 21 11 = p)
    (h : dec11 p w = some i) : WellFormed i ∧ encode i = w := by
  have bits {sub : BitVec 1} (hsub : fBit15 w = sub) : encBstrW p (fMsbw w) sub (fK w) (fJ w) (fD w) = w :=
    encBstrW_eq_iff.2 ⟨hp, rfl, hsub, rfl, rfl, rfl⟩
  clear hp
  unfold dec11 at h
  split at h
  · split at h <;> cases h
    · exact ⟨rfl, bits ‹_›⟩
    · exact ⟨rfl, bits (by bv_omega)⟩
  · cases h

theorem dec12_sound {p : BitVec 12} {w : BitVec 32} {i : Instr} (hp : w.extractLsb' 20 12 = p)
    (h : dec12 p w = some i) : WellFormed i ∧ encode i = w := by
  have fourRegs : enc4R p (fA w) (fK w) (fJ w) (fD w) = w := enc4R_eq_iff.2 ⟨hp, rfl, rfl, rfl, rfl⟩
  have flag {hi : BitVec 2} (hhi : fCdHi w = hi) : enc4R p (fA w) (fK w) (fJ w) (hi ++ fCd w) = w :=
    enc4R_eq_iff.2 ⟨hp, rfl, rfl, rfl, fD_eq_append_iff.2 ⟨hhi, rfl⟩⟩
  clear hp
  unfold dec12 at h
  split at h
  any_goals split at h
  all_goals cases h
  all_goals refine ⟨rfl, ?_⟩
  any_goals exact fourRegs
  all_goals exact flag ‹_›

theorem dec14_sound {p : BitVec 14} {w : BitVec 32} {i : Instr} (hp : w.extractLsb' 18 14 = p)
    (h : dec14 p w = some i) : WellFormed i ∧ encode i = w := by
  have sa3 : encSa3 p (fSa3 w) (fK w) (fJ w) (fD w) = w := encSa3_eq_iff.2 ⟨hp, rfl, rfl, rfl, rfl⟩
  have imm8 {d : BitVec 5} (hd : fD w = d) : encI8 p (fI8 w) (fJ w) d = w := encI8_eq_iff.2 ⟨hp, rfl, rfl, hd⟩
  clear hp
  unfold dec14 at h
  split at h
  any_goals split at h
  all_goals cases h
  all_goals refine ⟨rfl, ?_⟩
  any_goals exact sa3
  any_goals exact imm8 rfl
  all_goals exact imm8 ‹_›

theorem dec15_sound {p : BitVec 15} {w : BitVec 32} {i : Instr} (hp : w.extractLsb' 17 15 = p)
    (h : dec15 p w = some i) : WellFormed i ∧ encode i = w := by
  have sa2 : encSa2 p (fSa2 w) (fK w) (fJ w) (fD w) = w := encSa2_eq_iff.2 ⟨hp, rfl, rfl, rfl, rfl⟩
  clear hp
  unfold dec15 at h
  split at h <;> cases h
  all_goals exact ⟨rfl, sa2⟩

theorem dec16_sound {p : BitVec 16} {w : BitVec 32} {i : Instr} (hp : w.extractLsb' 16 16 = p)
    (h : dec16 p w = some i) : WellFormed i ∧ encode i = w := by
  have imm6 : encU6 p (fU6 w) (fJ w) (fD w) = w := encU6_eq_iff.2 ⟨hp, rfl, rfl, rfl⟩
  clear hp
  unfold dec16 at h
  split at h <;> cases h
  all_goals exact ⟨rfl, imm6⟩

theorem dec17Fp_sound {p : BitVec 17} {w : BitVec 32} {i : Instr} (hp : w.extractLsb' 15 17 = p)
    (h : dec17Fp p w = some i) : WellFormed i ∧ encode i = w := by
  have threeRegs : enc3R p (fK w) (fJ w) (fD w) = w := enc3R_eq_iff.2 ⟨hp, rfl, rfl, rfl⟩
  clear hp
  unfold dec17Fp at h
  split at h <;> cases h
  all_goals exact ⟨rfl, threeRegs⟩

theorem dec17Int_sound {p : BitVec 17} {w : BitVec 32} {i : Instr} (hp : w.extractLsb' 15 17 = p)
    (h : dec17Int p w = some i) : WellFormed i ∧ encode i = w := by
  have threeRegs {d : BitVec 5} (hd : fD w = d) : enc3R p (fK w) (fJ w) d = w := enc3R_eq_iff.2 ⟨hp, rfl, rfl, hd⟩
  have code : encCode p (fCode w) = w := encCode_eq_iff.2 ⟨hp, rfl⟩
  clear hp
  unfold dec17Int at h
  split at h
  any_goals split at h
  all_goals cases h
  all_goals refine ⟨rfl, ?_⟩
  any_goals exact threeRegs rfl
  any_goals exact code
  all_goals exact threeRegs ‹_›

theorem dec17Mem_sound {p : BitVec 17} {w : BitVec 32} {i : Instr} (hp : w.extractLsb' 15 17 = p)
    (h : dec17Mem p w = some i) : WellFormed i ∧ encode i = w := by
  have threeRegs : enc3R p (fK w) (fJ w) (fD w) = w := enc3R_eq_iff.2 ⟨hp, rfl, rfl, rfl⟩
  have code : encCode p (fCode w) = w := encCode_eq_iff.2 ⟨hp, rfl⟩
  clear hp
  unfold dec17Mem at h
  split at h <;> cases h
  all_goals refine ⟨rfl, ?_⟩
  any_goals exact threeRegs
  all_goals exact code

theorem dec22_sound {p : BitVec 22} {w : BitVec 32} {i : Instr} (hp : w.extractLsb' 10 22 = p)
    (h : dec22 p w = some i) : WellFormed i ∧ encode i = w := by
  have twoRegs : enc2R p (fJ w) (fD w) = w := enc2R_eq_iff.2 ⟨hp, rfl, rfl⟩
  have flagD {hi : BitVec 2} (hhi : fCdHi w = hi) : enc2R p (fJ w) (hi ++ fCd w) = w :=
    enc2R_eq_iff.2 ⟨hp, rfl, fD_eq_append_iff.2 ⟨hhi, rfl⟩⟩
  have flagJ {hi : BitVec 2} (hhi : fCjHi w = hi) : enc2R p (hi ++ fCj w) (fD w) = w :=
    enc2R_eq_iff.2 ⟨hp, fJ_eq_append_iff.2 ⟨hhi, rfl⟩, rfl⟩
  clear hp
  unfold dec22 at h
  split at h
  any_goals split at h
  all_goals cases h
  all_goals refine ⟨rfl, ?_⟩
  any_goals exact twoRegs
  any_goals exact flagD ‹_›
  all_goals exact flagJ ‹_›

theorem dec32_sound {p w : BitVec 32} {i : Instr} (hp : w = p) (h : dec32 p w = some i) :
    WellFormed i ∧ encode i = w := by
  subst hp
  unfold dec32 at h
  split at h <;> cases h
  all_goals exact ⟨rfl, rfl⟩

/-! ## The decoder -/

/-- A stage that answers for a word answers a well-formed instruction whose encoding is the word. -/
theorem decodeStages_sound : ∀ st ∈ decodeStages, ∀ {w : BitVec 32} {i : Instr},
    stageAnswer w w st = some i → WellFormed i ∧ encode i = w := by
  simp only [decodeStages, List.forall_mem_cons]
  exact ⟨dec6_sound rfl, dec7_sound rfl, dec8_sound rfl, dec10_sound rfl, dec11_sound rfl, dec12_sound rfl,
    dec14_sound rfl, dec15_sound rfl, dec16_sound rfl, dec17Fp_sound rfl, dec17Int_sound rfl, dec17Mem_sound rfl,
    dec22_sound rfl, dec32_sound BitVec.extractLsb'_eq_self.symm, List.forall_mem_nil _⟩

/-- Settles O6: some stage answered (`decode_eq_findSome`), and every stage answers encodings only. -/
theorem everyDecodedWordIsAnEncoding : Obligations.EveryDecodedWordIsAnEncoding := by
  intro w i h
  rw [decode_eq_findSome] at h
  obtain ⟨st, hst, hw⟩ := List.exists_of_findSome?_eq_some h
  exact decodeStages_sound st hst hw

/-- Settles O4: the decoder is evaluated on each word. -/
theorem writtenWordsDecode : Obligations.WrittenWordsDecode := by
  and_intros <;> rfl

end Sys2Proof
end

section
/-!
Instructions that the core lacks (spec/30_encoding.md R337, R343): the gates that answer INE, and which gate each form
stands behind.
-/

namespace Sys2Proof.Machine

/-- Where `P` holds, the outcome is INE. -/
def IneWhere (P : State → Prop) (o : State → Out) : Prop := ∀ s, P s → o s = s.raise .ine

section
variable {P : State → Prop} {i : Instr} {b : State → Bool} {k : State → Out}

theorem IneWhere.traps (h : IneWhere P (exec i)) : TrapsIne i P := trapsIne_of h

/-- A gate that `P` closes. -/
theorem IneWhere.need (hb : ∀ s, P s → b s = false) : IneWhere P fun s => s.need (b s) (k s) :=
  fun s hs => need_not (hb s hs) _

/-- A gate in front of what answers INE: closed or open, the outcome is INE. -/
theorem IneWhere.behindNeed (h : IneWhere P k) : IneWhere P fun s => s.need (b s) (k s) := fun s hs => by
  simp only [h s hs, State.need, ite_self]

/-- The core lacks what the instruction needs (R337 item b). -/
theorem IneWhere.unit : IneWhere (fun s => b s = false) fun s => s.need (b s) (k s) := .need fun _ h => h

/-- An instruction of LA64 in LA32 (R343). -/
theorem IneWhere.la64 : IneWhere (fun s => s.cfg.la64 = false) fun s => s.la64Only (k s) := .unit

/-- In front of what answers INE, the gate of LA64 too leaves INE. -/
theorem IneWhere.behindLa64 (h : IneWhere P k) : IneWhere P fun s => s.la64Only (k s) := h.behindNeed

/-- The floating-point unit is absent (R644). -/
theorem IneWhere.fp : IneWhere (fun s => s.cfg.hasFp = false) fun s => s.fpGate false (k s) :=
  fun _ h => fpGate_absent (.inl h) _

/-- The unit or its double precision is absent (R644). -/
theorem IneWhere.fpDouble : IneWhere (fun s => s.cfg.hasFp = false ∨ s.cfg.hasFpDp = false)
    fun s => s.fpGate true (k s) :=
  fun _ h => fpGate_absent (h.imp_right fun hdp => ⟨rfl, hdp⟩) _

/-- AM* without LAM, or with rd = rj (R572). -/
theorem IneWhere.amo {rd rj : Reg} : IneWhere (fun s => s.cfg.la64 = true ∧ (s.cfg.hasLam = false ∨ rd = rj))
    fun s => s.la64Only (s.need s.cfg.hasLam (if rd = rj then s.raise .ine else k s)) :=
  IneWhere.behindLa64 fun s ⟨_, h⟩ => by
    obtain hlam | hrd := h
    · exact need_not hlam _
    · simp only [if_pos hrd, State.need, ite_self]

/-- A TLB instruction without a TLB (R794). -/
theorem IneWhere.tlb : IneWhere (fun s => s.cfg.hasPgmmu = false ∨ s.cfg.tlbType = 0) fun s => s.tlbGate (k s) :=
  .need fun s h => by obtain h | h := h <;> simp [Config.hasTlb, h]
end

/-- The ten conditions that Table 9 does not have (D63). -/
theorem condDefined_of_undefined : ∀ cond ∈ ([0x12#5, 0x13#5, 0x16#5, 0x17#5, 0x1A#5, 0x1B#5, 0x1C#5, 0x1D#5, 0x1E#5,
    0x1F#5] : List (BitVec 5)), condDefined cond = false := by decide

/-- Settles O34: every form stands behind the gate of its unit, an LA64-only one behind that gate too. -/
theorem absentInstructionsTakeIne : Obligations.AbsentInstructionsTakeIne := by
  intro fd rd fj rj fk rk fa lsbd msbd i12 i14 cd cond ca fcsr cj offs i8 seq op
  refine ⟨?_, ?_, ?_, ?_⟩
  · and_intros
    all_goals exact IneWhere.la64.traps
  · and_intros
    all_goals exact IneWhere.amo.traps
  · and_intros
    all_goals apply IneWhere.traps
    any_goals apply IneWhere.behindLa64
    any_goals exact .fp
    any_goals exact .fpDouble
    -- FCMP tests its condition first
    exacts [.behindNeed .fp, .behindNeed .fpDouble]
  · and_intros
    all_goals apply IneWhere.traps
    any_goals apply IneWhere.behindLa64
    any_goals exact .unit
    any_goals exact .tlb
    -- INVTLB with op above 6, then FCMP
    · exact .behindNeed fun s ⟨hplv, hop⟩ => by
        rw [privileged_of hplv]
        exact need_not (decide_eq_false (by omega)) _
    all_goals exact .need fun _ => condDefined_of_undefined cond

end Sys2Proof.Machine
end

section
/-!
Integer instructions (spec/40_int_arith.md, spec/41_int_shift_bit.md): the bit-vector operations of the model on the
integers their operands stand for, and the shapes in which the instructions deliver a result.
-/

namespace Sys2Proof.Machine

/-! ## Integers cut to a width

`BitVec.ofInt w` takes each operation on integers to the operation on `w` bits that the model uses. -/

section
variable {w : Nat}

theorem ofInt_sub (m n : Int) : BitVec.ofInt w (m - n) = BitVec.ofInt w m - BitVec.ofInt w n :=
  BitVec.eq_of_toInt_eq (by simp [BitVec.toInt_sub])

theorem ofInt_mul_two_pow (n : Int) (k : Nat) : BitVec.ofInt w (n * 2 ^ k) = BitVec.ofInt w n <<< k := by
  have hpow : BitVec.ofInt w ((2 ^ k : Nat) : Int) = BitVec.twoPow w k :=
    BitVec.eq_of_toNat_eq (by rw [BitVec.ofInt_natCast, BitVec.toNat_ofNat, BitVec.toNat_twoPow])
  rw [BitVec.shiftLeft_eq_mul_twoPow, ← hpow, ← BitVec.ofInt_mul]
  norm_cast

theorem ofInt_append {n m : Nat} (x : BitVec n) (y : BitVec m) :
    BitVec.ofInt (n + m) (x.toInt * 2 ^ m + (y.toNat : Int)) = x ++ y := by
  cases n with
  | zero => obtain rfl := BitVec.eq_nil x; exact BitVec.eq_of_toNat_eq (by simp)
  | succ n => rw [← BitVec.ofInt_toInt (x := x ++ y), BitVec.toInt_append, if_neg (by simp), mul_comm]

/-- A field of an integer cut to `w` bits is a field of the integer. -/
theorem emod_two_pow_field {lo len : Nat} (h : lo + len ≤ w) (n : Int) :
    n % 2 ^ w / 2 ^ lo % 2 ^ len = n / 2 ^ lo % 2 ^ len := by
  obtain ⟨c, rfl⟩ := Nat.exists_eq_add_of_le h
  have hsplit : n % 2 ^ (lo + len + c) = n + 2 ^ lo * (2 ^ len * -(2 ^ c * (n / 2 ^ (lo + len + c)))) := by
    rw [Int.emod_def]; ring
  rw [hsplit, Int.add_mul_ediv_left _ _ (by positivity), Int.add_mul_emod_self_left]

theorem extractLsb'_ofInt {lo len : Nat} (h : lo + len ≤ w) (n : Int) :
    (BitVec.ofInt w n).extractLsb' lo len = BitVec.ofInt len (n / 2 ^ lo) := by
  have hnn (m : Int) (k : Nat) : 0 ≤ m % 2 ^ k := Int.emod_nonneg _ (by positivity)
  apply BitVec.eq_of_toNat_eq
  rw [BitVec.extractLsb'_toNat, BitVec.toNat_ofInt, BitVec.toNat_ofInt, Nat.shiftRight_eq_div_pow]
  zify
  rw [Int.toNat_of_nonneg (hnn _ _), Int.toNat_of_nonneg (hnn _ _), emod_two_pow_field h]

theorem setWidth_ofInt {v : Nat} (h : v ≤ w) (n : Int) : (BitVec.ofInt w n).setWidth v = BitVec.ofInt v n := by
  rw [BitVec.setWidth_eq_extractLsb' h, extractLsb'_ofInt (by omega), pow_zero, Int.ediv_one]

theorem ofInt_tdiv (x y : BitVec w) : BitVec.ofInt w (x.toInt.tdiv y.toInt) = x.sdiv y :=
  BitVec.eq_of_toInt_eq (by rw [BitVec.toInt_ofInt, BitVec.toInt_sdiv])

theorem ofInt_tmod (x y : BitVec w) : BitVec.ofInt w (x.toInt.tmod y.toInt) = x.srem y := by
  rw [← BitVec.toInt_srem, BitVec.ofInt_toInt]

theorem ofNat_div (x y : BitVec w) : BitVec.ofNat w (x.toNat / y.toNat) = x.udiv y := by
  rw [← BitVec.toNat_udiv, BitVec.ofNat_toNat, BitVec.setWidth_eq]; rfl

theorem ofNat_mod (x y : BitVec w) : BitVec.ofNat w (x.toNat % y.toNat) = x.umod y := by
  rw [← BitVec.toNat_umod, BitVec.ofNat_toNat, BitVec.setWidth_eq]; rfl

end

/-- The twelve low bits cleared: rounded down to a multiple of 4096. -/
theorem ofInt_and_page (n : Int) : BitVec.ofInt 64 n &&& ~~~0xFFF#64 = BitVec.ofInt 64 (n / 2 ^ 12 * 2 ^ 12) := by
  have hshift : BitVec.ofInt 64 n &&& ~~~0xFFF#64 = BitVec.ofInt 64 n >>> 12 <<< 12 := by
    rw [BitVec.shiftLeft_ushiftRight]; rfl
  apply BitVec.eq_of_toNat_eq
  rw [hshift, BitVec.toNat_shiftLeft, BitVec.toNat_ushiftRight, BitVec.toNat_ofInt, BitVec.toNat_ofInt,
    Nat.shiftLeft_eq, Nat.shiftRight_eq_div_pow]
  omega

/-! ## Operands -/

theorem ofInt_sw (s : State) (r : Reg) : BitVec.ofInt 32 (s.sw r) = s.getGrW r := by rw [sw_eq, BitVec.ofInt_toInt]

theorem ofInt_sd (s : State) (r : Reg) : BitVec.ofInt 64 (s.sd r) = s.getGr r := BitVec.ofInt_toInt

theorem uw_eq_zero_iff (s : State) (r : Reg) : s.uw r = 0 ↔ s.getGrW r = 0#32 := by
  rw [uw_eq, ← BitVec.toNat_inj]; rfl

theorem ud_eq_zero_iff (s : State) (r : Reg) : s.ud r = 0 ↔ s.getGr r = 0#64 := by
  rw [State.ud, ← BitVec.toNat_inj]; rfl

/-- An unsigned comparison sees a sign-extended immediate modulo 2^64 (R417). -/
theorem simm12_toNat (i : BitVec 12) : (simm12 i).toNat = (i.toInt % 2 ^ 64).toNat := by
  rw [simm12_eq, BitVec.toNat_ofInt]; rfl

/-- An unsigned immediate counts as 0 above bit 11. -/
theorem uimm12_getLsbD {i : Nat} (hi : i < 64) (x : BitVec 12) : (uimm12 x).getLsbD i = x.getLsbD i := by
  rw [uimm12, BitVec.getLsbD_setWidth, decide_eq_true hi, Bool.true_and]

theorem pc_add_simm20 (s : State) (i : BitVec 20) (k : Nat) :
    s.pc + simm20 i k = BitVec.ofInt 64 ((s.pc.toNat : Int) + i.toInt * 2 ^ k) := by
  rw [BitVec.ofInt_add, BitVec.ofInt_natCast, BitVec.ofNat_toNat, BitVec.setWidth_eq, ofInt_mul_two_pow]; rfl

/-- R33 item b: what `link` makes of an address is its `pcRelative`. -/
theorem link_ofInt (s : State) (n : Int) : s.link (BitVec.ofInt 64 n) = pcRelative s n := by
  rw [State.link, pcRelative, wordOf_eq, low32, setWidth_ofInt (by decide), dwordOf]

theorem mulSW_eq (a b : BitVec 32) : mulSW a b = BitVec.ofInt 64 (a.toInt * b.toInt) := (BitVec.ofInt_mul _ _).symm

theorem mulSD_eq (a b : Word) : mulSD a b = BitVec.ofInt 128 (a.toInt * b.toInt) := (BitVec.ofInt_mul _ _).symm

theorem mulUW_eq (a b : BitVec 32) : mulUW a b = BitVec.ofInt 64 ((a.toNat * b.toNat : Nat) : Int) := by
  rw [BitVec.ofInt_natCast, BitVec.ofNat_mul, BitVec.ofNat_toNat, BitVec.ofNat_toNat, mulUW]

theorem mulUD_eq (a b : Word) : mulUD a b = BitVec.ofInt 128 ((a.toNat * b.toNat : Nat) : Int) := by
  rw [BitVec.ofInt_natCast, BitVec.ofNat_mul, BitVec.ofNat_toNat, BitVec.ofNat_toNat, mulUD]

/-! ## Shapes of a result -/

section
variable {i : Instr} {rd : Reg} {v : State → Word} {n : State → Int}

theorem writesGrAll_of {x : State → Word} (h : ∀ s, exec i s = s.putGr rd (x s)) (hv : ∀ s, v s = x s) :
    WritesGrAll i rd v := writesGr_of fun s _ => by rw [h, hv]

/-- A 32-bit result, sign-extended. -/
theorem writesGrAll_wordOf {x : State → BitVec 32} (h : ∀ s, exec i s = s.putGrW rd (x s))
    (hn : ∀ s, BitVec.ofInt 32 (n s) = x s) : WritesGrAll i rd (fun s => wordOf (n s)) :=
  writesGrAll_of h fun s => by rw [wordOf_eq, hn]

theorem writesGr64_of {x : State → Word} (h : ∀ s, exec i s = s.la64Only (s.putGr rd (x s))) (hv : ∀ s, v s = x s) :
    WritesGr64 i rd v :=
  ⟨writesGr_of fun s hs => by rw [h, la64Only_of hs, hv], trapsIne_of fun s hs => by rw [h, la64Only_not hs]⟩

/-- A result stated bit by bit. -/
theorem writesGrSomeAll_of {R : State → Word → Prop} (x : State → Word) (h : ∀ s, exec i s = s.putGr rd (x s))
    (hR : ∀ s, R s (x s)) : WritesGrSomeAll i rd R := writesGrSome_of x (fun s _ => h s) fun s _ => hR s

/-- A comparison that decides `p`. -/
theorem writesGrAll_ofBool {p : State → Prop} [∀ s, Decidable (p s)]
    (h : ∀ s, exec i s = s.putGr rd (Word.ofBool (decide (p s)))) :
    WritesGrAll i rd (fun s => if p s then 1#64 else 0#64) :=
  writesGrAll_of h fun s => by simp only [Word.ofBool, decide_eq_true_eq]

end

/-! ## Division (R440) -/

theorem divForm_of_ne {s : State} {w : Nat} {rk : Reg} (h : (s.getGr rk).setWidth w ≠ 0#w) (k : DivKind)
    (f : BitVec w → BitVec w → BitVec w) (rd rj : Reg) : s.divForm w k f rd rj rk =
      s.putGr rd ((f ((s.getGr rj).setWidth w) ((s.getGr rk).setWidth w)).signExtend 64) := by
  simp only [State.divForm, if_neg h]

section
variable {i : Instr} {rd rj rk : Reg} {k : DivKind}

theorem writesGr_divW {f : BitVec 32 → BitVec 32 → BitVec 32} {n : State → Int}
    (h : ∀ s, exec i s = s.divForm 32 k f rd rj rk)
    (hn : ∀ s, BitVec.ofInt 32 (n s) = f (s.getGrW rj) (s.getGrW rk)) :
    WritesGr i (fun s => s.uw rk ≠ 0) rd (fun s => wordOf (n s)) :=
  writesGr_of fun s hs => by
    rw [h, divForm_of_ne (mt (uw_eq_zero_iff s rk).mpr hs), wordOf_eq, hn]; rfl

theorem writesGr_divD {f : Word → Word → Word} {v : State → Word}
    (h : ∀ s, exec i s = s.la64Only (s.divForm 64 k f rd rj rk)) (hv : ∀ s, v s = f (s.getGr rj) (s.getGr rk)) :
    WritesGr i (fun s => s.cfg.la64 = true ∧ s.ud rk ≠ 0) rd v :=
  writesGr_of fun s ⟨hla, hs⟩ => by
    have hne : (s.getGr rk).setWidth 64 ≠ 0#64 := by rwa [BitVec.setWidth_eq, ne_eq, ← ud_eq_zero_iff]
    rw [h, la64Only_of hla, divForm_of_ne hne, hv, BitVec.signExtend_eq, BitVec.setWidth_eq, BitVec.setWidth_eq]

theorem writesGrSome_divW {f : BitVec 32 → BitVec 32 → BitVec 32} (h : ∀ s, exec i s = s.divForm 32 k f rd rj rk) :
    WritesGrSome i (fun s => s.uw rk = 0) rd (fun _ _ => True) :=
  writesGrSome_of _ (fun s _ => h s) fun _ _ => trivial

theorem writesGrSome_divD {f : Word → Word → Word} (h : ∀ s, exec i s = s.la64Only (s.divForm 64 k f rd rj rk)) :
    WritesGrSome i (fun s => s.cfg.la64 = true ∧ s.ud rk = 0) rd (fun _ _ => True) :=
  writesGrSome_of _ (fun s ⟨hla, _⟩ => (h s).trans (la64Only_of hla _)) fun _ _ => trivial

end

end Sys2Proof.Machine
end

section
/-!
The results of the integer arithmetic, comparison, mask and logic instructions (R401-R448, R493, R494).
-/

namespace Sys2Proof.Machine

/-- Settles O7: each sum is cut to its width operand by operand. -/
theorem addSubtractResults : Obligations.AddSubtractResults := by
  intro rd rj rk i12 i16 sa2
  refine ⟨writesGrAll_wordOf (fun _ => rfl) fun s => ?addW, writesGr64_of (fun _ => rfl) fun s => ?addD,
    writesGrAll_wordOf (fun _ => rfl) fun s => ?subW, writesGr64_of (fun _ => rfl) fun s => ?subD,
    writesGrAll_wordOf (fun _ => rfl) fun s => ?addiW, writesGr64_of (fun _ => rfl) fun s => ?addiD,
    writesGr64_of (fun _ => rfl) fun s => ?addu16iD, writesGrAll_wordOf (fun _ => rfl) fun s => ?alslW,
    writesGr64_of (fun _ => rfl) fun s => ?alslWu, writesGr64_of (fun _ => rfl) fun s => ?alslD⟩
  case addW => rw [BitVec.ofInt_add, ofInt_sw, ofInt_sw]
  case addD => rw [dwordOf, BitVec.ofInt_add, ofInt_sd, ofInt_sd]
  case subW => rw [ofInt_sub, ofInt_sw, ofInt_sw]
  case subD => rw [dwordOf, ofInt_sub, ofInt_sd, ofInt_sd]
  case addiW => rw [BitVec.ofInt_add, ofInt_sw, simm12_eq, low32, setWidth_ofInt (by decide)]
  case addiD => rw [dwordOf, BitVec.ofInt_add, ofInt_sd, simm12_eq]
  case addu16iD => rw [dwordOf, BitVec.ofInt_add, ofInt_sd, BitVec.signExtend, BitVec.toInt_append_zero, mul_comm]
  case alslW => rw [BitVec.ofInt_add, ofInt_mul_two_pow, ofInt_sw, ofInt_sw]
  case alslWu =>
    apply BitVec.eq_of_toNat_eq
    rw [uw_eq, uw_eq, BitVec.toNat_ofNat, BitVec.toNat_setWidth, BitVec.toNat_add, BitVec.toNat_shiftLeft,
      Nat.shiftLeft_eq, Nat.mod_add_mod]
  case alslD => rw [dwordOf, BitVec.ofInt_add, ofInt_mul_two_pow, ofInt_sd, ofInt_sd]

/-- Settles O8: an upper immediate is a concatenation, an address is the pc plus a shifted immediate. -/
theorem upperImmediateAndPcRelativeResults : Obligations.UpperImmediateAndPcRelativeResults := by
  intro rd rj si20 i12
  refine ⟨writesGrAll_wordOf (x := fun _ => si20 ++ 0#12) (fun _ => rfl) fun _ => ?lu12iW,
    writesGr64_of (fun _ => rfl) fun s => ?lu32iD, writesGr64_of (fun _ => rfl) fun s => ?lu52iD,
    writesGrAll_of (fun _ => rfl) fun s => ?pcaddi, writesGrAll_of (fun _ => rfl) fun s => ?pcaddu12i,
    writesGr64_of (fun _ => rfl) fun s => ?pcaddu18i, writesGrAll_of (fun _ => rfl) fun s => ?pcalau12i⟩
  case lu12iW => simpa using ofInt_append si20 0#12
  case lu32iD =>
    rw [← ofInt_append, BitVec.toInt_signExtend_of_le (by decide), uw_eq, dwordOf]
  case lu52iD =>
    rw [← ofInt_append, BitVec.extractLsb'_toNat, Nat.shiftRight_zero]; rfl
  case pcaddi | pcaddu12i | pcaddu18i => rw [pc_add_simm20, link_ofInt]
  case pcalau12i => rw [pc_add_simm20, ofInt_and_page, link_ofInt]

/-- Settles O9: the comparisons are those of the integers by definition. -/
theorem compareAndMaskResults : Obligations.CompareAndMaskResults := by
  intro rd rj rk i12
  refine ⟨writesGrAll_ofBool fun _ => rfl, writesGrAll_ofBool fun _ => rfl, ?slti, ?sltui,
    writesGrAll_of (fun _ => rfl) fun s => ?maskeqz, writesGrAll_of (fun _ => rfl) fun s => ?masknez⟩
  case slti =>
    have himm : (simm12 i12).toInt = i12.toInt := BitVec.toInt_signExtend_of_le (by decide)
    rw [← himm]
    exact writesGrAll_ofBool fun _ => rfl
  case sltui =>
    rw [← simm12_toNat]
    exact writesGrAll_ofBool fun _ => rfl
  case maskeqz => simp only [ud_eq_zero_iff]
  case masknez => simp only [ud_eq_zero_iff, ne_eq, ite_not]

/-- Settles O10: every operation works bit by bit, on an immediate extended with zeros; a write to r0 is discarded. -/
theorem logicResults : Obligations.LogicResults := by
  intro rd rj rk i12
  refine ⟨?_, ?_, ?_, ?_, ?_, ?_, ?_, ?_, ?_, goesTo_skip fun _ _ => rfl⟩
  all_goals
    refine writesGrSomeAll_of _ (fun _ => rfl) fun s i hi => ?_
    simp only [BitVec.getLsbD_and, BitVec.getLsbD_or, BitVec.getLsbD_xor, BitVec.getLsbD_not, uimm12_getLsbD hi, hi,
      decide_true, Bool.true_and]

/-- Settles O11: each product is exact in twice the width, and a half of it is a field. -/
theorem multiplyResults : Obligations.MultiplyResults := by
  intro rd rj rk
  refine ⟨writesGrAll_wordOf (fun _ => rfl) fun s => ?mulW, writesGrAll_wordOf (fun _ => rfl) fun s => ?mulhW,
    writesGrAll_wordOf (fun _ => rfl) fun s => ?mulhWu, writesGr64_of (fun _ => rfl) fun s => ?mulD,
    writesGr64_of (fun _ => rfl) fun s => ?mulhD, writesGr64_of (fun _ => rfl) fun s => ?mulhDu,
    writesGr64_of (fun _ => rfl) fun s => ?mulwDW, writesGr64_of (fun _ => rfl) fun s => ?mulwDWu⟩
  case mulW => rw [BitVec.ofInt_mul, ofInt_sw, ofInt_sw]
  case mulhW => rw [mulSW_eq, extractLsb'_ofInt (by decide), sw_eq, sw_eq]
  case mulhWu => rw [mulUW_eq, extractLsb'_ofInt (by decide), uw_eq, uw_eq]; rfl
  case mulD => rw [dwordOf, BitVec.ofInt_mul, ofInt_sd, ofInt_sd]
  case mulhD => rw [mulSD_eq, extractLsb'_ofInt (by decide)]; rfl
  case mulhDu => rw [mulUD_eq, extractLsb'_ofInt (by decide), ← BitVec.ofInt_natCast]; rfl
  case mulwDW => rw [mulSW_eq, sw_eq, sw_eq, dwordOf]
  case mulwDWu => rw [mulUW_eq, BitVec.ofInt_natCast, uw_eq, uw_eq]

/-- Settles O12: the model divides the two's-complement operands; whatever the divisor, it writes one register. -/
theorem divideResults : Obligations.DivideResults := by
  intro rd rj rk
  refine ⟨writesGr_divW (fun _ => rfl) fun s => ?divW, writesGr_divW (fun _ => rfl) fun s => ?modW,
    writesGr_divW (fun _ => rfl) fun s => ?divWu, writesGr_divW (fun _ => rfl) fun s => ?modWu,
    writesGr_divD (fun _ => rfl) fun s => ?divD, writesGr_divD (fun _ => rfl) fun s => ?modD,
    writesGr_divD (fun _ => rfl) fun s => ofNat_div _ _, writesGr_divD (fun _ => rfl) fun s => ofNat_mod _ _,
    writesGrSome_divW fun _ => rfl, writesGrSome_divW fun _ => rfl, writesGrSome_divW fun _ => rfl,
    writesGrSome_divW fun _ => rfl, writesGrSome_divD fun _ => rfl, writesGrSome_divD fun _ => rfl,
    writesGrSome_divD fun _ => rfl, writesGrSome_divD fun _ => rfl⟩
  case divW => rw [sw_eq, sw_eq, ofInt_tdiv]
  case modW => rw [sw_eq, sw_eq, ofInt_tmod]
  case divWu => rw [uw_eq, uw_eq, BitVec.ofInt_natCast, ofNat_div]
  case modWu => rw [uw_eq, uw_eq, BitVec.ofInt_natCast, ofNat_mod]
  case divD => exact ofInt_tdiv _ _
  case modD => exact ofInt_tmod _ _

end Sys2Proof.Machine
end

section
/-!
Shifts and bit manipulation (spec/41_int_shift_bit.md): the shifts on the integers their operands stand for, the source
bit of each bit of a result, runs of equal bits, and the shapes of a result stated bit by bit.
-/

namespace Sys2Proof.Machine

/-! ## Shifts and rotates (R450) -/

section
variable {w : Nat}

theorem ofNat_mul_two_pow (x : BitVec w) (k : Nat) : BitVec.ofNat w (x.toNat * 2 ^ k) = x <<< k :=
  BitVec.eq_of_toNat_eq (by rw [BitVec.toNat_ofNat, BitVec.toNat_shiftLeft, Nat.shiftLeft_eq])

theorem ofNat_div_two_pow (x : BitVec w) (k : Nat) : BitVec.ofNat w (x.toNat / 2 ^ k) = x >>> k := by
  rw [← Nat.shiftRight_eq_div_pow, ← BitVec.toNat_ushiftRight, BitVec.ofNat_toNat, BitVec.setWidth_eq]

theorem ofInt_div_two_pow (x : BitVec w) (k : Nat) : BitVec.ofInt w (x.toInt / 2 ^ k) = x.sshiftRight k := by
  rw [BitVec.sshiftRight, Int.shiftRight_eq_div_pow]; norm_cast

theorem ofNat_rotated (x : BitVec w) {k : Nat} (hk : k < w) :
    BitVec.ofNat w (rotated w x.toNat k) = x.rotateRight k := by
  have hmod : BitVec.ofNat w (x.toNat * 2 ^ (w - k) % 2 ^ w) = x <<< (w - k) := by
    rw [← ofNat_mul_two_pow]; exact BitVec.eq_of_toNat_eq (by simp only [BitVec.toNat_ofNat, Nat.mod_mod])
  rw [BitVec.rotateRight_def, Nat.mod_eq_of_lt hk, rotated, BitVec.ofNat_or, ofNat_div_two_pow, hmod]

end

theorem getSa5_eq (s : State) (r : Reg) : s.getSa5 r = s.ud r % 32 := by
  rw [State.getSa5, BitVec.extractLsb'_toNat, Nat.shiftRight_zero]; rfl

theorem getSa6_eq (s : State) (r : Reg) : s.getSa6 r = s.ud r % 64 := by
  rw [State.getSa6, BitVec.extractLsb'_toNat, Nat.shiftRight_zero]; rfl

theorem getSa5_lt (s : State) (r : Reg) : s.getSa5 r < 32 := BitVec.isLt _

theorem getSa6_lt (s : State) (r : Reg) : s.getSa6 r < 64 := BitVec.isLt _

/-! ## Runs of equal bits (R469-R476) -/

/-- `k` is how many of `f 0`, …, `f (n - 1)` equal `b` before the first that does not. -/
structure RunLength (f : Nat → Bool) (b : Bool) (n k : Nat) : Prop where
  le : k ≤ n
  run : ∀ j < k, f j = b
  stop : k < n → f k = !b

section
variable {f : Nat → Bool} {b : Bool} {n k : Nat}

theorem RunLength.none (f : Nat → Bool) (b : Bool) : RunLength f b 0 0 := ⟨le_rfl, by simp, by simp⟩

theorem RunLength.ends (h : f 0 ≠ b) : RunLength f b n 0 := ⟨n.zero_le, by simp, fun _ => Bool.eq_not.mpr h⟩

theorem RunLength.cons (h0 : f 0 = b) (h : RunLength (fun j => f (j + 1)) b n k) : RunLength f b (n + 1) (k + 1) where
  le := Nat.succ_le_succ h.le
  run
    | 0, _ => h0
    | j + 1, hj => h.run j (Nat.lt_of_succ_lt_succ hj)
  stop hk := h.stop (Nat.lt_of_succ_lt_succ hk)

end

section
variable {w : Nat} (b : Bool) (y : BitVec w)

theorem leading_runLength (n : Nat) : RunLength (fun j => y.getLsbD (n - 1 - j)) b n (leading b y n) := by
  induction n with
  | zero => exact .none _ _
  | succ n ih =>
    rw [leading]
    split
    case isTrue h =>
      refine .cons h ?_
      simpa only [Nat.add_sub_cancel, Nat.sub_sub, Nat.add_comm] using ih
    case isFalse h => exact .ends h

theorem trailing_runLength (n i : Nat) : RunLength (fun j => y.getLsbD (i + j)) b n (trailing b y n i) := by
  induction n generalizing i with
  | zero => exact .none _ _
  | succ n ih =>
    rw [trailing]
    split
    case isTrue h =>
      refine .cons h ?_
      simpa only [Nat.add_assoc, Nat.add_comm 1] using ih (i + 1)
    case isFalse h => exact .ends h

variable {b y} {x : Word}

/-- The run of the operand is that of the low bits of its register. -/
theorem RunLength.isRun {lead : Bool} {k : Nat} (hy : ∀ i < w, y.getLsbD i = x.getLsbD i)
    (h : RunLength (fun j => y.getLsbD (if lead then w - 1 - j else j)) b w k) :
    IsRun w b lead x (BitVec.ofNat 64 k) := by
  have hlt {j : Nat} (hj : j < w) : (if lead then w - 1 - j else j) < w := by split <;> omega
  refine ⟨k, h.le, rfl, fun j hj => ?_, fun hk => ?_⟩
  · rw [← hy _ (hlt (hj.trans_le h.le))]; exact h.run j hj
  · rw [← hy _ (hlt hk)]; exact h.stop hk

theorem isRun_countLeading (b : Bool) (hy : ∀ i < w, y.getLsbD i = x.getLsbD i) :
    IsRun w b true x (countLeading b y) :=
  RunLength.isRun hy (leading_runLength b y w)

theorem isRun_countTrailing (b : Bool) (hy : ∀ i < w, y.getLsbD i = x.getLsbD i) :
    IsRun w b false x (countTrailing b y) :=
  RunLength.isRun hy (by simpa [countTrailing] using trailing_runLength b y w 0)

end

/-! ## Source bits (R477-R492) -/

theorem getGrW_getLsbD {s : State} {r : Reg} {i : Nat} (hi : i < 32) :
    (s.getGrW r).getLsbD i = (s.getGr r).getLsbD i := by
  rw [State.getGrW, low32, BitVec.getLsbD_setWidth, decide_eq_true hi, Bool.true_and]

/-- Below its width, a field is its source from `lo` on. -/
theorem field_getLsbD {w lo n i : Nat} (x : BitVec w) (hi : i < n) :
    (x.extractLsb' lo n).getLsbD i = x.getLsbD (lo + i) := by
  rw [BitVec.getLsbD_extractLsb', decide_eq_true hi, Bool.true_and]

section
variable {w i : Nat}

/-- One step of `bitrev`: bit `j` of `x` is put in place `w - 1 - j`. -/
theorem or_twoPow_getLsbD (c : Bool) (acc : BitVec w) (j : Nat) (hi : i < w) :
    (if c then acc ||| BitVec.twoPow w j else acc).getLsbD i = (acc.getLsbD i || (c && decide (j = i))) := by
  cases c
  · simp
  · simp [hi, eq_comm]

/-- The first `n` steps of `bitrev` place the low `n` bits of `x`. -/
theorem bitrev_steps_getLsbD (x : BitVec w) (hi : i < w) (n : Nat) (hn : n ≤ w) :
    ((List.range n).foldl (fun acc j => if x.getLsbD j then acc ||| BitVec.twoPow w (w - 1 - j) else acc) 0#w).getLsbD
      i = (decide (w - 1 - i < n) && x.getLsbD (w - 1 - i)) := by
  induction n with
  | zero => simp
  | succ n ih =>
    rw [List.range_succ, List.foldl_concat, or_twoPow_getLsbD _ _ _ hi, ih (by omega)]
    by_cases hlast : w - 1 - i = n
    · simp [hlast, show w - 1 - n = i by omega]
    · rw [decide_eq_false (show w - 1 - n ≠ i by omega), Bool.and_false, Bool.or_false]
      congr 2; exact propext (by omega)

theorem bitrev_getLsbD (x : BitVec w) (hi : i < w) : (bitrev x).getLsbD i = x.getLsbD (w - 1 - i) := by
  rw [bitrev, bitrev_steps_getLsbD x hi w le_rfl, decide_eq_true (by omega), Bool.true_and]

theorem bstrins_getLsbD (d x : BitVec w) {msb lsb : Nat} (hi : i < w) : (bstrins d x msb lsb).getLsbD i =
    if lsb ≤ i ∧ i ≤ msb then x.getLsbD (i - lsb) else d.getLsbD i := by
  rw [bstrins, putBits_get _ _ _ _ _ hi]
  refine ite_congr (propext (by omega)) (fun h => ?_) fun _ => rfl
  rw [BitVec.getLsbD_setWidth, decide_eq_true (by omega), Bool.true_and]

theorem bstrpick_getLsbD (x : BitVec w) {msb lsb : Nat} (h : lsb ≤ msb) (hi : i < w) :
    (bstrpick x msb lsb).getLsbD i = (decide (i ≤ msb - lsb) && x.getLsbD (i + lsb)) := by
  rw [bstrpick, BitVec.getLsbD_setWidth, decide_eq_true hi, Bool.true_and, BitVec.getLsbD_extractLsb', Nat.add_comm lsb]
  congr 2; exact propext (by omega)

theorem revb16_getLsbD (x : BitVec 16) (hi : i < 16) : (revb16 x).getLsbD i = x.getLsbD ((i + 8) % 16) := by
  rw [revb16, BitVec.getLsbD_append]
  split
  all_goals rw [field_getLsbD x (by omega)]; congr 1; omega

theorem revb32_getLsbD (x : BitVec 32) (hi : i < 32) : (revb32 x).getLsbD i = x.getLsbD (24 - 8 * (i / 8) + i % 8) := by
  rw [revb32, BitVec.getLsbD_append]
  split
  all_goals rw [revb16_getLsbD _ (by omega), field_getLsbD x (by omega)]; congr 1; omega

theorem revb64_getLsbD (x : Word) (hi : i < 64) : (revb64 x).getLsbD i = x.getLsbD (56 - 8 * (i / 8) + i % 8) := by
  rw [revb64, BitVec.getLsbD_append]
  split
  all_goals rw [revb32_getLsbD _ (by omega), field_getLsbD x (by omega)]; congr 1; omega

theorem revh32_getLsbD (x : BitVec 32) (hi : i < 32) : (revh32 x).getLsbD i = x.getLsbD ((i + 16) % 32) := by
  rw [revh32, BitVec.getLsbD_append]
  split
  all_goals rw [field_getLsbD x (by omega)]; congr 1; omega

/-- Each byte stays in place with its bits in reverse. -/
theorem mapBytes32_bitrev_getLsbD (x : BitVec 32) (hi : i < 32) :
    (mapBytes32 bitrev x).getLsbD i = x.getLsbD (8 * (i / 8) + 7 - i % 8) := by
  simp only [mapBytes32, BitVec.getLsbD_append]
  split_ifs
  all_goals rw [bitrev_getLsbD _ (by omega), field_getLsbD x (by omega)]; congr 1; omega

end

/-! ## Shapes of a result -/

theorem bitsFrom_sext32 {x : BitVec 32} {f : Nat → Bool} (h : ∀ i < 32, x.getLsbD i = f i) :
    BitsFrom 32 (sext32 x) f := by
  refine ⟨fun i hi => ?_, fun i hi hi64 => ?_⟩
  · rw [sext32, BitVec.getLsbD_signExtend, if_pos hi, h i hi, decide_eq_true (by omega), Bool.true_and]
  · rw [sext32, BitVec.getLsbD_signExtend, BitVec.getLsbD_signExtend, if_neg hi.not_gt, if_pos (by decide),
      decide_eq_true hi64, BitVec.msb_eq_getLsbD_last]; rfl

theorem bitsFrom_all {x : Word} {f : Nat → Bool} (h : ∀ i < 64, x.getLsbD i = f i) : BitsFrom 64 x f :=
  ⟨h, fun _ hi hi64 => absurd hi64 hi.not_gt⟩

section
variable {i : Instr} {P : State → Prop} {rd : Reg} {f : State → Nat → Bool}

/-- A 32-bit result stated bit by bit, sign-extended. -/
theorem writesBitsW_of {x : State → BitVec 32} (h : ∀ s, P s → exec i s = s.putGrW rd (x s))
    (hf : ∀ s, P s → ∀ j < 32, (x s).getLsbD j = f s j) : WritesGrSome i P rd fun s v => BitsFrom 32 v (f s) :=
  writesGrSome_of _ h fun s hs => bitsFrom_sext32 (hf s hs)

theorem writesBitsD_of {x : State → Word} (h : ∀ s, P s → exec i s = s.putGr rd (x s))
    (hf : ∀ s, P s → ∀ j < 64, (x s).getLsbD j = f s j) : WritesGrSome i P rd fun s v => BitsFrom 64 v (f s) :=
  writesGrSome_of x h fun s hs => bitsFrom_all (hf s hs)

theorem writesGrSome64_of {x : State → Word} {R : State → Word → Prop}
    (h : ∀ s, exec i s = s.la64Only (s.putGr rd (x s))) (hR : ∀ s, R s (x s)) : WritesGrSome64 i rd R :=
  ⟨writesGrSome_of x (fun s hs => (h s).trans (la64Only_of hs _)) fun s _ => hR s,
    trapsIne_of fun s hs => (h s).trans (la64Only_not hs _)⟩

theorem writesBits64_of {x : State → Word} (h : ∀ s, exec i s = s.la64Only (s.putGr rd (x s)))
    (hf : ∀ s, ∀ j < 64, (x s).getLsbD j = f s j) : WritesGrSome64 i rd fun s v => BitsFrom 64 v (f s) :=
  writesGrSome64_of h fun s => bitsFrom_all (hf s)

/-- A free value: nothing is said of it. -/
theorem writesGrSome_free (h : ∀ s, P s → exec i s = s.putGrFree rd) : WritesGrSome i P rd fun _ _ => True :=
  fun s hs => by
    obtain ⟨t, v, ht, hrest⟩ := putGrFree_spec s rd
    exact ⟨t, v, (h s hs).trans ht, trivial, hrest⟩

end

end Sys2Proof.Machine
end

section
/-!
The results of the shifts and the bit manipulation instructions (R451-R492).
-/

namespace Sys2Proof.Machine

/-- Settles O13: each shift of words is a multiplication, a floor division or a rotation of the operand's integer. -/
theorem wordShiftResults : Obligations.WordShiftResults := by
  intro rd rj rk ui5
  simp only [← getSa5_eq, uw_eq, sw_eq]
  refine ⟨writesGrAll_wordOf (fun _ => rfl) fun s => ?sllW, writesGrAll_wordOf (fun _ => rfl) fun s => ?srlW,
    writesGrAll_wordOf (fun _ => rfl) fun s => ?sraW, writesGrAll_wordOf (fun _ => rfl) fun s => ?rotrW,
    writesGrAll_wordOf (fun _ => rfl) fun s => ?slliW, writesGrAll_wordOf (fun _ => rfl) fun s => ?srliW,
    writesGrAll_wordOf (fun _ => rfl) fun s => ?sraiW, writesGrAll_wordOf (fun _ => rfl) fun s => ?rotriW⟩
  case sllW | slliW => rw [BitVec.ofInt_natCast, ofNat_mul_two_pow]
  case srlW | srliW => rw [BitVec.ofInt_natCast, ofNat_div_two_pow]
  case sraW | sraiW => rw [ofInt_div_two_pow]
  case rotrW => rw [BitVec.ofInt_natCast, ofNat_rotated _ (getSa5_lt s rk)]
  case rotriW => rw [BitVec.ofInt_natCast, ofNat_rotated _ ui5.isLt]

/-- Settles O14: as for words, on the whole register. -/
theorem doublewordShiftResults : Obligations.DoublewordShiftResults := by
  intro rd rj rk ui6
  simp only [← getSa6_eq]
  refine ⟨writesGr64_of (fun _ => rfl) fun s => ?sllD, writesGr64_of (fun _ => rfl) fun s => ?srlD,
    writesGr64_of (fun _ => rfl) fun s => ?sraD, writesGr64_of (fun _ => rfl) fun s => ?rotrD,
    writesGr64_of (fun _ => rfl) fun s => ?slliD, writesGr64_of (fun _ => rfl) fun s => ?srliD,
    writesGr64_of (fun _ => rfl) fun s => ?sraiD, writesGr64_of (fun _ => rfl) fun s => ?rotriD⟩
  case sllD | slliD => exact ofNat_mul_two_pow _ _
  case srlD | srliD => exact ofNat_div_two_pow _ _
  case sraD | sraiD => exact ofInt_div_two_pow _ _
  case rotrD => exact ofNat_rotated _ (getSa6_lt s rk)
  case rotriD => exact ofNat_rotated _ ui6.isLt

/-- Settles O15: the counts are the run lengths that `leading` and `trailing` find by their recursion. -/
theorem extendAndCountResults : Obligations.ExtendAndCountResults := by
  intro rd rj
  have hword (s : State) : ∀ i < 32, (s.getGrW rj).getLsbD i = (s.getGr rj).getLsbD i := fun _ => getGrW_getLsbD
  exact ⟨writesGrAll_of (fun _ => rfl) fun s => congrArg _ (BitVec.toInt_setWidth _).symm,
    writesGrAll_of (fun _ => rfl) fun s => congrArg _ (BitVec.toInt_setWidth _).symm,
    writesGrSomeAll_of _ (fun _ => rfl) fun s => isRun_countLeading _ (hword s),
    writesGrSomeAll_of _ (fun _ => rfl) fun s => isRun_countLeading _ (hword s),
    writesGrSomeAll_of _ (fun _ => rfl) fun s => isRun_countTrailing _ (hword s),
    writesGrSomeAll_of _ (fun _ => rfl) fun s => isRun_countTrailing _ (hword s),
    writesGrSome64_of (fun _ => rfl) fun _ => isRun_countLeading _ fun _ _ => rfl,
    writesGrSome64_of (fun _ => rfl) fun _ => isRun_countLeading _ fun _ _ => rfl,
    writesGrSome64_of (fun _ => rfl) fun _ => isRun_countTrailing _ fun _ _ => rfl,
    writesGrSome64_of (fun _ => rfl) fun _ => isRun_countTrailing _ fun _ _ => rfl⟩

/-- Settles O16: the source bit of each form is that of the half, word or byte it permutes, shifted to its place. -/
theorem reorderResults : Obligations.ReorderResults := by
  intro rd rj rk sa2 sa3
  refine ⟨writesBitsW_of (fun _ _ => rfl) fun s _ i hi => ?bytepickW,
    writesBits64_of (fun _ => rfl) fun s i hi => ?bytepickD, writesBitsW_of (fun _ _ => rfl) fun s _ i hi => ?revb2h,
    writesBits64_of (fun _ => rfl) fun s i hi => ?revb4h, writesBits64_of (fun _ => rfl) fun s i hi => ?revb2w,
    writesBits64_of (fun _ => rfl) fun s i hi => ?revbD, writesBits64_of (fun _ => rfl) fun s i hi => ?revh2w,
    writesBits64_of (fun _ => rfl) fun s i hi => ?revhD, writesBitsW_of (fun _ _ => rfl) fun s _ i hi => ?bitrev4b,
    writesBits64_of (fun _ => rfl) fun s i hi => ?bitrev8b, writesBitsW_of (fun _ _ => rfl) fun s _ i hi => ?bitrevW,
    writesBits64_of (fun _ => rfl) fun s i hi => ?bitrevD⟩
  case bytepickW | bytepickD => rw [field_getLsbD _ hi]; congr 1; omega
  case revb2h | revb4h =>
    simp only [BitVec.getLsbD_append]
    split_ifs
    all_goals rw [revb16_getLsbD _ (by omega), field_getLsbD _ (by omega)]; congr 1; omega
  case revb2w | revh2w | revhD | bitrev8b =>
    rw [BitVec.getLsbD_append]
    split
    all_goals
      simp (disch := omega) only [revb32_getLsbD, revh32_getLsbD, mapBytes32_bitrev_getLsbD, field_getLsbD]
      congr 1; omega
  case revbD => exact revb64_getLsbD _ hi
  case bitrev4b => rw [mapBytes32_bitrev_getLsbD _ hi, getGrW_getLsbD (by omega)]
  case bitrevW => rw [bitrev_getLsbD _ hi, getGrW_getLsbD (by omega)]
  case bitrevD => exact bitrev_getLsbD _ hi

/-- Settles O17: the model tests msb < lsb first; otherwise a field of the operand is moved (`bstrins_getLsbD`,
`bstrpick_getLsbD`), within the low word for the W forms. -/
theorem bitStringResults : Obligations.BitStringResults := by
  intro rd rj lsbw msbw lsbd msbd
  refine ⟨writesBitsW_of (fun s h => if_neg (not_lt.mpr h)) fun s h i hi => ?bstrinsW,
    writesGrSome_free fun s h => if_pos h,
    writesBitsD_of (fun s ⟨hla, h⟩ => (la64Only_of hla _).trans (if_neg (not_lt.mpr h)))
      fun s _ i hi => bstrins_getLsbD _ _ hi,
    writesGrSome_free fun s ⟨hla, h⟩ => (la64Only_of hla _).trans (if_pos h),
    writesBitsW_of (fun s h => if_neg (not_lt.mpr h)) fun s h i hi => ?bstrpickW,
    writesGrSome_free fun s h => if_pos h,
    writesBitsD_of (fun s ⟨hla, h⟩ => (la64Only_of hla _).trans (if_neg (not_lt.mpr h)))
      fun s ⟨_, h⟩ i hi => bstrpick_getLsbD _ h hi,
    writesGrSome_free fun s ⟨hla, h⟩ => (la64Only_of hla _).trans (if_pos h)⟩
  case bstrinsW => rw [bstrins_getLsbD _ _ hi, getGrW_getLsbD hi, getGrW_getLsbD (by omega)]
  case bstrpickW =>
    rw [bstrpick_getLsbD _ h hi]
    by_cases hin : i ≤ msbw.toNat - lsbw.toNat
    · rw [getGrW_getLsbD (by omega)]
    · rw [decide_eq_false hin, Bool.false_and, Bool.false_and]

end Sys2Proof.Machine
end

section
/-!
Branches and jumps (spec/42_branch.md R500-R511): the comparisons as those of the integers, the target of a taken
branch, and the one state that BL and JIRL end in.
-/

namespace Sys2Proof.Machine

/-! ## Comparisons of whole registers -/

theorem getGr_beq_iff (s : State) (q r : Reg) : (s.getGr q == s.getGr r) = true ↔ s.ud q = s.ud r :=
  beq_iff_eq.trans BitVec.toNat_inj.symm

theorem getGr_beq_zero_iff (s : State) (r : Reg) : (s.getGr r == 0#64) = true ↔ s.ud r = 0 :=
  beq_iff_eq.trans (ud_eq_zero_iff s r).symm

theorem getGr_slt_iff (s : State) (q r : Reg) : (s.getGr q).slt (s.getGr r) = true ↔ s.sd q < s.sd r :=
  decide_eq_true_iff

theorem getGr_ult_iff (s : State) (q r : Reg) : (s.getGr q).ult (s.getGr r) = true ↔ s.ud q < s.ud r :=
  decide_eq_true_iff

/-- The opposite branch asks for the opposite condition. -/
theorem not_eq_true_iff_of {c : Bool} {p : Prop} (h : c = true ↔ p) : (!c) = true ↔ ¬ p := by
  rw [Bool.not_eq_true', ← Bool.not_eq_true, h]

/-! ## Where a branch goes -/

/-- A branch on a Boolean that decides `p`, by an offset of `n` instructions. -/
theorem goesTo_branch_of_iff {w : Nat} {i : Instr} {c : State → Bool} {n : BitVec w} {p : State → Prop}
    [∀ s, Decidable (p s)] (hw : w + 2 ≤ 64) (h : ∀ s, exec i s = s.branch (c s) ((n ++ 0#2).signExtend 64))
    (hc : ∀ s, c s = true ↔ p s) :
    GoesTo i Always (fun s => if p s then s.pc + BitVec.ofInt 64 (n.toInt * 4) else s.pc + 4) := by
  have hgo : GoesTo i Always _ := goesTo_branch fun s _ => h s
  simpa only [scaled_eq n hw, hc] using hgo

/-- Settles O18: each form branches on a Boolean that decides its comparison of integers, or on its negation. -/
theorem conditionalBranchesGoWhereTheConditionSays : Obligations.ConditionalBranchesGoWhereTheConditionSays := by
  intro rd rj i16 offs
  have hsge (s : State) := (not_eq_true_iff_of (getGr_slt_iff s rj rd)).trans not_lt
  have huge (s : State) := (not_eq_true_iff_of (getGr_ult_iff s rj rd)).trans not_lt
  exact ⟨goesTo_branch_of_iff (by decide) (fun _ => rfl) fun s => getGr_beq_iff s rj rd,
    goesTo_branch_of_iff (by decide) (fun _ => rfl) fun s => not_eq_true_iff_of (getGr_beq_iff s rj rd),
    goesTo_branch_of_iff (by decide) (fun _ => rfl) fun s => getGr_slt_iff s rj rd,
    goesTo_branch_of_iff (by decide) (fun _ => rfl) hsge,
    goesTo_branch_of_iff (by decide) (fun _ => rfl) fun s => getGr_ult_iff s rj rd,
    goesTo_branch_of_iff (by decide) (fun _ => rfl) huge,
    goesTo_branch_of_iff (by decide) (fun _ => rfl) fun s => getGr_beq_zero_iff s rj,
    goesTo_branch_of_iff (by decide) (fun _ => rfl) fun s => not_eq_true_iff_of (getGr_beq_zero_iff s rj)⟩

/-! ## Link and go -/

/-- `OnlyGr` does not speak of the pc. -/
theorem OnlyGr.setPc {rd : Reg} {s t : State} (h : OnlyGr rd s t) (y : Word) : OnlyGr rd s (t.setPc y) :=
  { h with sys := { h.sys with }, out := { h.out with } }

/-- The link register receives the address of the next instruction, and the pc becomes the target. -/
theorem link_setPc_spec (s : State) (rd : Reg) (y : Word) :
    GrIs s ((s.setGr rd (s.link (s.pc + 4))).setPc y) rd (pcRelative s ((s.pc.toNat : Int) + 4)) ∧
      ((s.setGr rd (s.link (s.pc + 4))).setPc y).pc = s.cfg.wrap y ∧
      OnlyGr rd s ((s.setGr rd (s.link (s.pc + 4))).setPc y) := by
  have hnext : s.pc + 4 = BitVec.ofInt 64 ((s.pc.toNat : Int) + 4) := by
    rw [BitVec.ofInt_add, BitVec.ofInt_natCast, BitVec.ofNat_toNat, BitVec.setWidth_eq]; rfl
  rw [hnext, link_ofInt]
  obtain ⟨_, ⟨⟩, hgr, -, honly⟩ := putGr_spec s rd (pcRelative s ((s.pc.toNat : Int) + 4))
  exact ⟨hgr, by simp, honly.setPc y⟩

/-- Settles O19: B is a branch always taken; BL and JIRL take their target from the state before the link is written
(`link_setPc_spec`). -/
theorem jumpsLinkAndGo : Obligations.JumpsLinkAndGo := by
  intro rd rj i16 offs
  simp only [← scaled_eq offs (by decide), ← scaled_eq i16 (by decide)]
  exact ⟨goesTo_branch (c := fun _ => true) fun _ _ => rfl, fun s => ⟨_, rfl, link_setPc_spec s _ _⟩,
    fun s => ⟨_, rfl, link_setPc_spec s _ _⟩⟩

end Sys2Proof.Machine
end

section
/-!
Loads and stores (spec/43_load_store.md R520-R546): the shapes of a form whose access reaches memory, and the integer
forms as such shapes.
-/

namespace Sys2Proof.Machine

/-! ## Shapes of a load and a store -/

section
variable {i : Instr} {P : State → Prop} {acc : State → Access} {rd : Reg} {n : Nat} {v : State → Word}

/-- A form that is a sign-extending load of `n` bytes where `P` holds. -/
theorem loadsGr_signed (h : ∀ s, P s → exec i s = s.loadS (acc s) rd) (hsize : ∀ s, (acc s).size = n)
    (hn : n = 1 ∨ n = 2 ∨ n = 4 ∨ n = 8) : LoadsGr i P acc rd (signedBytes n) := fun s as mat hp hreach => by
  rw [h s hp, ← hsize s]
  exact loadS_spec hreach (by rwa [hsize s]) rd

/-- A form that is a zero-extending load where `P` holds. -/
theorem loadsGr_unsigned (h : ∀ s, P s → exec i s = s.loadU (acc s) rd) : LoadsGr i P acc rd (BitVec.ofNat 64) :=
  fun s as mat hp hreach => by
    rw [h s hp]
    exact loadU_spec hreach rd

/-- A form that is a store where `P` holds. -/
theorem storesMem_of (h : ∀ s, P s → exec i s = s.store (acc s) (v s)) : StoresMem i P acc v :=
  fun s as mat hp hmem hreach => by
    rw [h s hp]
    exact store_spec hmem hreach (v s)

end

/-! ## The integer forms: LD, LDX, LDPTR, ST, STX, STPTR -/

section
variable {i : Instr} {va : State → Word} {rd : Reg} {n : Nat}

/-- A sign-extending load of LA32 and LA64 (R520). -/
theorem loadsGr_ld (hn : n = 1 ∨ n = 2 ∨ n = 4 ∨ n = 8 := by decide)
    (h : ∀ s, exec i s = s.loadS (s.ordinary .load (va s) n) rd := by exact fun _ => rfl) :
    LoadsGr i Always (fun s => s.ordinary .load (va s) n) rd (signedBytes n) :=
  loadsGr_signed (fun s _ => h s) (fun _ => rfl) hn

/-- A sign-extending load of LA64. -/
theorem loadsGr_ld64 (hn : n = 1 ∨ n = 2 ∨ n = 4 ∨ n = 8 := by decide)
    (h : ∀ s, exec i s = s.la64Only (s.loadS (s.ordinary .load (va s) n) rd) := by exact fun _ => rfl) :
    LoadsGr i InLa64 (fun s => s.ordinary .load (va s) n) rd (signedBytes n) :=
  loadsGr_signed (fun s hla => (h s).trans (la64Only_of hla _)) (fun _ => rfl) hn

/-- A zero-extending load of LA32 and LA64. -/
theorem loadsGr_ldu (h : ∀ s, exec i s = s.loadU (s.ordinary .load (va s) n) rd := by exact fun _ => rfl) :
    LoadsGr i Always (fun s => s.ordinary .load (va s) n) rd (BitVec.ofNat 64) := loadsGr_unsigned fun s _ => h s

/-- A zero-extending load of LA64. -/
theorem loadsGr_ldu64
    (h : ∀ s, exec i s = s.la64Only (s.loadU (s.ordinary .load (va s) n) rd) := by exact fun _ => rfl) :
    LoadsGr i InLa64 (fun s => s.ordinary .load (va s) n) rd (BitVec.ofNat 64) :=
  loadsGr_unsigned fun s hla => (h s).trans (la64Only_of hla _)

/-- A store of LA32 and LA64. -/
theorem storesMem_st
    (h : ∀ s, exec i s = s.store (s.ordinary .store (va s) n) (s.getGr rd) := by exact fun _ => rfl) :
    StoresMem i Always (fun s => s.ordinary .store (va s) n) (fun s => s.getGr rd) := storesMem_of fun s _ => h s

/-- A store of LA64. -/
theorem storesMem_st64
    (h : ∀ s, exec i s = s.la64Only (s.store (s.ordinary .store (va s) n) (s.getGr rd)) := by exact fun _ => rfl) :
    StoresMem i InLa64 (fun s => s.ordinary .store (va s) n) (fun s => s.getGr rd) :=
  storesMem_of fun s hla => (h s).trans (la64Only_of hla _)

end

/-- Settles O20: every form is one of the four shapes of an integer load. -/
theorem loadsDeliverTheBytesTheyReach : Obligations.LoadsDeliverTheBytesTheyReach := by
  intro rd rj rk i12 i14
  rw [← simm14_eq]  -- the offset as the meanings of LDPTR write it
  exact ⟨
    -- LD
    loadsGr_ld, loadsGr_ld, loadsGr_ld, loadsGr_ld64, loadsGr_ldu, loadsGr_ldu, loadsGr_ldu64,
    -- LDX
    loadsGr_ld64, loadsGr_ld64, loadsGr_ld64, loadsGr_ld64, loadsGr_ldu64, loadsGr_ldu64, loadsGr_ldu64,
    -- LDPTR
    loadsGr_ld64, loadsGr_ld64⟩

/-- Settles O21: every form is one of the two shapes of an integer store. -/
theorem storesPutTheirBytesAndNothingElse : Obligations.StoresPutTheirBytesAndNothingElse := by
  intro rd rj rk i12 i14
  rw [← simm14_eq]  -- the offset as the meanings of STPTR write it
  exact ⟨
    -- ST
    storesMem_st, storesMem_st, storesMem_st, storesMem_st64,
    -- STX
    storesMem_st64, storesMem_st64, storesMem_st64, storesMem_st64,
    -- STPTR
    storesMem_st64, storesMem_st64⟩

end Sys2Proof.Machine
end

section
/-!
The bound-check forms (spec/43_load_store.md R550-R566) and ASRT (spec/45_crc_misc.md R615, R616): the bound as a
comparison of integers, the access where it holds, the exception where it fails.
-/

namespace Sys2Proof.Machine

/-! ## The bound -/

theorem boundGt_iff {s : State} (hsigned : s.cfg.boundCmpSigned = true) (rj rk : Reg) :
    s.boundGt rj rk = true ↔ s.sd rk < s.sd rj := by
  rw [State.boundGt, if_pos hsigned, getGr_slt_iff]

theorem boundLe_iff {s : State} (hsigned : s.cfg.boundCmpSigned = true) (rj rk : Reg) :
    s.boundLe rj rk = true ↔ s.sd rj ≤ s.sd rk :=
  (not_eq_true_iff_of (boundGt_iff hsigned rj rk)).trans not_lt

/-- Where the bound is a signed comparison, the test `pass` answers `b` where `p` holds (D48). -/
def BoundAnswers (pass : State → Bool) (p : State → Prop) (b : Bool) : Prop :=
  ∀ s, s.cfg.boundCmpSigned = true → p s → pass s = b

section
variable (rj rk : Reg)

theorem boundGt_passes : BoundAnswers (fun s => s.boundGt rj rk) (fun s => s.sd rk < s.sd rj) true :=
  fun _ hsigned h => (boundGt_iff hsigned rj rk).2 h

theorem boundGt_fails : BoundAnswers (fun s => s.boundGt rj rk) (fun s => s.sd rj ≤ s.sd rk) false :=
  fun _ hsigned h => Bool.eq_false_iff.2 (mt (boundGt_iff hsigned rj rk).1 (not_lt.2 h))

theorem boundLe_passes : BoundAnswers (fun s => s.boundLe rj rk) (fun s => s.sd rj ≤ s.sd rk) true :=
  fun _ hsigned h => (boundLe_iff hsigned rj rk).2 h

theorem boundLe_fails : BoundAnswers (fun s => s.boundLe rj rk) (fun s => s.sd rk < s.sd rj) false :=
  fun _ hsigned h => Bool.eq_false_iff.2 (mt (boundLe_iff hsigned rj rk).1 (not_le.2 h))

end

/-! ## Where the bound holds -/

/-- A bound test that passes leaves an aligned access. -/
theorem bounded_of_pass {pass : Bool} (h : pass = true) (s : State) (k : AccessKind) (va : Word) (n : Nat) :
    s.bounded k va n pass = s.aligned k va n := by rw [h]; rfl

section
variable {i : Instr} {rd rj : Reg} {n : Nat} {pass : State → Bool} {p : State → Prop}

/-- A bound-checked load whose bound holds. -/
theorem BoundAnswers.loadsGr (hb : BoundAnswers pass p true) (hn : n = 1 ∨ n = 2 ∨ n = 4 ∨ n = 8 := by decide)
    (h : ∀ s, exec i s = s.la64Only (s.loadS (s.bounded .load (s.getGr rj) n (pass s)) rd) := by
      exact fun _ => rfl) :
    LoadsGr i (fun s => s.cfg.la64 = true ∧ s.cfg.boundCmpSigned = true ∧ p s)
      (fun s => s.aligned .load (s.getGr rj) n) rd (signedBytes n) :=
  loadsGr_signed (fun s ⟨hla, hsigned, hp⟩ => by
    rw [h, la64Only_of hla, bounded_of_pass (hb s hsigned hp)]) (fun _ => rfl) hn

/-- A bound-checked store whose bound holds. -/
theorem BoundAnswers.storesMem (hb : BoundAnswers pass p true)
    (h : ∀ s, exec i s = s.la64Only (s.store (s.bounded .store (s.getGr rj) n (pass s)) (s.getGr rd)) := by
      exact fun _ => rfl) :
    StoresMem i (fun s => s.cfg.la64 = true ∧ s.cfg.boundCmpSigned = true ∧ p s)
      (fun s => s.aligned .store (s.getGr rj) n) (fun s => s.getGr rd) :=
  storesMem_of fun s ⟨hla, hsigned, hp⟩ => by
    rw [h, la64Only_of hla, bounded_of_pass (hb s hsigned hp)]

end

/-- Settles O22: a bound that holds leaves the aligned load or store. -/
theorem boundCheckedAccessesThatPass : Obligations.BoundCheckedAccessesThatPass := by
  intro rd rj rk
  have hgt := boundGt_passes rj rk
  have hle := boundLe_passes rj rk
  exact ⟨hgt.loadsGr, hgt.loadsGr, hgt.loadsGr, hgt.loadsGr, hle.loadsGr, hle.loadsGr, hle.loadsGr, hle.loadsGr,
    hgt.storesMem, hgt.storesMem, hgt.storesMem, hgt.storesMem,
    hle.storesMem, hle.storesMem, hle.storesMem, hle.storesMem⟩

/-! ## Where the bound fails -/

/-- The bound test comes after alignment and legality and before translation (R250, R834). -/
theorem accessAddrs_outOfBound {s : State} {a : Access}
    (hsize : a.size = 1 ∨ a.size = 2 ∨ a.size = 4 ∨ a.size = 8) (halign : a.va.toNat % a.size = 0)
    (hlegal : s.addressError a.kind a.va = false) (hbound : a.outOfBound = true) :
    s.accessAddrs a = .trap (.bce a.va) := by
  simp [State.accessAddrs, misaligned_of_aligned halign, firstPart_of_aligned hsize halign, hlegal, hbound]

/-- A form whose access comes first takes BCE where its bound fails. -/
theorem BoundAnswers.takesBce {i : Instr} {k : AccessKind} {n : Nat} {rj : Reg} {pass : State → Bool}
    {p : State → Prop} (hb : BoundAnswers pass p false) (hn : n = 1 ∨ n = 2 ∨ n = 4 ∨ n = 8 := by decide)
    (h : AccessFirst i InLa64 (fun s => s.bounded k (s.getGr rj) n (pass s)) := by exact .la64) :
    MemTraps i (fun s => s.bounded k (s.getGr rj) n (pass s))
      (fun s => s.cfg.la64 = true ∧ s.cfg.boundCmpSigned = true ∧ p s ∧
        (s.watchMem (s.bounded k (s.getGr rj) n (pass s))).2 = false ∧ (s.vaddr (s.getGr rj)).toNat % n = 0 ∧
        s.addressError k (s.vaddr (s.getGr rj)) = false) 0xA#6 0#9 (fun s => s.vaddr (s.getGr rj)) :=
  fun s ⟨hla, hsigned, hp, hwatch, halign, hlegal⟩ => by
    obtain ⟨cont, hexec⟩ := h s hla
    have hbound : (!pass s) = true := congrArg (!·) (hb s hsigned hp)
    have htrap : s.accessAddrs (s.bounded k (s.getGr rj) n (pass s)) = .trap (.bce (s.vaddr (s.getGr rj))) :=
      accessAddrs_outOfBound hn halign hlegal hbound
    obtain ⟨t, hraise, hentry, hbadi, hbadv, hfcsr0, hmmu, hwatch'⟩ :=
      raise_spec (s := s) (s.bounded k (s.getGr rj) n (pass s)) (.bce (s.vaddr (s.getGr rj))) (fun _ h => nomatch h)
    exact ⟨t, by rw [hexec, withAddrs_trap hwatch htrap, hraise], hentry, hbadi, hbadv.trans (vaddr_vaddr s _), hfcsr0,
      hmmu, hwatch'⟩

/-- Settles O23: the sixteen accesses come first and fail their bound; ASRT is the comparison alone. -/
theorem failedBoundChecksTakeBce : Obligations.FailedBoundChecksTakeBce := by
  intro rd rj rk
  have hgt := boundGt_fails rj rk
  have hle := boundLe_fails rj rk
  have hslt (s : State) := getGr_slt_iff s rk rj
  exact ⟨
    -- LDGT, LDLE
    hgt.takesBce, hgt.takesBce, hgt.takesBce, hgt.takesBce, hle.takesBce, hle.takesBce, hle.takesBce, hle.takesBce,
    -- STGT, STLE
    hgt.takesBce, hgt.takesBce, hgt.takesBce, hgt.takesBce, hle.takesBce, hle.takesBce, hle.takesBce, hle.takesBce,
    -- ASRT
    goesTo_skip fun s ⟨hla, h⟩ => (la64Only_of hla _).trans (if_neg (mt (hslt s).1 (not_lt.2 h))),
    goesTo_skip fun s ⟨hla, h⟩ => (la64Only_of hla _).trans (if_pos ((hslt s).2 h)),
    trapsBce_of fun s ⟨hla, h⟩ => (la64Only_of hla _).trans (if_pos ((hslt s).2 h)),
    trapsBce_of fun s ⟨hla, h⟩ => (la64Only_of hla _).trans (if_neg (mt (hslt s).1 (not_lt.2 h)))⟩

end Sys2Proof.Machine
end

section
/-!
Hints, barriers and CACOP by index (R547, R548, R596, R597, R793): what the model answers with the next instruction.
-/

namespace Sys2Proof.Machine

/-- The operation type of CACOP is `code[4:3]` (R793). -/
theorem cacopType_toNat (op : BitVec 5) : (op.extractLsb' 3 2).toNat = op.toNat / 8 := by
  rw [BitVec.extractLsb'_toNat, Nat.shiftRight_eq_div_pow]
  have := op.isLt
  omega

/-- On a machine without caches, CACOP by index does nothing (log 37). -/
theorem cacop_of_not_hit {op : BitVec 5} (h : op.toNat / 8 ≠ 2) (s : State) (va : Word) : s.cacop op va = s.skip :=
  if_neg fun htype => h (by rw [← cacopType_toNat, htype]; rfl)

/-- Settles O26: each form goes on with the next instruction, PRELDX and CACOP behind their gates. -/
theorem hintsAndBarriersOnlyAdvance : Obligations.HintsAndBarriersOnlyAdvance :=
  fun _ _ _ _ _ _ _ => ⟨goesTo_skip fun _ _ => rfl, goesTo_skip fun _ hla => la64Only_of hla _, IneWhere.la64.traps,
    goesTo_skip fun _ _ => rfl, goesTo_skip fun _ _ => rfl,
    goesTo_skip fun s ⟨hplv, hop⟩ => (privileged_of hplv _).trans (cacop_of_not_hit hop s _)⟩

end Sys2Proof.Machine
end

section
/-!
Atomic read-modify-write and LL/SC (spec/44_atomic_barrier.md R570-R594, R920-R955): what a write of memory followed by
a write of a register leaves, the operations of AM* on numbers, and the reservation.
-/

namespace Sys2Proof.Machine

/-! ## Bytes stored, then a register written -/

section
variable {s t u : State} {as : List Nat} {rd : Reg} {v : Word}

/-- `OnlyMem` does not speak of the pc. -/
theorem OnlyMem.of_advance (h : OnlyMem as s u.advance) : OnlyMem as s u :=
  { h with sys := { h.sys with }, out := { h.out with } }

/-- The store changes the bytes, and what follows the register. -/
theorem OnlyMem.onlyGrMem (h : OnlyMem as s u) (h' : OnlyGr rd u t) : OnlyGrMem rd as s t where
  gr r hr := (h'.gr r hr).trans (h.gr r)
  fr r := (h'.fr r).trans (h.fr r)
  cf c := (h'.cf c).trans (h.cf c)
  fcsr := h'.fcsr.trans h.fcsr
  mem a ha := (h'.mem a).trans (h.mem a ha)
  sys := ⟨h'.sys.csr.trans h.sys.csr, h'.sys.mmu.trans h.sys.mmu, h'.sys.timer.trans h.sys.timer,
    h'.sys.ras.trans h.sys.ras, h'.sys.pm.trans h.sys.pm, h'.sys.watch.trans h.sys.watch, h'.sys.dbg.trans h.sys.dbg,
    h'.sys.tlb.trans h.sys.tlb, h'.sys.iocsr.trans h.sys.iocsr, h'.sys.llbit.trans h.sys.llbit,
    h'.sys.lladdr.trans h.sys.lladdr, h'.sys.idle.trans h.sys.idle⟩
  out := ⟨h'.out.cfg.trans h.out.cfg, h'.out.extIrq.trans h.out.extIrq,
    h'.out.merrPending.trans h.out.merrPending, h'.out.inputs.trans h.out.inputs,
    h'.out.debugCall.trans h.out.debugCall, h'.out.curInsn.trans h.out.curInsn⟩

/-- The count of free values is not spoken of. -/
theorem OnlyMem.of_draw (h : OnlyMem as s.draw.2 u) : OnlyMem as s u :=
  { h with sys := { h.sys with }, out := { h.out with } }

theorem writeBytes_onlyMem (hm : s.MemOk) (as : List Nat) (v : Word) : OnlyMem as s (s.writeBytes as v) :=
  (writeBytes_spec hm as v).2.2.of_advance

/-- What was stored is still there after a register was written. -/
theorem StoredAt.of_onlyGr (h : StoredAt as v u) (h' : OnlyGr rd u t) : StoredAt as v t := fun k hk => by
  rw [h'.mem, h'.out.cfg, h k hk]

theorem storedAt_writeBytes (hm : s.MemOk) (hn : as.Nodup) (v : Word) : StoredAt as v (s.writeBytes as v) :=
  writeBytes_at hm hn v

/-- Bytes are stored, then a register is written. -/
theorem writeBytes_putGr_spec (hm : s.MemOk) (as : List Nat) (v : Word) (rd : Reg) (x : Word) :
    ∃ t, (s.writeBytes as v).putGr rd x = .next t ∧ GrIs s t rd x ∧ (as.Nodup → StoredAt as v t) ∧ AtNext s t ∧
      OnlyGrMem rd as s t := by
  obtain ⟨t, ht, hgr, hnext, honly⟩ := putGr_spec (s.writeBytes as v) rd x
  exact ⟨t, ht, hgr, fun hnodup => (storedAt_writeBytes hm hnodup v).of_onlyGr honly, hnext,
    (writeBytes_onlyMem hm as v).onlyGrMem honly⟩

/-- The bytes and the register receive free values (log 13). -/
theorem writeBytes_putGrFree_spec (hm : s.MemOk) (as : List Nat) (rd : Reg) :
    ∃ t, (s.draw.2.writeBytes as s.draw.1).putGrFree rd = .next t ∧ AtNext s t ∧ OnlyGrMem rd as s t := by
  obtain ⟨t, _, ht, -, hnext, honly⟩ := putGrFree_spec (s.draw.2.writeBytes as s.draw.1) rd
  exact ⟨t, ht, hnext, (writeBytes_onlyMem (s := s.draw.2) hm as _).of_draw.onlyGrMem honly⟩

/-- A store of `n` bytes sees the low `8 * n` bits of its value. -/
theorem StoredAt.congr {w : Nat} {v' : Word} (h : StoredAt as v t) (hlen : 8 * as.length = w)
    (hv : v.setWidth w = v'.setWidth w) : StoredAt as v' t := fun k hk => by
  have hbyte : v.extractLsb' (8 * k) 8 = v'.extractLsb' (8 * k) 8 := by
    rw [← BitVec.extractLsb'_setWidth_of_le (w' := w) (by omega), hv, BitVec.extractLsb'_setWidth_of_le (by omega)]
  rw [h k hk, hbyte]

end

/-! ## The operations of AM* on numbers (R920-R955) -/

/-- `f` is `F` on the unsigned numbers of its operands, modulo 2^w. -/
def Computes {w : Nat} (f : BitVec w → BitVec w → BitVec w) (F : Nat → Nat → Nat) : Prop :=
  ∀ a b, BitVec.ofNat w (F a.toNat b.toNat) = f a b

section
variable {w n : Nat}

theorem ofNat_toNat_self (a : BitVec w) : BitVec.ofNat w a.toNat = a := by rw [BitVec.ofNat_toNat, BitVec.setWidth_eq]

theorem computes_swap : Computes (w := w) (fun _ b => b) (fun _ b => b) := fun _ b => ofNat_toNat_self b

theorem computes_add : Computes (w := w) (· + ·) (fun a b => a + b) := fun a b => by
  simp only [BitVec.ofNat_add, ofNat_toNat_self]

theorem computes_and : Computes (w := w) (· &&& ·) (fun a b => a &&& b) := fun a b => by
  simp only [BitVec.ofNat_and, ofNat_toNat_self]

theorem computes_or : Computes (w := w) (· ||| ·) (fun a b => a ||| b) := fun a b => by
  simp only [BitVec.ofNat_or, ofNat_toNat_self]

theorem computes_xor : Computes (w := w) (· ^^^ ·) (fun a b => a ^^^ b) := fun a b => by
  simp only [BitVec.ofNat_xor, ofNat_toNat_self]

/-- The choice of `signedMax` is that of `slt`: both compare the two's-complement integers. -/
theorem computes_smax : Computes (w := 8 * n) smax (signedMax n) := fun a b => by
  simp only [signedMax, smax, BitVec.slt, ← BitVec.toInt_eq_toNat_bmod, apply_ite (BitVec.ofNat (8 * n)),
    ofNat_toNat_self, decide_eq_true_eq]

theorem computes_smin : Computes (w := 8 * n) smin (signedMin n) := fun a b => by
  simp only [signedMin, smin, BitVec.slt, ← BitVec.toInt_eq_toNat_bmod, apply_ite (BitVec.ofNat (8 * n)),
    ofNat_toNat_self, decide_eq_true_eq]

theorem computes_umax : Computes (w := w) umax max := fun a b => by
  unfold umax
  split
  case isTrue hlt => rw [max_eq_right (Nat.le_of_lt (of_decide_eq_true hlt)), ofNat_toNat_self]
  case isFalse hlt => rw [max_eq_left (not_lt.mp (mt decide_eq_true hlt)), ofNat_toNat_self]

theorem computes_umin : Computes (w := w) umin min := fun a b => by
  unfold umin
  split
  case isTrue hlt => rw [min_eq_right (Nat.le_of_lt (of_decide_eq_true hlt)), ofNat_toNat_self]
  case isFalse hlt => rw [min_eq_left (not_lt.mp (mt decide_eq_true hlt)), ofNat_toNat_self]

/-- The old number, cut to its width and extended, is what rd receives. -/
theorem signExtend_ofNat (k : Nat) : (BitVec.ofNat (8 * n) k).signExtend 64 = signedBytes n k := by
  rw [BitVec.signExtend, BitVec.toInt_ofNat', signedBytes]

end

/-! ## AM* -/

/-- An AM* form is `amo` with an operation that computes `F` (R570-R572). -/
theorem amo_of {i : Instr} {n : Nat} {rd rj rk : Reg} {f : BitVec (8 * n) → BitVec (8 * n) → BitVec (8 * n)}
    {F : Nat → Nat → Nat} (hop : Computes f F) (hn : 8 * n ≤ 64 := by decide)
    (h : ∀ s, exec i s = s.amo f rd rj rk := by exact fun _ => rfl) : Amo i n rd rj rk F :=
  fun s as mat hla hlam hne hmem hreach => by
    have hlen : as.length = n := accessBytes_length hreach.2
    rw [h, State.amo, la64Only_of hla, need_of hlam, if_neg hne, Nat.mul_div_cancel_left n (by decide),
      withAccess_of hreach]
    have hmem' : (s.afterWatch (s.aligned .rmw (s.getGr rj) n)).MemOk := hmem
    by_cases hrk : rd = rk
    · simp only [if_pos hrk]
      obtain ⟨t, ht, hnext, honly⟩ := writeBytes_putGrFree_spec hmem' as rd
      exact ⟨t, ht, hnext, honly, fun hne' => absurd hrk hne'⟩
    · simp only [if_neg hrk]
      rw [readBytes_eq, BitVec.setWidth_ofNat_of_le hn, afterWatch_bytesAt, signExtend_ofNat]
      obtain ⟨t, ht, hgr, hstored, hnext, honly⟩ := writeBytes_putGr_spec hmem' as
        ((f (BitVec.ofNat (8 * n) (s.bytesAt as)) ((s.getGr rk).setWidth (8 * n))).setWidth 64) rd
        (signedBytes n (s.bytesAt as))
      refine ⟨t, ht, hnext, honly, fun _ => ⟨hgr, fun hnodup => (hstored hnodup).congr (congrArg (8 * ·) hlen) ?_⟩⟩
      have hold : (BitVec.ofNat (8 * n) (s.bytesAt as)).toNat = s.bytesAt as := by
        rw [BitVec.toNat_ofNat, Nat.mod_eq_of_lt (hlen ▸ bytesAt_lt s as)]
      rw [BitVec.setWidth_setWidth_of_le _ hn, BitVec.setWidth_eq, BitVec.setWidth_ofNat_of_le hn, ← hop, hold,
        BitVec.toNat_setWidth, State.ud]

/-- Settles O24: every form is `amo` with its operation, a `_DB` form with that of its plain form. -/
theorem atomicMemoryOperationResults : Obligations.AtomicMemoryOperationResults := fun _ _ _ => ⟨
  -- AMSWAP, AMADD, AMAND, AMOR, AMXOR
  amo_of computes_swap, amo_of computes_swap, amo_of computes_add, amo_of computes_add, amo_of computes_and,
  amo_of computes_and, amo_of computes_or, amo_of computes_or, amo_of computes_xor, amo_of computes_xor,
  -- AMMAX, AMMIN, signed and unsigned
  amo_of computes_smax, amo_of computes_smax, amo_of computes_smin, amo_of computes_smin,
  amo_of computes_umax, amo_of computes_umax, amo_of computes_umin, amo_of computes_umin,
  -- the _DB forms
  amo_of computes_swap, amo_of computes_swap, amo_of computes_add, amo_of computes_add, amo_of computes_and,
  amo_of computes_and, amo_of computes_or, amo_of computes_or, amo_of computes_xor, amo_of computes_xor,
  amo_of computes_smax, amo_of computes_smax, amo_of computes_smin, amo_of computes_smin,
  amo_of computes_umax, amo_of computes_umax, amo_of computes_umin, amo_of computes_umin⟩

end Sys2Proof.Machine
end

section
/-!
LL and SC (spec/44_atomic_barrier.md R590-R594): the reservation that LL leaves, and how SC ends with its store and
without it.
-/

namespace Sys2Proof.Machine

/-! ## The reservation in a frame -/

section
variable {u t : State} {as : List Nat} {rd : Reg} {b : Bool} {x : Nat}

/-- `OnlyGr` does not speak of the count of free values. -/
theorem OnlyGr.of_draw (h : OnlyGr rd u.draw.2 t) : OnlyGr rd u t :=
  { h with sys := { h.sys with }, out := { h.out with } }

theorem OnlyGr.reservation_self (h : OnlyGr rd { u with lladdr := x, llbit := b } t) :
    OnlyGr rd { u with lladdr := t.lladdr, llbit := t.llbit } t :=
  { h with sys := { h.sys with llbit := rfl, lladdr := rfl }, out := { h.out with } }

theorem OnlyGrMem.llbit_self (h : OnlyGrMem rd as { u with llbit := b } t) :
    OnlyGrMem rd as { u with llbit := t.llbit } t :=
  { h with sys := { h.sys with llbit := rfl }, out := { h.out with } }

/-- Where a register alone changed, no byte of `as` did. -/
theorem OnlyGr.onlyGrMem (h : OnlyGr rd u t) (as : List Nat) : OnlyGrMem rd as u t :=
  { h with mem := fun a _ => h.mem a }

end

section
variable {s u : State} {as : List Nat} {mat : BitVec 2} {n : Nat} {rd rj : Reg} {i : BitVec 14}

/-! ## LL -/

/-- LL on coherent cached memory (R591, R592). -/
theorem loadLinked_cached (h : Reaches s (s.aligned .load (s.getGr rj + simm14 i) n) as 1#2) :
    s.loadLinked n rd rj i = State.putGr { s.afterWatch (s.aligned .load (s.getGr rj + simm14 i) n) with
      lladdr := as.headD 0, llbit := true } rd (sextFrom (8 * n) (s.readBytes as)) :=
  withAccess_of h _

/-- LL on memory of another type: LLbit is the low bit of the free value drawn first (log 14). -/
theorem loadLinked_free (hmat : mat ≠ 1#2) (h : Reaches s (s.aligned .load (s.getGr rj + simm14 i) n) as mat) :
    ∃ b, s.loadLinked n rd rj i = State.putGrFree (State.draw
      { s.afterWatch (s.aligned .load (s.getGr rj + simm14 i) n) with lladdr := as.headD 0, llbit := b }).2 rd :=
  ⟨_, (withAccess_of h _).trans (if_neg hmat)⟩

theorem loadLinked_spec (hn : n = 4 ∨ n = 8) (h : Reaches s (s.aligned .load (s.getGr rj + simm14 i) n) as mat) :
    ∃ t, s.loadLinked n rd rj i = .next t ∧ AtNext s t ∧ t.lladdr = as.headD 0 ∧
      (mat = 1#2 → GrIs s t rd (signedBytes n (s.bytesAt as)) ∧ t.llbit = true) ∧
      OnlyGr rd { s.afterWatch (s.aligned .load (s.getGr rj + simm14 i) n) with
        lladdr := t.lladdr, llbit := t.llbit } t := by
  by_cases hmat : mat = 1#2
  · subst hmat
    rw [loadLinked_cached h, readBytes_eq, sextFrom_eq (.inr (.inr hn))]
    obtain ⟨t, ht, hgr, hnext, honly⟩ := putGr_spec
      { s.afterWatch (s.aligned .load (s.getGr rj + simm14 i) n) with lladdr := as.headD 0, llbit := true } rd
      (signedBytes n (s.bytesAt as))
    exact ⟨t, ht, hnext, honly.sys.lladdr, fun _ => ⟨hgr, honly.sys.llbit⟩, honly.reservation_self⟩
  · obtain ⟨b, hfree⟩ := loadLinked_free (rd := rd) hmat h
    rw [hfree]
    obtain ⟨t, _, ht, -, hnext, honly⟩ := putGrFree_spec (State.draw
      { s.afterWatch (s.aligned .load (s.getGr rj + simm14 i) n) with lladdr := as.headD 0, llbit := b }).2 rd
    exact ⟨t, ht, hnext, honly.sys.lladdr, fun hcached => absurd hcached hmat, honly.of_draw.reservation_self⟩

/-! ## SC -/

/-- Bytes that may be used have a memory access type that is not the reserved one (U13). -/
theorem mat_ne_of_physCheck {c : Config} {k : AccessKind} (h : physCheck c k mat as = .ok ()) : mat ≠ 3#2 := by
  rintro rfl
  cases h

/-- SC on coherent cached memory, after its address part (R593, R594). -/
theorem storeConditional_cached (h : ReachesAddrs s (s.aligned .rmw (s.getGr rj + simm14 i) n) as 1#2) :
    s.storeConditional n rd rj i = (s.afterWatch (s.aligned .rmw (s.getGr rj + simm14 i) n)).storeIf s.llbit as 1#2
      (s.getGr rd) fun u => State.putGr { u with llbit := false } rd (Word.ofBool s.llbit) :=
  withAddrs_of h _

/-- SC on memory of another type: whether it stores, and LLbit, are bits of the free value drawn first (log 14). -/
theorem storeConditional_free (hmat : mat ≠ 1#2)
    (h : ReachesAddrs s (s.aligned .rmw (s.getGr rj + simm14 i) n) as mat) :
    ∃ c b, s.storeConditional n rd rj i =
      (s.afterWatch (s.aligned .rmw (s.getGr rj + simm14 i) n)).draw.2.storeIf c as mat (s.getGr rd)
        fun u => State.putGrFree { u with llbit := b } rd :=
  ⟨_, _, (withAddrs_of h _).trans (if_neg hmat)⟩

/-- A successful SC: the store, 1 to rd, LLbit 0. -/
theorem storeIf_succeeds (hm : u.MemOk) (hphys : physCheck u.cfg .rmw mat as = .ok ()) (v : Word) :
    ∃ t, (u.storeIf true as mat v fun u => State.putGr { u with llbit := false } rd 1#64) = .next t ∧
      GrIs u t rd 1#64 ∧ (as.Nodup → StoredAt as v t) ∧ AtNext u t ∧
      OnlyGrMem rd as { u with llbit := false } t := by
  rw [storeIf_of hphys]
  exact writeBytes_putGr_spec (s := { u with llbit := false }) hm as v rd 1#64

/-- A failing SC: no access, 0 to rd, LLbit 0. -/
theorem storeIf_fails (hmat : mat ≠ 3#2) (u : State) (as : List Nat) (rd : Reg) (v : Word) :
    ∃ t, (u.storeIf false as mat v fun u => State.putGr { u with llbit := false } rd 0#64) = .next t ∧
      GrIs u t rd 0#64 ∧ AtNext u t ∧ OnlyGr rd { u with llbit := false } t := by
  rw [storeIf_not hmat]
  exact putGr_spec { u with llbit := false } rd 0#64

/-- Where whether SC stores is free, it changes nothing beyond LLbit, rd and the bytes. -/
theorem storeIf_free (hm : u.MemOk) (hphys : physCheck u.cfg .rmw mat as = .ok ()) (c b : Bool) (v : Word)
    (rd : Reg) : ∃ t, (u.draw.2.storeIf c as mat v fun u => State.putGrFree { u with llbit := b } rd) = .next t ∧
      AtNext u t ∧ OnlyGrMem rd as { u with llbit := b } t := by
  cases c with
  | true =>
    rw [storeIf_of (s := u.draw.2) hphys]
    obtain ⟨t, _, ht, -, hnext, honly⟩ := putGrFree_spec { u.draw.2.writeBytes as v with llbit := b } rd
    have hstore := writeBytes_onlyMem (s := (State.draw { u with llbit := b }).2) hm as v
    exact ⟨t, ht, hnext, hstore.of_draw.onlyGrMem honly⟩
  | false =>
    rw [storeIf_not (mat_ne_of_physCheck hphys)]
    obtain ⟨t, _, ht, -, hnext, honly⟩ := putGrFree_spec { u.draw.2 with llbit := b } rd
    exact ⟨t, ht, hnext, (OnlyGr.of_draw (u := { u with llbit := b }) honly).onlyGrMem as⟩

theorem storeConditional_spec (hn : n = 4 ∨ n = 8) (hm : s.MemOk)
    (h : Reaches s (s.aligned .rmw (s.getGr rj + simm14 i) n) as mat) :
    ∃ t, s.storeConditional n rd rj i = .next t ∧ AtNext s t ∧
      (mat = 1#2 → t.llbit = false ∧
        (s.llbit = true → GrIs s t rd 1#64 ∧ StoredAt as (s.getGr rd) t) ∧
        (s.llbit = false → GrIs s t rd 0#64 ∧ SameMem s t)) ∧
      OnlyGrMem rd as { s.afterWatch (s.aligned .rmw (s.getGr rj + simm14 i) n) with llbit := t.llbit } t := by
  obtain ⟨pa, hpa⟩ := accessBytes_strict rfl (.inr (.inr hn)) h.2
  have hnodup : as.Nodup := hpa ▸ physBytes_nodup pa _
  have hm' : (s.afterWatch (s.aligned .rmw (s.getGr rj + simm14 i) n)).MemOk := hm
  have hphys := (accessBytes_ok h.2).2
  by_cases hmat : mat = 1#2
  · subst hmat
    rw [storeConditional_cached h.addrs]
    cases hll : s.llbit with
    | true =>
      obtain ⟨t, ht, hgr, hstored, hnext, honly⟩ := storeIf_succeeds (rd := rd) hm' hphys (s.getGr rd)
      exact ⟨t, ht, hnext, fun _ => ⟨honly.sys.llbit, fun _ => ⟨hgr, hstored hnodup⟩, nofun⟩, honly.llbit_self⟩
    | false =>
      obtain ⟨t, ht, hgr, hnext, honly⟩ := storeIf_fails (mat_ne_of_physCheck hphys)
        (s.afterWatch (s.aligned .rmw (s.getGr rj + simm14 i) n)) as rd (s.getGr rd)
      exact ⟨t, ht, hnext, fun _ => ⟨honly.sys.llbit, nofun, fun _ => ⟨hgr, honly.mem⟩⟩,
        (honly.onlyGrMem as).llbit_self⟩
  · obtain ⟨c, b, hfree⟩ := storeConditional_free (rd := rd) hmat h.addrs
    rw [hfree]
    obtain ⟨t, ht, hnext, honly⟩ := storeIf_free hm' hphys c b (s.getGr rd) rd
    exact ⟨t, ht, hnext, fun hcached => absurd hcached hmat, honly.llbit_self⟩

/-- A failing SC needs no more than its addresses (R593). -/
theorem storeConditional_fails (hll : s.llbit = false)
    (h : ReachesAddrs s (s.aligned .rmw (s.getGr rj + simm14 i) n) as 1#2) :
    ∃ t, s.storeConditional n rd rj i = .next t ∧ AtNext s t ∧ GrIs s t rd 0#64 ∧ t.llbit = false ∧
      OnlyGr rd { s.afterWatch (s.aligned .rmw (s.getGr rj + simm14 i) n) with llbit := false } t := by
  rw [storeConditional_cached h, hll]
  obtain ⟨t, ht, hgr, hnext, honly⟩ := storeIf_fails (mat := 1#2) (by decide)
    (s.afterWatch (s.aligned .rmw (s.getGr rj + simm14 i) n)) as rd (s.getGr rd)
  exact ⟨t, ht, hnext, hgr, honly.sys.llbit, honly⟩

/-! ## The forms of LA64 -/

theorem exec_llD (hla : s.cfg.la64 = true) : exec (.llD rd rj i) s = s.loadLinked 8 rd rj i := la64Only_of hla _

theorem exec_scD (hla : s.cfg.la64 = true) : exec (.scD rd rj i) s = s.storeConditional 8 rd rj i := la64Only_of hla _

end

/-- Settles O25: the W forms are `loadLinked` and `storeConditional` of 4 bytes, the D forms those of 8 behind the gate
of LA64. -/
theorem loadLinkedAndStoreConditional : Obligations.LoadLinkedAndStoreConditional := by
  intro rd rj i14
  rw [← simm14_eq]  -- the offset as the meanings of LL and SC write it
  refine ⟨fun s as mat h => ?llW, fun s as mat hla h => ?llD, fun s as mat hm h => ?scW,
    fun s as mat hla hm h => ?scD, fun s as hll h => ?scWFails, fun s as hla hll h => ?scDFails⟩
  case llW => exact loadLinked_spec (.inl rfl) h
  case llD => rw [exec_llD hla]; exact loadLinked_spec (.inr rfl) h
  case scW => exact storeConditional_spec (.inl rfl) hm h
  case scD => rw [exec_scD hla]; exact storeConditional_spec (.inr rfl) hm h
  case scWFails => exact storeConditional_fails hll h
  case scDFails => rw [exec_scD hla]; exact storeConditional_fails hll h

end Sys2Proof.Machine
end

section
/-!
CRC, SYSCALL, BREAK, RDTIME and CPUCFG (spec/45_crc_misc.md).
-/

namespace Sys2Proof.Machine

/-! ## CRC (R600) -/

/-- The bit-serial update over the bits from `i` upward, as a fold over their numbers. -/
theorem crcBits_eq_foldl (poly : BitVec 32) (msg : Word) (n : Nat) : ∀ (i : Nat) (crc : BitVec 32),
    crcBits poly msg n i crc = (List.range' i n).foldl (fun c k => crcBit poly c (msg.getLsbD k)) crc := by
  induction n with
  | zero => exact fun _ _ => rfl
  | succ n ih => exact fun i crc => ih (i + 1) _

theorem crcBits_eq_crcOf (poly : BitVec 32) (n : Nat) (msg : Word) (crc : BitVec 32) :
    crcBits poly msg n 0 crc = crcOf poly n msg crc := by
  rw [crcBits_eq_foldl, ← List.range_eq_range']; rfl

/-- A CRC form delivers the update over the `n` low bits of rj. -/
theorem writesGr64_crc {i : Instr} {rd rj rk : Reg} {poly : BitVec 32} {n : Nat}
    (h : ∀ s, exec i s = s.la64Only (s.crc poly n rd rj rk) := by exact fun _ => rfl) :
    WritesGr64 i rd (fun s => BitVec.ofInt 64 (crcOf poly n (s.getGr rj) ((s.getGr rk).setWidth 32)).toInt) :=
  writesGr64_of h fun s => by rw [← crcBits_eq_crcOf]; rfl

/-- Settles O31: the update runs over the message bits in order, bit 0 first. -/
theorem crcResults : Obligations.CrcResults := fun _ _ _ =>
  ⟨writesGr64_crc, writesGr64_crc, writesGr64_crc, writesGr64_crc, writesGr64_crc, writesGr64_crc, writesGr64_crc,
    writesGr64_crc⟩

/-! ## SYSCALL and BREAK (R609, R610) -/

/-- Settles O32: each form is `raise`, whatever its code. -/
theorem syscallAndBreakTakeTheirExceptions : Obligations.SyscallAndBreakTakeTheirExceptions := fun _ =>
  ⟨traps_of (x := .sys) rfl (fun _ h => nomatch h) fun _ _ => rfl,
    traps_of (x := .brk) rfl (fun _ h => nomatch h) fun _ _ => rfl⟩

/-! ## RDTIME (R611) -/

theorem rdtimeDisabled_eq_false {s : State} (h : s.plv = 0#2 ∨ s.csr.misc.getLsbD (4 + s.plv.toNat) = false) :
    s.rdtimeDisabled = false := by
  obtain h | h := h <;> simp [State.rdtimeDisabled, h]

theorem rdtimeDisabled_eq_true {s : State} (hplv : s.plv ≠ 0#2) (h : s.csr.misc.getLsbD (4 + s.plv.toNat) = true) :
    s.rdtimeDisabled = true := by simp [State.rdtimeDisabled, h, hplv]

/-- Two general registers are written, the second one last; nothing else but the pc changes. -/
theorem setGr_setGr_spec (s : State) (rd rj : Reg) (x y : Word) :
    GrIs s ((s.setGr rd x).setGr rj y).advance rj y ∧
      (rd ≠ rj ∨ rj = 0#5 → GrIs s ((s.setGr rd x).setGr rj y).advance rd x) ∧
      (∀ r, r ≠ rd → r ≠ rj → ((s.setGr rd x).setGr rj y).advance.getGr r = s.getGr r) ∧
      AtNext s ((s.setGr rd x).setGr rj y).advance ∧ SameButGr s ((s.setGr rd x).setGr rj y).advance := by
  have hrj : ((s.setGr rd x).setGr rj y).advance.getGr rj = if rj = 0#5 then 0#64 else s.cfg.normGr y := by
    rw [advance_getGr, setGr_getGr_same, setGr_cfg]
  have hother : ∀ r, r ≠ rj → ((s.setGr rd x).setGr rj y).advance.getGr r = (s.setGr rd x).getGr r := fun r hr => by
    rw [advance_getGr, setGr_getGr_other _ _ hr]
  refine ⟨hrj, fun hne => ?_, fun r h1 h2 => ?_, by simp [AtNext], ?_⟩
  · by_cases h : rd = rj
    · subst h; simp [GrIs, hne.resolve_left (· rfl)]
    · exact (hother rd h).trans (setGr_getGr_same s rd x)
  · exact (hother r h2).trans (setGr_getGr_other s x h1)
  · exact ⟨fun _ => by simp, fun _ => by simp, by simp, fun _ => by simp, by constructor <;> simp,
      by constructor <;> simp⟩

section
variable {i : Instr} {rd rj : Reg} {v x : State → Word} {P : State → Prop}

/-- An RDTIME form that is not disabled (R96). -/
theorem rdtime_completes (h : ∀ s, P s → exec i s = s.rdtime (x s) rd rj) (hv : ∀ s, v s = x s) {s : State}
    (hp : P s) (hll : s.cfg.hasLlftp = true) (hen : s.plv = 0#2 ∨ s.csr.misc.getLsbD (4 + s.plv.toNat) = false) :
    ∃ t, exec i s = .next t ∧ GrIs s t rj (BitVec.ofNat 64 s.timer.tid.toNat) ∧
      (rd ≠ rj ∨ rj = 0#5 → GrIs s t rd (v s)) ∧ (∀ r, r ≠ rd → r ≠ rj → t.getGr r = s.getGr r) ∧ AtNext s t ∧
      SameButGr s t := by
  refine ⟨((s.setGr rd (x s)).setGr rj (s.timer.tid.setWidth 64)).advance, ?_, ?_⟩
  · rw [h s hp, State.rdtime, need_of hll, rdtimeDisabled_eq_false hen]; rfl
  · rw [hv, BitVec.ofNat_toNat]
    exact setGr_setGr_spec s rd rj _ _

/-- A disabled RDTIME form (R96). -/
theorem rdtime_trapsIpe (h : ∀ s, P s → exec i s = s.rdtime (x s) rd rj) {s : State} (hp : P s)
    (hll : s.cfg.hasLlftp = true) (hplv : s.plv ≠ 0#2) (hdis : s.csr.misc.getLsbD (4 + s.plv.toNat) = true) :
    exec i s = s.raise .ipe := by
  rw [h s hp, State.rdtime, need_of hll, rdtimeDisabled_eq_true hplv hdis]; rfl

end

/-- The time as an integer (R163). -/
theorem timeNow_eq (s : State) :
    s.timeNow = BitVec.ofInt 64 (s.timer.stableCounter.toInt + (s.cfg.normGr s.timer.cntc).toInt) := by
  rw [BitVec.ofInt_add, BitVec.ofInt_toInt, BitVec.ofInt_toInt]; rfl

theorem timeNow_low (s : State) :
    wordOf (s.timer.stableCounter.toInt + (s.cfg.normGr s.timer.cntc).toInt) = sext32 (s.timeNow.extractLsb' 0 32) := by
  rw [timeNow_eq, extractLsb'_ofInt (by decide), pow_zero, Int.ediv_one, wordOf_eq]

theorem timeNow_high (s : State) : wordOf ((s.timer.stableCounter.toInt + (s.cfg.normGr s.timer.cntc).toInt) / 2 ^ 32) =
    sext32 (s.timeNow.extractLsb' 32 32) := by
  rw [timeNow_eq, extractLsb'_ofInt (by decide), wordOf_eq]

/-! ## CPUCFG (R620-R632) -/

theorem cfgBit_getLsbD (b : Bool) {i j : Nat} (hj : j < 32) : (cfgBit b i).getLsbD j = (decide (j = i) && b) := by
  rw [cfgBit, BitVec.getLsbD_shiftLeft, BitVec.getLsbD_setWidth, BitVec.getLsbD_ofBool, decide_eq_true hj]
  rcases lt_trichotomy j i with h | rfl | h
  · simp [h, h.ne]
  · simp
  · simp [show ¬j < i by omega, show j - i ≠ 0 by omega, h.ne']

theorem cfgBit_getLsbD_same (b : Bool) {i : Nat} (hi : i < 32) : (cfgBit b i).getLsbD i = b := by
  rw [cfgBit_getLsbD b hi, decide_eq_true rfl, Bool.true_and]

theorem cfgBit_getLsbD_of_ne (b : Bool) {i j : Nat} (hj : j < 32) (h : j ≠ i) : (cfgBit b i).getLsbD j = false := by
  rw [cfgBit_getLsbD b hj, decide_eq_false h, Bool.false_and]

theorem cfgField_getLsbD_inside {w : Nat} (v : BitVec w) {i j : Nat} (hj : i + j < 32) :
    (cfgField v i).getLsbD (i + j) = v.getLsbD j := by
  rw [cfgField, BitVec.getLsbD_shiftLeft, BitVec.getLsbD_setWidth]
  simp [hj, show j < 32 by omega]

theorem cfgField_getLsbD_outside {w : Nat} (v : BitVec w) {i j : Nat} (h : j < i ∨ i + w ≤ j) :
    (cfgField v i).getLsbD j = false := by
  rw [cfgField, BitVec.getLsbD_shiftLeft, BitVec.getLsbD_setWidth]
  obtain h | h := h
  · simp [h]
  · simp [BitVec.getLsbD_of_ge v (j - i) (by omega)]

/-- A field of a configuration word, bit by bit. -/
theorem extractLsb'_eq_of_getLsbD {n w lo : Nat} {x : BitVec n} {v : BitVec w}
    (h : ∀ i < w, x.getLsbD (lo + i) = v.getLsbD i) : x.extractLsb' lo w = v :=
  BitVec.eq_of_getLsbD_eq fun i hi => by simp [hi, h i hi]

/-- The architecture field of word 1 as a field like the others (R622). -/
theorem cpucfg1_arch (c : Config) : (if c.la64 then 2#32 else 1#32) = cfgField (if c.la64 then 2#2 else 1#2) 0 := by
  split <;> rfl

/-! A field read out of a word put together from fields. -/

section
variable {w : Nat} (v : BitVec w) {i lo n : Nat}

theorem extractLsb'_or (x y : BitVec 32) : (x ||| y).extractLsb' lo n = x.extractLsb' lo n ||| y.extractLsb' lo n :=
  BitVec.eq_of_getLsbD_eq fun j hj => by simp [hj]

theorem extractLsb'_cfgField_same (h : i + w ≤ 32) : (cfgField v i).extractLsb' i w = v :=
  extractLsb'_eq_of_getLsbD fun _ hj => cfgField_getLsbD_inside v (by omega)

theorem extractLsb'_cfgField_other (h : lo + n ≤ i ∨ i + w ≤ lo) : (cfgField v i).extractLsb' lo n = 0#n :=
  extractLsb'_eq_of_getLsbD fun _ hj => (cfgField_getLsbD_outside v (by omega)).trans BitVec.getLsbD_zero.symm

theorem extractLsb'_cfgBit_other (b : Bool) (h : lo + n ≤ i ∨ i < lo) (hn : lo + n ≤ 32) :
    (cfgBit b i).extractLsb' lo n = 0#n :=
  extractLsb'_eq_of_getLsbD fun _ hj =>
    (cfgBit_getLsbD_of_ne b (by omega) (by omega)).trans BitVec.getLsbD_zero.symm

end

/-- Every field of the configuration words 1, 2, 3 and 6 stands in its place, and the bits between them are 0. -/
theorem cpucfg_fields (c : Config) : CpucfgIs c 1 (cpucfg1 c) ∧ CpucfgIs c 2 (cpucfg2 c) ∧ CpucfgIs c 3 (cpucfg3 c) ∧
    CpucfgIs c 6 (cpucfg6 c) := by
  refine ⟨⟨nofun, fun _ => ?word1, nofun, nofun, nofun, nofun, nofun, fun _ _ h => by omega, fun h => by omega⟩,
    ⟨nofun, nofun, fun _ => ?word2, nofun, nofun, nofun, nofun, fun _ _ h => by omega, fun h => by omega⟩,
    ⟨nofun, nofun, nofun, fun _ => ?word3, nofun, nofun, nofun, fun _ _ h => by omega, fun h => by omega⟩,
    ⟨nofun, nofun, nofun, nofun, nofun, nofun, fun _ => ?word6, fun _ _ h => by omega, fun h => by omega⟩⟩
  case word1 =>
    rw [cpucfg1, cpucfg1_arch]
    simp (disch := decide) only [BitVec.getLsbD_or, cfgBit_getLsbD_same, cfgBit_getLsbD_of_ne, cfgField_getLsbD_outside,
      extractLsb'_or, extractLsb'_cfgField_same, extractLsb'_cfgField_other, extractLsb'_cfgBit_other, Bool.false_or,
      Bool.or_false, BitVec.zero_or, BitVec.or_zero, and_self]
  case word2 =>
    rw [cpucfg2]
    simp (disch := decide) only [BitVec.getLsbD_or, cfgBit_getLsbD_same, cfgBit_getLsbD_of_ne, cfgField_getLsbD_outside,
      extractLsb'_or, extractLsb'_cfgField_same, extractLsb'_cfgField_other, extractLsb'_cfgBit_other, Bool.false_or,
      Bool.or_false, BitVec.zero_or, BitVec.or_zero, and_self]
  case word3 =>
    rw [cpucfg3]
    simp (disch := decide) only [BitVec.getLsbD_or, cfgBit_getLsbD_same, cfgBit_getLsbD_of_ne, cfgField_getLsbD_outside,
      extractLsb'_or, extractLsb'_cfgField_same, extractLsb'_cfgField_other, extractLsb'_cfgBit_other, Bool.false_or,
      Bool.or_false, BitVec.zero_or, BitVec.or_zero, and_self]
  case word6 =>
    rw [cpucfg6]
    simp (disch := decide) only [BitVec.getLsbD_or, cfgBit_getLsbD_same, cfgBit_getLsbD_of_ne, cfgField_getLsbD_outside,
      extractLsb'_or, extractLsb'_cfgField_same, extractLsb'_cfgField_other, extractLsb'_cfgBit_other, Bool.false_or,
      Bool.or_false, BitVec.zero_or, BitVec.or_zero, and_self]

/-- A cache word keeps the bits below its undefined ones (R628, D55). -/
theorem cacheWord_getLsbD (x m : BitVec 32) {k j : Nat} (hm : m = BitVec.ofNat 32 (2 ^ k - 1)) (hj : j < 32) :
    (x &&& m).getLsbD j = (decide (j < k) && x.getLsbD j) := by
  rw [hm, BitVec.getLsbD_and, BitVec.getLsbD_ofNat, Nat.testBit_two_pow_sub_one, decide_eq_true hj, Bool.true_and,
    Bool.and_comm]

/-- The configuration word of every number (R620). -/
theorem cpucfgWord_spec (c : Config) (n : Nat) : CpucfgIs c n (cpucfgWord c n) := by
  obtain ⟨h1, h2, h3, h6⟩ := cpucfg_fields c
  refine ⟨?word0, ?word1, ?word2, ?word3, ?word4, ?word5, ?word6, fun k hk => ?cache, ?other⟩
  case word0 => rintro rfl; rfl
  case word1 => rintro rfl; exact h1.word1 rfl
  case word2 => rintro rfl; exact h2.word2 rfl
  case word3 => rintro rfl; exact h3.word3 rfl
  case word4 => rintro rfl; rfl
  case word5 =>
    rintro rfl
    exact ⟨BitVec.extractLsb'_append_eq_right, BitVec.extractLsb'_append_eq_left⟩
  case word6 => rintro rfl; exact h6.word6 rfl
  case cache =>
    rintro rfl j hj
    interval_cases k
    · exact cacheWord_getLsbD _ _ rfl hj
    all_goals exact cacheWord_getLsbD _ _ (k := 31) rfl hj
  case other =>
    intro hlow hhigh
    unfold cpucfgWord
    split
    case h_13 => rfl
    all_goals omega

/-- Settles O33: RDTIME reads one sum in three cuts, and CPUCFG delivers the word of its number. -/
theorem timeAndConfigurationReads : Obligations.TimeAndConfigurationReads := by
  intro rd rj
  have hd : ∀ s, InLa64 s → exec (.rdtimeD rd rj) s = s.rdtime s.timeNow rd rj := fun _ hla => la64Only_of hla _
  exact ⟨fun s => rdtime_completes (P := Always) (fun _ _ => rfl) timeNow_low trivial,
    trapsIpe_of fun s ⟨hll, hplv, hdis⟩ => rdtime_trapsIpe (P := Always) (fun _ _ => rfl) trivial hll hplv hdis,
    fun s => rdtime_completes (P := Always) (fun _ _ => rfl) timeNow_high trivial,
    trapsIpe_of fun s ⟨hll, hplv, hdis⟩ => rdtime_trapsIpe (P := Always) (fun _ _ => rfl) trivial hll hplv hdis,
    fun s hla => rdtime_completes hd (fun s => (timeNow_eq s).symm) hla,
    trapsIpe_of fun s ⟨hla, hll, hplv, hdis⟩ => rdtime_trapsIpe hd hla hll hplv hdis,
    writesGrSomeAll_of _ (fun _ => rfl) fun s => ⟨_, rfl, cpucfgWord_spec s.cfg _⟩⟩

end Sys2Proof.Machine
end

section
/-!
The address map of the CSRs (spec/11_csr_basic.md R80): the number of each register, and which register a number names.
-/

namespace Sys2Proof.Machine

/-- The number of a register (R80). -/
def CsrId.num : CsrId → Nat
  | .crmd => 0x0 | .prmd => 0x1 | .euen => 0x2 | .misc => 0x3 | .ecfg => 0x4 | .estat => 0x5 | .era => 0x6
  | .badv => 0x7 | .badi => 0x8 | .eentry => 0xC
  | .tlbidx => 0x10 | .tlbehi => 0x11 | .tlbelo0 => 0x12 | .tlbelo1 => 0x13
  | .asid => 0x18 | .pgdl => 0x19 | .pgdh => 0x1A | .pgd => 0x1B | .pwcl => 0x1C | .pwch => 0x1D | .stlbps => 0x1E
  | .rvacfg => 0x1F | .cpuid => 0x20 | .prcfg1 => 0x21 | .prcfg2 => 0x22 | .prcfg3 => 0x23
  | .save n => 0x30 + n
  | .tid => 0x40 | .tcfg => 0x41 | .tval => 0x42 | .cntc => 0x43 | .ticlr => 0x44 | .llbctl => 0x60
  | .tlbrentry => 0x88 | .tlbrbadv => 0x89 | .tlbrera => 0x8A | .tlbrsave => 0x8B | .tlbrelo0 => 0x8C
  | .tlbrelo1 => 0x8D | .tlbrehi => 0x8E | .tlbrprmd => 0x8F
  | .merrctl => 0x90 | .merrinfo1 => 0x91 | .merrinfo2 => 0x92 | .merrentry => 0x93 | .merrera => 0x94
  | .merrsave => 0x95
  | .dmw n => 0x180 + n
  | .pmcfg n => 0x200 + 2 * n
  | .pmcnt n => 0x201 + 2 * n
  | .mwpc => 0x300 | .mwps => 0x301 | .mwpCfg n k => 0x310 + 8 * n + k
  | .fwpc => 0x380 | .fwps => 0x381 | .fwpCfg n k => 0x390 + 8 * n + k
  | .dbg => 0x500 | .dera => 0x501 | .dsave => 0x502

/-- The registers with a number of their own stand at it. -/
theorem csrFixed_map_num (n : Nat) : (csrFixed n).elim n CsrId.num = n := by
  unfold csrFixed
  split <;> rfl

theorem csrFixed_num {n : Nat} {id : CsrId} (h : csrFixed n = some id) : n = id.num := by
  rw [← csrFixed_map_num n, h, Option.elim_some]

/-- A number of a group of `k` registers from `b` on, from its place in the group. -/
theorem eq_add_sub_mod {n b k : Nat} (hb : b ≤ n) (hk : n < b + k) : n = b + (n - b) % k := by
  rw [Nat.mod_eq_of_lt (Nat.sub_lt_left_of_lt_add hb hk), Nat.add_sub_cancel' hb]

/-- A number `n` of a group from `b` on, of `k` parts of `w` numbers each: its part, and its place in the part. -/
theorem eq_part_add_place {n b w k : Nat} (hb : b ≤ n) (hk : n < b + w * k) :
    n = b + w * ((n - b) / w % k) + (n - b) % w := by
  have hpart : (n - b) / w < k := Nat.div_lt_of_lt_mul (Nat.sub_lt_left_of_lt_add hb hk)
  rw [Nat.mod_eq_of_lt hpart, Nat.add_assoc, Nat.div_add_mod, Nat.add_sub_cancel' hb]

/-- The place in a part, where the group starts at a multiple of the size of its parts. -/
theorem sub_mod_eq {n w m : Nat} (h : w * m ≤ n) : (n - w * m) % w = n % w := Nat.sub_mul_mod h

/-- The registers of a group stand at their places in it. -/
theorem csrGrouped_num {n : Nat} {id : CsrId} (h : csrGrouped n = some id) : n = id.num := by
  unfold csrGrouped at h
  split_ifs at h with hsave hdmw hpm heven hmwp hfwp <;> cases h
  · exact (eq_add_sub_mod hsave.1 hsave.2 : n = 0x30 + (n - 0x30) % 16)
  · exact (eq_add_sub_mod hdmw.1 hdmw.2 : n = 0x180 + (n - 0x180) % 4)
  · have := eq_part_add_place (w := 2) (k := 32) hpm.1 hpm.2
    rwa [sub_mod_eq (w := 2) (m := 0x100) hpm.1, heven] at this
  · have := eq_part_add_place (w := 2) (k := 32) hpm.1 hpm.2
    rwa [sub_mod_eq (w := 2) (m := 0x100) hpm.1, Nat.mod_two_ne_zero.1 heven, Nat.add_right_comm] at this
  · have := eq_part_add_place (w := 8) (k := 8) hmwp.1 hmwp.2.1
    rwa [sub_mod_eq (w := 8) (m := 0x62) hmwp.1, ← Nat.mod_eq_of_lt hmwp.2.2] at this
  · have := eq_part_add_place (w := 8) (k := 8) hfwp.1 hfwp.2.1
    rwa [sub_mod_eq (w := 8) (m := 0x72) hfwp.1, ← Nat.mod_eq_of_lt hfwp.2.2] at this

/-- Every register is found at its number. -/
theorem csr_at_num (id : CsrId) : (csrFixed id.num).or (csrGrouped id.num) = some id := by
  have save : ∀ n : Fin 16, (csrFixed (0x30 + n)).or (csrGrouped (0x30 + n)) = some (.save n) := by decide
  have dmw : ∀ n : Fin 4, (csrFixed (0x180 + n)).or (csrGrouped (0x180 + n)) = some (.dmw n) := by decide
  have pmcfg : ∀ n : Fin 32, (csrFixed (0x200 + 2 * n)).or (csrGrouped (0x200 + 2 * n)) = some (.pmcfg n) := by decide
  have pmcnt : ∀ n : Fin 32, (csrFixed (0x201 + 2 * n)).or (csrGrouped (0x201 + 2 * n)) = some (.pmcnt n) := by decide
  have mwp : ∀ (n : Fin 8) (k : Fin 4),
      (csrFixed (0x310 + 8 * n + k)).or (csrGrouped (0x310 + 8 * n + k)) = some (.mwpCfg n k) := by decide
  have fwp : ∀ (n : Fin 8) (k : Fin 4),
      (csrFixed (0x390 + 8 * n + k)).or (csrGrouped (0x390 + 8 * n + k)) = some (.fwpCfg n k) := by decide
  cases id with
  | save n => exact save n
  | dmw n => exact dmw n
  | pmcfg n => exact pmcfg n
  | pmcnt n => exact pmcnt n
  | mwpCfg n k => exact mwp n k
  | fwpCfg n k => exact fwp n k
  | _ => rfl

/-- A number names the register that stands at it, where the core implements it (R83). -/
theorem csrOfNum_eq_some_iff {c : Config} {num : BitVec 14} {id : CsrId} :
    csrOfNum c num = some id ↔ num.toNat = id.num ∧ id.implemented c = true := by
  unfold csrOfNum
  rw [Option.filter_eq_some_iff]
  refine and_congr_left fun _ => ⟨fun h => ?_, fun h => h ▸ csr_at_num id⟩
  obtain h | ⟨-, h⟩ := Option.or_eq_some_iff.1 h
  · exact csrFixed_num h
  · exact csrGrouped_num h

end Sys2Proof.Machine
end

section
/-!
Instructions that a gate stops: below PLV0 (spec/49_privileged.md R780) and with the floating-point unit disabled
(spec/46_fp_arith.md R644). What comes before the gate passes, and the gate raises.
-/

namespace Sys2Proof.Machine

/-- Where `P` holds, the outcome is the exception `x`. -/
def RaisesWhere (x : Exc) (P : State → Prop) (o : State → Out) : Prop := ∀ s, P s → o s = s.raise x

section
variable {x : Exc} {P Q : State → Prop} {i : Instr} {b : State → Bool} {k : State → Out}

/-- Behind a gate that is open. -/
theorem RaisesWhere.behind (hb : ∀ s, P s → b s = true) (h : RaisesWhere x P k) :
    RaisesWhere x P fun s => s.need (b s) (k s) := fun s hs => by
  simp only [need_of (hb s hs), h s hs]

theorem RaisesWhere.behindLa64 (h : RaisesWhere x P k) :
    RaisesWhere x (fun s => s.cfg.la64 = true ∧ P s) fun s => s.la64Only (k s) :=
  .behind (fun _ h => h.1) fun s hs => h s hs.2

theorem RaisesWhere.trapsIpe (h : RaisesWhere .ipe P (exec i)) : TrapsIpe i P := trapsIpe_of h

theorem RaisesWhere.trapsFpd (h : RaisesWhere .fpd P (exec i)) : TrapsFpd i P := trapsFpd_of h

theorem RaisesWhere.privileged (hP : ∀ s, P s → s.plv ≠ 0#2) : RaisesWhere .ipe P fun s => s.privileged (k s) :=
  fun s hs => privileged_not (hP s hs) _

theorem RaisesWhere.tlb : RaisesWhere .ipe (fun s => s.cfg.hasPgmmu = true ∧ s.cfg.tlbType ≠ 0 ∧ s.plv ≠ 0#2)
    fun s => s.tlbGate (k s) :=
  .behind (fun s h => by simp [Config.hasTlb, h]) (.privileged fun _ h => h.2.2)

theorem RaisesWhere.iocsr {a : State → Word} {n : Nat} :
    RaisesWhere .ipe (fun s => s.cfg.hasIocsr = true ∧ s.plv ≠ 0#2) fun s => s.iocsrGate (a s) n (k s) :=
  .behind (fun _ h => h.1) (.privileged fun _ h => h.2)

theorem RaisesWhere.fpd : RaisesWhere .fpd (fun s => s.cfg.hasFp = true ∧ s.csr.euen.getLsbD 0 = false)
    fun s => s.fpGate false (k s) := fun _ h => fpGate_disabled (dp := false) h.1 (fun h => nomatch h) h.2 _

theorem RaisesWhere.fpdDouble :
    RaisesWhere .fpd (fun s => s.cfg.hasFp = true ∧ s.cfg.hasFpDp = true ∧ s.csr.euen.getLsbD 0 = false)
    fun s => s.fpGate true (k s) := fun _ h => fpGate_disabled h.1 (fun _ => h.2.1) h.2.2 _

end

/-- The only instruction numbers that CSRRD reads below PLV0 are those of implemented performance counters (R194). -/
theorem counterReadable_eq_false {s : State} {num : BitVec 14} (h : s.csr.misc.getLsbD (8 + s.plv.toNat) = false ∨
    ∀ k < s.cfg.pmCount, num.toNat ≠ 0x201 + 2 * k) : s.counterReadable num = false := by
  unfold State.counterReadable
  obtain h | h := h
  · rw [h, Bool.and_false, Bool.false_and]
  · cases hid : csrOfNum s.cfg num with
    | none => exact Bool.and_false _
    | some id =>
      obtain ⟨hnum, himpl⟩ := csrOfNum_eq_some_iff.1 hid
      cases id with
      | pmcnt n => exact absurd hnum (h n (of_decide_eq_true himpl))
      | _ => exact Bool.and_false _

/-- Settles O35: every form stands behind the privilege gate, after the gate of its unit. -/
theorem privilegedInstructionsTakeIpe : Obligations.PrivilegedInstructionsTakeIpe := by
  intro rd rj rk csr op si12 i8 seq code
  have priv : ∀ {P : State → Prop} {k : State → Out}, (∀ s, P s → s.plv ≠ 0#2) →
      RaisesWhere .ipe P fun s => s.privileged (k s) := .privileged
  and_intros
  all_goals apply RaisesWhere.trapsIpe
  exacts [priv fun _ h => h, priv fun _ h => h, .iocsr, .iocsr, .iocsr, .behindLa64 .iocsr, .iocsr, .iocsr, .iocsr,
    .behindLa64 .iocsr, priv fun _ h => h, .tlb, .tlb, .tlb, .tlb, .tlb, .tlb, .tlb,
    .behind (fun _ h => h.1) (priv fun _ h => h.2), .behind (fun _ h => h.1) (priv fun _ h => h.2), priv fun _ h => h,
    fun s h => if_pos (by simp [h]), priv fun _ h => h,
    fun s h => if_neg (by simp [h.1, counterReadable_eq_false h.2])]

/-- The 22 conditions of Table 9 are all but the ten (D63). -/
theorem condDefined_of_not_mem : ∀ cond ∉ ([0x12#5, 0x13#5, 0x16#5, 0x17#5, 0x1A#5, 0x1B#5, 0x1C#5, 0x1D#5, 0x1E#5,
    0x1F#5] : List (BitVec 5)), condDefined cond = true := by decide

/-- Settles O36: every form stands behind the gate of the unit, an LA64-only one behind that gate too, and FCMP behind the
test of its condition. -/
theorem floatingPointDisabledTakesFpd : Obligations.FloatingPointDisabledTakesFpd := by
  intro fd rd fj rj fk rk fa cd cond ca fcsr cj offs i12
  and_intros
  all_goals apply RaisesWhere.trapsFpd
  any_goals apply RaisesWhere.behindLa64
  any_goals exact .fpd
  any_goals exact .fpdDouble
  · exact .behind (fun _ h => condDefined_of_not_mem cond h.1) fun _ h =>
      fpGate_disabled (dp := Fmt.s.isD) h.2.1 (fun hd => nomatch hd) h.2.2 _
  · exact .behind (fun _ h => condDefined_of_not_mem cond h.1) fun _ h =>
      fpGate_disabled h.2.1 (fun _ => h.2.2.1) h.2.2.2 _

end Sys2Proof.Machine
end

section
/-!
The state after reset (spec/70_reset_and_hazards.md R890-R897) and one step (spec/60_exceptions.md R849).
-/

namespace Sys2Proof.Machine

/-- Settles O1: each field is written in the definition of the state after reset; the array registers by index. -/
theorem resetLeavesTheDeterminedState : Obligations.ResetLeavesTheDeterminedState := by
  have window (n : Fin 4) : State.reset.csr.dmw[n].extractLsb' 0 4 = 0#4 := by
    rw [show State.reset.csr.dmw = Vector.replicate 4 0 from rfl, Fin.getElem_fin, Vector.getElem_replicate]; rfl
  have monitor (n : Fin 32) : State.reset.pm.pmcfg[n] &&& ~~~0x3FF#32 = 0#32 := by
    rw [show State.reset.pm.pmcfg = Vector.replicate 32 0 from rfl, Fin.getElem_fin, Vector.getElem_replicate]; rfl
  have watchpoint (n : Fin 8) : (Vector.replicate 8 Watchpoint.reset)[n] = ⟨0#64, 0#64, 0#32, 0#32⟩ := by
    rw [Fin.getElem_fin, Vector.getElem_replicate]; rfl
  exact ⟨rfl, rfl, rfl, rfl, rfl, rfl, rfl, rfl, rfl, rfl, window, monitor, rfl, rfl,
    fun n => ⟨watchpoint n, watchpoint n⟩, rfl, rfl, rfl, rfl, rfl, rfl, rfl⟩

/-- Settles O2: every memory is empty and every register 0. -/
theorem resetMeetsTheInvariants : Obligations.ResetMeetsTheInvariants := by
  refine ⟨⟨rfl, rfl, rfl⟩, ⟨rfl, fun r => ?_⟩, ?_⟩
  · have h : State.reset.getGr r = 0#64 := by
      rw [State.getGr]
      simp only [show State.reset.gr = Vector.replicate 32 0 from rfl, Vector.getElem_replicate]
      exact ite_self _
    rw [h]; rfl
  · constructor
    case pgd => exact ⟨rfl, rfl⟩
    all_goals rfl

/-! ## One step -/

/-- A core that does not wait, or that wakes, goes on after the inputs of the step (R849 item 2). -/
theorem step_eq_stepAwake {s : State} (h : s.applyInput.idle = true → s.applyInput.wakes = true) :
    step s = stepAwake { s.applyInput with idle := false } :=
  if_neg (by simpa using h)

section
variable {s u : State} (hu : u = { s.applyInput with idle := false })
  (hidle : s.applyInput.idle = true → s.applyInput.wakes = true) (hirq : u.irqTaken = false)
include hu hidle hirq

/-- Without an interrupt a step is its fetch, and the execution of the word where the fetch answers one. -/
theorem step_eq_of_fetch_done {o : Out} (h : u.fetch = .done o) : step s = o := by
  rw [step_eq_stepAwake hidle, ← hu, stepAwake, hirq, h]; rfl

theorem step_eq_of_fetch_word {t : State} {w : BitVec 32} (h : u.fetch = .word t w) : step s = runWord t w := by
  rw [step_eq_stepAwake hidle, ← hu, stepAwake, hirq, h]; rfl

end

/-- A fetch that no watchpoint exception and no machine error stops answers the word at its physical address. -/
theorem fetch_word {u : State} {pa : Nat} (hwatch : (u.watchFetch (u.vaddr u.pc)).2 = false) (hpa : u.fetchPa = .ok pa)
    (hmerr : u.merrPending = none) :
    u.fetch = .word (u.watchFetch (u.vaddr u.pc)).1 (u.insnAt pa) := by
  have hpa' : (u.watchFetch (u.vaddr u.pc)).1.fetchPa = .ok pa := hpa
  have haddr : ∃ p, (u.watchFetch (u.vaddr u.pc)).1.fetchAddr = .ok p := by
    rw [State.fetchPa] at hpa'
    cases h : (u.watchFetch (u.vaddr u.pc)).1.fetchAddr with
    | ok p => exact ⟨p, rfl⟩
    | _ => rw [h] at hpa'; exact nomatch hpa'
  obtain ⟨p, hp⟩ := haddr
  simp only [State.fetch, hwatch, hp, hpa', watchFetch_merrPending, hmerr, Check.fetched]
  rfl

/-- A word that decodes is executed with the word latched for BADI (R849 item 6). -/
theorem runWord_of_decode {s : State} {w : BitVec 32} {i : Instr} (h : decode w = some i) :
    runWord s w = exec i { s with curInsn := w } := by
  simp only [runWord, h]

/-- A word that does not decode is not defined (R849 item 5). -/
theorem runWord_undefined {s : State} {w : BitVec 32} (h : decode w = none) :
    runWord s w = .next (({ s with curInsn := w } : State).takeExc false .ine) := by
  simp only [runWord, h]; rfl

/-- Settles O3: the step is the fetch of the word and its execution. -/
theorem stepRunsTheDecodedInstruction : Obligations.StepRunsTheDecodedInstruction := by
  rintro s u hu hidle hirq w pa word hwatch rfl hpa hmerr rfl
  have hstep := step_eq_of_fetch_word hu hidle hirq (fetch_word hwatch hpa hmerr)
  refine ⟨fun i hi => hstep.trans (runWord_of_decode hi), fun hnone => ⟨_, hstep.trans (runWord_undefined hnone), ?_⟩⟩
  obtain ⟨hentry, hbadi, hbadv, -⟩ := takeExc_spec { (u.watchFetch (u.vaddr u.pc)).1 with curInsn := u.insnAt pa } false
    .ine (fun _ h => nomatch h)
  exact ⟨hentry, hbadi rfl, hbadv⟩

end Sys2Proof.Machine
end

section
/-!
The fetch watchpoints and the exceptions of the fetch (spec/60_exceptions.md R849 item 4, R833, R838, R860), interrupts
and the wait state (R867-R874).
-/

namespace Sys2Proof.Machine

/-! ## The fetch watchpoint test (R216, R217) -/

section
variable {s : State} {a : Word}

/-- Whether implemented watchpoint `n` hits, as the status bits ask for it. -/
theorem fetchHit_iff {n : Nat} (h8 : n < 8) :
    s.watchCommon (s.watch.fwp.getD n .reset) a = true ↔ s.WatchHits s.watch.fwp[n] a := by
  rw [watchCommon_iff, Vector.getD, Array.getD, dif_pos (by simpa using h8)]; rfl

theorem watchFetch_no_hit (h : ∀ (n : Nat) (h : n < 8), n < s.cfg.fwpNum → ¬s.WatchHits s.watch.fwp[n] a) :
    s.watchFetch a = (s, false) := by
  have hzero : hitBits s.cfg.fwpNum s.watch.fwp (s.watchCommon · a) = 0#32 :=
    (hitBits_eq_zero_iff _ _ _).2 fun n h8 hnum => Bool.eq_false_iff.2 fun ht => h n h8 hnum ((fetchHit_iff h8).1 ht)
  rw [State.watchFetch, hzero]
  rfl

section
variable (hit : ∃ (n : Nat) (h : n < 8), n < s.cfg.fwpNum ∧ s.WatchHits s.watch.fwp[n] a)
include hit

theorem fetchHitBits_ne_zero : hitBits s.cfg.fwpNum s.watch.fwp (s.watchCommon · a) ≠ 0#32 := fun hzero => by
  obtain ⟨n, h8, hnum, hn⟩ := hit
  exact absurd ((fetchHit_iff h8).2 hn) (by rw [(hitBits_eq_zero_iff _ _ _).1 hzero n h8 hnum]; decide)

theorem watchFetch_skip (hskip : s.watch.fwps.getLsbD 16 = true) : (s.watchFetch a).2 = false ∧
    ∀ i, (s.watchFetch a).1.watch.fwps.getLsbD i = (s.watch.fwps.getLsbD i && decide (i ≠ 16)) := by
  rw [State.watchFetch, applyHit_skip (fetchHitBits_ne_zero hit) hskip]
  exact ⟨rfl, putBit_false_getLsbD _ 16⟩

theorem watchFetch_raise (hskip : s.watch.fwps.getLsbD 16 = false) : (s.watchFetch a).2 = true ∧
    ∀ i, (s.watchFetch a).1.watch.fwps.getLsbD i = true ↔ s.watch.fwps.getLsbD i = true ∨
      ∃ h : i < 8, i < s.cfg.fwpNum ∧ s.WatchHits s.watch.fwp[i] a := by
  rw [State.watchFetch, applyHit_raise (fetchHitBits_ne_zero hit) hskip]
  refine ⟨rfl, fun i => ?_⟩
  show (_ ||| hitBits _ _ _).getLsbD i = true ↔ _
  rw [BitVec.getLsbD_or, Bool.or_eq_true, hitBits_getLsbD]
  refine or_congr_right ?_
  by_cases h8 : i < 8
  · simp [h8, fetchHit_iff h8]
  · simp [h8]

end
end

/-! ## Entries from the state after the test -/

/-- Refill entry from a state that differs in the watchpoint status only. -/
theorem RefillEntry.of_watch {s t : State} {va : Word} {x : WatchCsr}
    (h : RefillEntry { s with watch := x } t va) : RefillEntry s t va :=
  { h with dbg := h.dbg.of_dbg rfl, out := { h.out with } }

/-- Machine error entry from a state that differs in the watchpoint status only. -/
theorem MerrEntry.of_watch {s t : State} {ev : MerrEvent} {x : WatchCsr}
    (h : MerrEntry { s with watch := x } t ev) : MerrEntry s t ev :=
  { h with dbg := h.dbg.of_dbg rfl }

/-! ## What a fetch that fails answers (R251, R849 item 4) -/

section
variable {u w : State} (hw : w = (u.watchFetch (u.vaddr u.pc)).1)
include hw

theorem fetch_watchpoint (h : (u.watchFetch (u.vaddr u.pc)).2 = true) :
    u.fetch = .done (.next (w.takeExc true .wpef)) := by
  simp only [State.fetch, h, hw]; rfl

theorem fetch_trap (hwatch : (u.watchFetch (u.vaddr u.pc)).2 = false) {x : Exc} (h : u.fetchAddr = .trap x) :
    u.fetch = .done (.next (w.takeExc true x)) := by
  have h' : (u.watchFetch (u.vaddr u.pc)).1.fetchAddr = .trap x := h
  simp only [State.fetch, hwatch, h', hw]; rfl

theorem fetch_merr (hwatch : (u.watchFetch (u.vaddr u.pc)).2 = false) {p : Nat × BitVec 2} (h : u.fetchAddr = .ok p)
    {ev : MerrEvent} (hev : u.merrPending = some ev) : u.fetch = .done (.next (w.enterMerr ev)) := by
  have h' : (u.watchFetch (u.vaddr u.pc)).1.fetchAddr = .ok p := h
  simp only [State.fetch, hwatch, h', Check.fetched, watchFetch_merrPending, hev, hw]; rfl

end

/-- The test of the pc, in numbers (R251 step 2). -/
theorem misaligned_iff (va : Word) : (va.extractLsb' 0 2 != 0#2) = true ↔ va.toNat % 4 ≠ 0 := by
  rw [bne_iff_ne, ne_eq, ← BitVec.toNat_inj, BitVec.extractLsb'_toNat]
  simp

theorem fetchAddr_adef {u : State} (h : (u.vaddr u.pc).toNat % 4 ≠ 0 ∨ u.addressError .fetch (u.vaddr u.pc) = true) :
    u.fetchAddr = .trap (.adef (u.vaddr u.pc)) :=
  if_pos (Bool.or_eq_true_iff.2 (h.imp_left (misaligned_iff _).2))

/-- What the entry of an exception at the fetch leaves, seen from the state before the watchpoint test. -/
theorem fetchEntry_spec {u w : State} (hw : w = (u.watchFetch (u.vaddr u.pc)).1) (x : Exc) (hx : ∀ va, x ≠ .tlbr va) :
    GeneralEntry u (w.takeExc true x) x.code.1.toNat x.code.1 x.code.2 ∧
    (w.takeExc true x).csr.badv = (match x.badVa with | none => u.csr.badv | some va => u.vaddr va) ∧
    (w.takeExc true x).mmu = (match x.badVa with
      | none => u.mmu
      | some va => if x.isPage then { u.mmu with tlbehi := u.cfg.vppnField (u.vaddr va) } else u.mmu) ∧
    (w.takeExc true x).watch = w.watch ∧ (w.takeExc true x).fcsr0 = u.fcsr0 := by
  subst hw
  obtain ⟨hentry, -, hbadv, hmmu, hwatch, hfcsr⟩ := takeExc_spec (u.watchFetch (u.vaddr u.pc)).1 true x hx
  exact ⟨hentry.of_records rfl rfl rfl, hbadv, hmmu, hwatch, hfcsr⟩

/-- A page exception of the fetch. -/
theorem fetchPage_spec {u w : State} (hw : w = (u.watchFetch (u.vaddr u.pc)).1) {x : Exc} {va : Word}
    (hx : (x, va) ∈ [(Exc.pif va, va), (.pnx va, va), (.ppi va, va)]) (hva : u.vaddr va = u.vaddr u.pc) :
    let t := w.takeExc true x
    GeneralEntry u t x.code.1.toNat x.code.1 x.code.2 ∧ t.csr.badv = u.vaddr va ∧ t.watch = w.watch ∧
      t.fcsr0 = u.fcsr0 ∧ t.mmu = { u.mmu with tlbehi := t.mmu.tlbehi } ∧
      (u.cfg.valen ≤ 64 → ∀ j, 13 ≤ j → j < u.cfg.valen → t.mmu.tlbehi.getLsbD j = (u.vaddr u.pc).getLsbD j) := by
  have hpage : x.badVa = some va ∧ x.isPage = true ∧ ∀ v, x ≠ .tlbr v := by
    simp only [List.mem_cons, Prod.mk.injEq, and_true, List.not_mem_nil, or_false] at hx
    obtain rfl | rfl | rfl := hx <;> exact ⟨rfl, rfl, fun _ h => nomatch h⟩
  obtain ⟨hbad, hpage, hx⟩ := hpage
  obtain ⟨hentry, hbadv, hmmu, hwatch, hfcsr⟩ := fetchEntry_spec hw x hx
  rw [hbad] at hbadv hmmu
  simp only [hpage, if_true] at hmmu
  refine ⟨hentry, hbadv, hwatch, hfcsr, by rw [hmmu], fun hv j h13 hj => ?_⟩
  rw [hmmu, ← hva]
  exact vppnField_get hv (fun hl => vaddr_la32 hl _) h13 hj

/-! ## What a translation raises -/

/-- The permission tests raise a page exception for the address they are asked for (R298-R300). -/
theorem pageCheck_some {s : State} {k : AccessKind} {va : Word} {p : TlbPage} {x : Exc}
    (h : s.pageCheck k va p = some x) :
    x ∈ [Exc.pil va, .pis va, .pif va, .pme va, .pnr va, .pnx va, .ppi va] := by
  unfold State.pageCheck at h
  split_ifs at h <;> cases h
  · cases k <;> simp [AccessKind.pageInvalid]
  all_goals simp

/-- A translation that fails raises TLBR or a page exception for the address it is asked for (R297-R302). -/
theorem translate_trap {s : State} {k : AccessKind} {va : Word} {x : Exc} (h : s.translate k va = .trap x) :
    x ∈ [Exc.tlbr va, .pil va, .pis va, .pif va, .pme va, .pnr va, .pnx va, .ppi va] := by
  unfold State.translate at h
  split_ifs at h
  split at h
  case h_1 => cases h
  unfold State.tlbTranslate at h
  cases hlookup : s.tlbLookup va with
  | trap y =>
    unfold State.tlbLookup at hlookup
    split_ifs at hlookup
    split at hlookup <;> cases hlookup
  | fault | refused => rw [hlookup] at h; cases h
  | ok hit =>
    rw [hlookup] at h
    cases hit with
    | none => cases h; exact List.mem_cons_self
    | some p =>
      simp only [Check.bind] at h
      split at h
      · rename_i hpage
        cases h
        exact List.mem_cons_of_mem _ (pageCheck_some hpage)
      · cases h

/-- Settles O54: the watchpoint test, then the address part, then the machine error, each before the next. -/
theorem fetchStageExceptions : Obligations.FetchStageExceptions := by
  refine ⟨fun s a => ⟨rfl, watchFetch_no_hit, fun hit => ⟨watchFetch_skip hit, watchFetch_raise hit⟩⟩, ?_⟩
  intro s u hu hidle hirq w hw
  have hstep {t : State} : u.fetch = .done (.next t) → step s = .next t := step_eq_of_fetch_done hu hidle hirq
  refine ⟨fun hraise => ?watchpoint, fun hwatch => ⟨fun hadef => ?adef, fun h4 hok => ⟨fun va htrap => ?refill,
    fun x va htrap hx => ?page, fun p ev htr hev => ?merr⟩⟩⟩
  case watchpoint =>
    obtain ⟨hentry, hbadv, hmmu, hwt, hfcsr⟩ := fetchEntry_spec hw .wpef fun _ h => nomatch h
    exact ⟨_, hstep (fetch_watchpoint hw hraise), hentry, hbadv, hwt, hmmu, hfcsr⟩
  case adef =>
    obtain ⟨hentry, hbadv, hmmu, hwt, hfcsr⟩ := fetchEntry_spec hw (.adef (u.vaddr u.pc)) fun _ h => nomatch h
    exact ⟨_, hstep (fetch_trap hw hwatch (fetchAddr_adef hadef)), hentry, hbadv.trans (vaddr_vaddr _ _), hwt, hmmu,
      hfcsr⟩
  case refill =>
    obtain ⟨hentry, -, hwt⟩ := takeExc_tlbr_spec w true va
    refine ⟨_, hstep (fetch_trap hw hwatch ((fetchAddr_aligned h4 hok).trans htrap)), ?_, hwt⟩
    subst hw
    exact hentry.of_watch
  case page =>
    have hva : va = u.vaddr u.pc := by
      have h := translate_trap htrap
      simp only [List.mem_cons, Prod.mk.injEq, and_true, List.not_mem_nil, or_false] at hx
      obtain rfl | rfl | rfl := hx <;> simpa using h
    exact ⟨_, hstep (fetch_trap hw hwatch ((fetchAddr_aligned h4 hok).trans htrap)),
      fetchPage_spec hw hx (by rw [hva, vaddr_vaddr])⟩
  case merr =>
    have hentry := enterMerr_spec w ev
    refine ⟨_, hstep (fetch_merr hw hwatch ((fetchAddr_aligned h4 hok).trans htr) hev), ?_, enterMerr_watch w ev⟩
    subst hw
    exact hentry.of_watch

end Sys2Proof.Machine
end

section
/-!
Interrupts and the wait state (spec/60_exceptions.md R867-R874), and what the inputs of a step put into memory and the
IOCSR space (R849 item 1, R42).
-/

namespace Sys2Proof.Machine

/-! ## The interrupt bits (R865, R868, R871) -/

theorem isBits_getLsbD (s : State) : s.isBits.getLsbD 0 = s.csr.estat.getLsbD 0 ∧
    s.isBits.getLsbD 1 = s.csr.estat.getLsbD 1 ∧ (∀ k < 8, s.isBits.getLsbD (2 + k) = s.extIrq.getLsbD k) ∧
    s.isBits.getLsbD 10 = s.pmi ∧ s.isBits.getLsbD 11 = s.timer.ti ∧ s.isBits.getLsbD 12 = s.extIrq.getLsbD 8 := by
  simp only [State.isBits, BitVec.getLsbD_append, BitVec.getLsbD_extractLsb', BitVec.getLsbD_ofBool]
  refine ⟨by simp, by simp, fun k hk => ?_, by simp, by simp, by simp⟩
  simp [hk, show ¬2 + k ≤ 1 by omega]

theorem pmi_iff (s : State) : s.pmi = true ↔ ∃ (n : Nat) (h : n < 32), n < s.cfg.pmCount ∧
    s.pm.pmcfg[n].getLsbD 20 = true ∧ s.pm.pmcnt[n].getLsbD (if s.cfg.la64 then 63 else 31) = true := by
  have hget {α : Type} (v : Vector α 32) (d : α) {n : Nat} (h : n < 32) : v.getD n d = v[n] := by
    rw [Vector.getD, Array.getD, dif_pos (by simpa using h)]; rfl
  simp only [State.pmi, List.any_eq_true, List.mem_range, Bool.and_eq_true, decide_eq_true_eq, and_assoc]
  refine exists_congr fun n => ⟨fun ⟨h, hn, hcfg, hcnt⟩ => ⟨h, hn, ?_, ?_⟩, fun ⟨h, hn, hcfg, hcnt⟩ => ⟨h, hn, ?_, ?_⟩⟩
  · rwa [hget _ _ h] at hcfg
  · rwa [hget _ _ h] at hcnt
  · rwa [hget _ _ h]
  · rwa [hget _ _ h]

theorem intVec_getLsbD (s : State) {n : Nat} (h : n < 13) :
    s.intVec.getLsbD n = (s.isBits.getLsbD n && s.csr.ecfg.getLsbD n) := by
  simp [State.intVec, h]

/-- The interrupt that is taken: the highest one pending and enabled (R872). -/
theorem highest_intVec {s : State} (h : s.intVec ≠ 0#13) {n : Nat} (hn : n = Nat.log2 s.intVec.toNat) :
    n < 13 ∧ s.intVec.getLsbD n = true ∧ ∀ m, n < m → s.intVec.getLsbD m = false := by
  have h0 : s.intVec.toNat ≠ 0 := fun h' => h (BitVec.eq_of_toNat_eq h')
  have hbit : s.intVec.getLsbD n = true := hn ▸ Nat.testBit_log2 h0
  refine ⟨BitVec.lt_of_getLsbD hbit, hbit, fun m hm => Nat.testBit_lt_two_pow ?_⟩
  exact Nat.lt_log2_self.trans_le (Nat.pow_le_pow_right (by decide) (hn ▸ hm))

theorem irqTaken_iff (s : State) : s.irqTaken = true ↔ s.csr.crmd.getLsbD 2 = true ∧
    ∃ n < 13, s.isBits.getLsbD n = true ∧ s.csr.ecfg.getLsbD n = true := by
  rw [State.irqTaken, Bool.and_eq_true, intVec_pending]

theorem wakes_iff (s : State) : s.wakes = true ↔
    ((s.cfg.idleWakeNeedsIe = true → s.csr.crmd.getLsbD 2 = true) ∧
      ∃ n < 13, s.isBits.getLsbD n = true ∧ s.csr.ecfg.getLsbD n = true) ∨ s.merrPending.isSome = true := by
  rw [State.wakes, Bool.or_eq_true, Bool.and_eq_true, intVec_pending, and_comm]
  cases s.cfg.idleWakeNeedsIe <;> simp

/-! ## Bytes other agents put at their addresses (R41, R42) -/

/-- Bytes put at addresses where `p` holds, the first one first. -/
def putCells (p : Nat → Bool) (m : List Host.Cell) (l : List Host.Cell) : List Host.Cell :=
  l.foldl (fun m c => putByte p m c.1 c.2) m

section
variable {p : Nat → Bool} {m : List Host.Cell} (hm : sparseWf 0#8 m = true) {a : Nat}
include hm

theorem putCells_other (l : List Host.Cell) (h : (∀ c ∈ l, c.1 ≠ a) ∨ p a = false) :
    sparseGet 0#8 (putCells p m l) a = sparseGet 0#8 m a := by
  induction l generalizing m with
  | nil => rfl
  | cons c l ih =>
    rw [putCells, List.foldl_cons]
    refine (ih (putByte_wf p hm c.1 c.2) (h.imp_left fun h d hd => h d (List.mem_cons_of_mem _ hd))).trans ?_
    rw [putByte_get p hm, if_neg]
    rintro ⟨rfl, hp⟩
    obtain h | h := h
    · exact h c List.mem_cons_self rfl
    · exact absurd hp (by rw [h]; decide)

theorem putCells_wf (l : List Host.Cell) : sparseWf 0#8 (putCells p m l) = true := by
  induction l generalizing m with
  | nil => exact hm
  | cons c l ih => exact ih (putByte_wf p hm c.1 c.2)

/-- The last byte put at an address counts. -/
theorem putCells_last {pre post : List Host.Cell} {b : Byte} (hpost : ∀ c ∈ post, c.1 ≠ a) (hp : p a = true) :
    sparseGet 0#8 (putCells p m (pre ++ (a, b) :: post)) a = b := by
  have hpre := putCells_wf (p := p) hm pre
  rw [putCells, List.foldl_append, List.foldl_cons]
  refine (putCells_other (putByte_wf p hpre a b) post (.inl hpost)).trans ?_
  rw [putByte_get p hpre, if_pos ⟨rfl, hp⟩]

end

/-! ## The inputs of a step -/

theorem foldl_otherStore_mem (l : List Host.Cell) (s : State) :
    (l.foldl State.otherStore s).mem = putCells (backed s.cfg) s.mem l := by
  induction l generalizing s with
  | nil => rfl
  | cons c l ih => exact ih (s.otherStore c)

theorem foldl_otherIocsr_iocsr (l : List Host.Cell) (s : State) :
    (l.foldl State.otherIocsr s).iocsr = putCells (iocsrDefined s.cfg) s.iocsr l := by
  induction l generalizing s with
  | nil => rfl
  | cons c l ih => exact ih (s.otherIocsr c)

/-- LLbit is lost exactly to a store in the granule of LLaddr (R42). -/
theorem foldl_otherStore_llbit (l : List Host.Cell) (s : State) :
    (l.foldl State.otherStore s).llbit = true ↔ s.llbit = true ∧
      ∀ c ∈ l, c.1 / 2 ^ s.cfg.llGranuleLog2 ≠ s.lladdr / 2 ^ s.cfg.llGranuleLog2 := by
  induction l generalizing s with
  | nil => simp
  | cons c l ih =>
    rw [List.foldl_cons, ih, otherStore_cfg, otherStore_lladdr, List.forall_mem_cons, ← and_assoc]
    refine and_congr_left fun _ => ?_
    show (s.llbit && !sameGranule s.cfg s.lladdr c.1) = true ↔ _
    rw [Bool.and_eq_true, Bool.not_eq_true', sameGranule, beq_eq_false_iff_ne, ne_comm]

theorem applyInput_nil {s : State} (h : s.inputs = []) :
    s.applyInput = { s with timer := s.clockAfter s.cfg.stableStep } := by
  have hticks : s.applyInput = s.ticks s.cfg.stableStep := by unfold State.applyInput; rw [h]
  rw [hticks, State.ticks, State.clockAfter]
  split <;> rfl

section
variable {s : State} {i : StepInput} {rest : List StepInput} (h : s.inputs = i :: rest)
include h

/-- The state before the bytes of other agents are put in. -/
theorem applyInput_cons : s.applyInput = i.iocsrStores.foldl State.otherIocsr (i.stores.foldl State.otherStore
    { s.ticks i.ticks with extIrq := i.lines, merrPending := i.merr.or s.merrPending, inputs := rest }) := by
  simp only [State.applyInput, h]

theorem applyInput_mem : s.applyInput.mem = putCells (backed s.cfg) s.mem i.stores := by
  rw [applyInput_cons h, foldl_keeps (g := State.mem) otherIocsr_mem, foldl_otherStore_mem]
  simp only [ticks_cfg, ticks_mem]

theorem applyInput_iocsr : s.applyInput.iocsr = putCells (iocsrDefined s.cfg) s.iocsr i.iocsrStores := by
  rw [applyInput_cons h, foldl_otherIocsr_iocsr, foldl_keeps (g := State.iocsr) otherStore_iocsr,
    foldl_keeps (g := State.cfg) otherStore_cfg]
  simp only [ticks_cfg, ticks_iocsr]

theorem applyInput_llbit : s.applyInput.llbit = true ↔ s.llbit = true ∧
    ∀ c ∈ i.stores, c.1 / 2 ^ s.cfg.llGranuleLog2 ≠ s.lladdr / 2 ^ s.cfg.llGranuleLog2 := by
  rw [applyInput_cons h, foldl_keeps (g := State.llbit) otherIocsr_llbit, foldl_otherStore_llbit]
  simp only [ticks_cfg, ticks_lladdr, ticks_llbit]

theorem applyInput_lines : s.applyInput.inputs = rest ∧ s.applyInput.extIrq = i.lines ∧
    s.applyInput.merrPending = if i.merr.isSome then i.merr else s.merrPending := by
  rw [applyInput_cons h, foldl_keeps (g := State.inputs) otherIocsr_inputs,
    foldl_keeps (g := State.inputs) otherStore_inputs, foldl_keeps (g := State.extIrq) otherIocsr_extIrq,
    foldl_keeps (g := State.extIrq) otherStore_extIrq, foldl_keeps (g := State.merrPending) otherIocsr_merrPending,
    foldl_keeps (g := State.merrPending) otherStore_merrPending]
  cases i.merr <;> exact ⟨rfl, rfl, rfl⟩

theorem applyInput_clock : s.applyInput.timer = s.clockAfter i.ticks := by
  rw [applyInput_timer, State.comingTicks, h]

theorem applyInput_bytes_other (hs : s.Canonical) (a : Nat) :
    ((∀ c ∈ i.stores, c.1 ≠ a) ∨ backed s.cfg a = false → s.applyInput.memByte a = s.memByte a) ∧
    ((∀ c ∈ i.iocsrStores, c.1 ≠ a) ∨ iocsrDefined s.cfg a = false → s.applyInput.iocsrByte a = s.iocsrByte a) := by
  constructor <;> intro hno
  · rw [State.memByte, State.memByte, applyInput_cfg, applyInput_mem h, putCells_other hs.1 _ hno]
  · rw [State.iocsrByte, State.iocsrByte, applyInput_cfg, applyInput_iocsr h, putCells_other hs.2.1 _ hno]

theorem applyInput_bytes_last (hs : s.Canonical) {a : Nat} {pre post : List Host.Cell} {b : Byte}
    (hpost : ∀ c ∈ post, c.1 ≠ a) :
    (i.stores = pre ++ (a, b) :: post → backed s.cfg a = true → s.applyInput.memByte a = b) ∧
    (i.iocsrStores = pre ++ (a, b) :: post → iocsrDefined s.cfg a = true → s.applyInput.iocsrByte a = b) := by
  constructor <;> intro heq hp
  · rw [State.memByte, applyInput_cfg, if_pos hp, applyInput_mem h, heq, putCells_last hs.1 hpost hp]
  · rw [State.iocsrByte, applyInput_cfg, if_pos hp, applyInput_iocsr h, heq, putCells_last hs.2.1 hpost hp]

end

/-- An interrupt is taken without a fetch (R849 item 3, R872). -/
theorem step_interrupt {s u : State} (hu : u = { s.applyInput with idle := false }) (hirq : u.irqTaken = true) :
    ∃ t n, step s = .next t ∧ n < 13 ∧ u.isBits.getLsbD n = true ∧ u.csr.ecfg.getLsbD n = true ∧
      (∀ m, n < m → m < 13 → (u.isBits.getLsbD m && u.csr.ecfg.getLsbD m) = false) ∧
      GeneralEntry u t (64 + n) 0#6 0#9 ∧ t.csr.badv = u.csr.badv ∧ t.csr.badi = u.csr.badi ∧ t.fcsr0 = u.fcsr0 ∧
      t.mmu = u.mmu ∧ t.watch = u.watch := by
  have hvec : u.intVec ≠ 0#13 := by simpa using (Bool.and_eq_true_iff.1 hirq).2
  have hawake : s.applyInput.idle = true → s.applyInput.wakes = true := fun _ => by
    have h := (irqTaken_iff u).1 hirq
    subst hu
    exact (wakes_iff _).2 (.inl ⟨fun _ => h.1, h.2⟩)
  obtain ⟨hn, hbit, hhigh⟩ := highest_intVec hvec rfl
  rw [intVec_getLsbD u hn, Bool.and_eq_true] at hbit
  refine ⟨u.enterIrq, Nat.log2 u.intVec.toNat, ?_, hn, hbit.1, hbit.2, fun m hm h13 => ?_, enterGeneral_spec _ _ _ _, rfl,
    rfl, rfl, rfl, rfl⟩
  · rw [step_eq_stepAwake hawake, ← hu, stepAwake, if_pos hirq]
  · rw [← intVec_getLsbD u h13, hhigh m hm]

/-- Settles O55: the interrupt bits, the wait state and the inputs, each by its own lemma. -/
theorem interruptsAndTheWaitState : Obligations.InterruptsAndTheWaitState := by
  refine ⟨fun s u => step_interrupt, irqTaken_iff, fun s => ?bits, fun s hidle hwakes => ?asleep, wakes_iff,
    applyInput_spec, fun s => applyInput_nil, fun s i rest h => ?input⟩
  case bits =>
    obtain ⟨h0, h1, hlines, hpmi, hti, hipi⟩ := isBits_getLsbD s
    exact ⟨h0, h1, hlines, hti, hipi, by rw [hpmi, pmi_iff]⟩
  case asleep => exact if_pos (by rw [hidle, hwakes]; rfl)
  case input =>
    obtain ⟨hin, hlines, hmerr⟩ := applyInput_lines h
    exact ⟨hin, hlines, applyInput_clock h, hmerr, applyInput_llbit h, fun hs a =>
      ⟨(applyInput_bytes_other h hs a).1, (applyInput_bytes_other h hs a).2,
        fun pre b post hpost => applyInput_bytes_last h hs hpost⟩⟩

end Sys2Proof.Machine
end

section
/-!
The exceptions of the address part of an access (spec/60_exceptions.md R834, R839, R840; spec/20_memory.md R242-R244,
R250).
-/

namespace Sys2Proof.Machine

/-! ## One page or two (R244) -/

section
variable {a : Access} {room : Nat} (hroom : room = 4096 - a.va.toNat % 4096)
include hroom

theorem firstPart_of_onePage (h : a.size ≤ room) : a.firstPart = a.size := by
  rw [Access.firstPart, ← hroom, min_eq_left h]

theorem firstPart_of_twoPages (h : room < a.size) : a.firstPart = room := by
  rw [Access.firstPart, ← hroom, min_eq_right h.le]

end

section
variable {s : State} {a : Access} {room : Nat} {va2 : Word} (hroom : room = 4096 - a.va.toNat % 4096)
  (hva2 : va2 = s.vaddr (a.va + BitVec.ofNat 64 room))

theorem misaligned_eq_false (h : (a.strict = true ∨ s.cfg.ual = false ∨ s.csr.misc.getLsbD (12 + s.plv.toNat) = true) →
    a.va.toNat % a.size = 0) : s.misaligned a = false := by
  rw [← Bool.not_eq_true]
  intro hmis
  simp only [State.misaligned, State.alignChecked, Bool.and_eq_true, bne_iff_ne, Bool.or_eq_true,
    Bool.not_eq_true'] at hmis
  exact hmis.1 (h hmis.2)

/-- Which addresses the legality check looks at (R839; log 57). -/
def State.accessIllegal (s : State) (a : Access) : Bool :=
  s.addressError a.kind a.va || decide (a.firstPart < a.size) && s.addressError a.kind (s.vaPlus a.va a.firstPart)

include hroom hva2 in
theorem accessIllegal_iff : s.accessIllegal a = true ↔
    s.addressError a.kind a.va = true ∨ room < a.size ∧ s.addressError a.kind va2 = true := by
  rw [State.accessIllegal, Bool.or_eq_true, Bool.and_eq_true, decide_eq_true_eq]
  refine or_congr_right ?_
  by_cases h : room < a.size
  · rw [firstPart_of_twoPages hroom h, hva2]; rfl
  · simp [firstPart_of_onePage hroom (not_lt.1 h), h]

section
variable (hmis : s.misaligned a = false)
include hmis

theorem accessAddrs_illegal (h : s.accessIllegal a = true) : s.accessAddrs a = .trap (.adem a.va) :=
  (if_neg (by rw [hmis]; decide)).trans (if_pos h)

variable (hlegal : s.accessIllegal a = false)
include hlegal

theorem accessAddrs_bce (h : a.outOfBound = true) : s.accessAddrs a = .trap (.bce a.va) :=
  (if_neg (by rw [hmis]; decide)).trans ((if_neg (by rw [← State.accessIllegal, hlegal]; decide)).trans (if_pos h))

/-- What is left after the checks is the translation of one page or of two. -/
theorem accessAddrs_translate (h : a.outOfBound = false) : s.accessAddrs a =
    (s.translate a.kind a.va).bind fun p1 =>
      if a.firstPart = a.size then .ok (physBytes p1.1 a.size, p1.2)
      else (s.translate a.kind (s.vaPlus a.va a.firstPart)).bind fun p2 =>
        if p1.2 ≠ p2.2 then .trap (.ale a.va)
        else .ok (physBytes p1.1 a.firstPart ++ physBytes p2.1 (a.size - a.firstPart), p1.2) :=
  (if_neg (by rw [hmis]; decide)).trans ((if_neg (by rw [← State.accessIllegal, hlegal]; decide)).trans
    (if_neg (by rw [h]; decide)))

variable (hbound : a.outOfBound = false)
include hbound

theorem accessAddrs_firstPage_trap {x : Exc} (h : s.translate a.kind a.va = .trap x) : s.accessAddrs a = .trap x := by
  rw [accessAddrs_translate hmis hlegal hbound, h]; rfl

variable {pa : Nat} {mat : BitVec 2} (hpa : s.translate a.kind a.va = .ok (pa, mat))
include hpa hroom

theorem accessAddrs_onePage (h : a.size ≤ room) :
    s.accessAddrs a = .ok ((List.range a.size).map (pa + ·), mat) := by
  rw [accessAddrs_translate hmis hlegal hbound, hpa]
  exact if_pos (firstPart_of_onePage hroom h)

include hva2

/-- An access of two pages is the translation of the second one. -/
theorem accessAddrs_twoPages (h : room < a.size) : s.accessAddrs a =
    (s.translate a.kind va2).bind fun p2 => if mat ≠ p2.2 then .trap (.ale a.va)
      else .ok ((List.range room).map (pa + ·) ++ (List.range (a.size - room)).map (p2.1 + ·), mat) := by
  have hpart := firstPart_of_twoPages hroom h
  rw [accessAddrs_translate hmis hlegal hbound, hpa, hpart, hva2]
  exact if_neg h.ne

end
end

/-- The order of R250: alignment, legality, bound, translation of the first page, of the second one. -/
theorem accessAddrs_spec (s : State) (a : Access) (checked : Prop) (room : Nat) (va2 : Word)
    (hchecked : checked ↔ a.strict = true ∨ s.cfg.ual = false ∨ s.csr.misc.getLsbD (12 + s.plv.toNat) = true)
    (hroom : room = 4096 - a.va.toNat % 4096) (hva2 : va2 = s.vaddr (a.va + BitVec.ofNat 64 room)) :
    (checked → a.va.toNat % a.size ≠ 0 → s.accessAddrs a = .trap (.ale a.va)) ∧
    ((checked → a.va.toNat % a.size = 0) →
      ((s.addressError a.kind a.va = true ∨ (room < a.size ∧ s.addressError a.kind va2 = true)) →
        s.accessAddrs a = .trap (.adem a.va)) ∧
      (s.addressError a.kind a.va = false → (room < a.size → s.addressError a.kind va2 = false) →
        (a.outOfBound = true → s.accessAddrs a = .trap (.bce a.va)) ∧
        (a.outOfBound = false →
          (∀ x, s.translate a.kind a.va = .trap x → s.accessAddrs a = .trap x) ∧
          (∀ pa mat, s.translate a.kind a.va = .ok (pa, mat) →
            (a.size ≤ room → s.accessAddrs a = .ok ((List.range a.size).map (pa + ·), mat)) ∧
            (room < a.size →
              (∀ x, s.translate a.kind va2 = .trap x → s.accessAddrs a = .trap x) ∧
              (∀ pb mat2, s.translate a.kind va2 = .ok (pb, mat2) →
                (mat2 ≠ mat → s.accessAddrs a = .trap (.ale a.va)) ∧
                (mat2 = mat → s.accessAddrs a =
                  .ok ((List.range room).map (pa + ·) ++ (List.range (a.size - room)).map (pb + ·), mat)))))))) := by
  refine ⟨fun hc hne => accessAddrs_misaligned hne (hchecked.1 hc), fun halign => ?_⟩
  have hmis := misaligned_eq_false fun h => halign (hchecked.2 h)
  refine ⟨fun hill => accessAddrs_illegal hmis ((accessIllegal_iff hroom hva2).2 hill), fun hlegal1 hlegal2 => ?_⟩
  have hlegal : s.accessIllegal a = false := by
    rw [← Bool.not_eq_true, accessIllegal_iff hroom hva2, hlegal1]
    rintro (h | ⟨hlt, h⟩)
    · exact nomatch h
    · rw [hlegal2 hlt] at h; exact nomatch h
  refine ⟨accessAddrs_bce hmis hlegal, fun hb => ⟨fun x => accessAddrs_firstPage_trap hmis hlegal hb, fun pa mat hpa =>
    ⟨accessAddrs_onePage hroom hmis hlegal hb hpa, fun hlt => ?_⟩⟩⟩
  rw [accessAddrs_twoPages hroom hva2 hmis hlegal hb hpa hlt]
  refine ⟨fun x hx => by rw [hx]; rfl, fun pb mat2 hpb => ⟨fun hne => ?_, fun heq => ?_⟩⟩
  · rw [hpb]; exact if_pos hne.symm
  · rw [hpb]; exact if_neg (not_not.2 heq.symm)

/-- An access whose bytes may all be used passes (R250 step 7). -/
theorem accessBytes_of_usable {s : State} {a : Access} {as : List Nat} {mat : BitVec 2}
    (h : s.accessAddrs a = .ok (as, mat)) (hmat : mat ≠ 3#2) (hok : ∀ b ∈ as, byteRefusal s.cfg a.kind b = none) :
    s.accessBytes a = .ok (as, mat) := by
  have hcheck : physCheck s.cfg a.kind mat as = .ok () := by
    rw [physCheck, if_neg hmat, List.findSome?_eq_none_iff.2 hok]
  rw [State.accessBytes, h, Check.bind, hcheck, Check.bind]

theorem AccessFirst.takesAddressExceptions {i : Instr} {P : State → Prop} {acc : State → Access}
    (h : AccessFirst i P acc) : TakesAddressExceptions i P acc := takesAddressExceptions_of h

/-- Settles O53: the address part by `accessAddrs_spec`, and every form makes its access behind the gates of its
shape. -/
theorem translationExceptionsOfAccesses : Obligations.TranslationExceptionsOfAccesses := by
  refine ⟨fun s a checked room va2 _ _ => accessAddrs_spec s a checked room va2, fun s a as mat => accessBytes_of_usable,
    fun s k va x => translate_trap, fun va => ⟨rfl, rfl, rfl, rfl, rfl, rfl, rfl, rfl, rfl, rfl, rfl⟩,
    fun fd rd rj rk i12 i14 => ?_⟩
  rw [← simm14_eq]  -- the offset as the meanings of LDPTR, STPTR, LL and SC write it
  and_intros
  all_goals apply AccessFirst.takesAddressExceptions
  exacts [
    -- LD, LDX, LDPTR
    .always fun s => loadS_withAccess s _ rd, .always fun s => loadS_withAccess s _ rd,
    .always fun s => loadS_withAccess s _ rd, .la64, .always fun s => loadU_withAccess s _ rd,
    .always fun s => loadU_withAccess s _ rd, .la64, .la64, .la64, .la64, .la64, .la64, .la64, .la64, .la64, .la64,
    -- ST, STX, STPTR
    .always fun s => store_withAccess s _ _, .always fun s => store_withAccess s _ _,
    .always fun s => store_withAccess s _ _, .la64, .la64, .la64, .la64, .la64, .la64, .la64,
    -- FLD, FST, FLDX, FSTX
    .fp, .fp, .fp, .fp, .la64Fp, .la64Fp, .la64Fp, .la64Fp,
    -- LL, SC
    .always fun s => loadLinked_withAccess s 4 rd rj i14, .la64,
    fun s _ => storeConditional_withAddrs s 4 rd rj i14,
    fun s hla => (storeConditional_withAddrs s 8 rd rj i14).imp fun _ hk => (la64Only_of hla _).trans hk,
    -- AM*
    .amo, .amo, .amo, .amo, .amo, .amo, .amo, .amo, .amo, .amo, .amo, .amo, .amo, .amo, .amo, .amo, .amo, .amo,
    .amo, .amo, .amo, .amo, .amo, .amo, .amo, .amo, .amo, .amo, .amo, .amo, .amo, .amo, .amo, .amo, .amo, .amo,
    -- the bound-check forms
    .la64, .la64, .la64, .la64, .la64, .la64, .la64, .la64, .la64, .la64, .la64, .la64, .la64, .la64, .la64, .la64,
    .la64Fp, .la64Fp, .la64Fp, .la64Fp, .la64Fp, .la64Fp, .la64Fp, .la64Fp]

end Sys2Proof.Machine
end

section
/-!
Floating-point bit operations, moves, loads, stores and branches (spec/46_fp_arith.md R682-R699,
spec/47_fp_cmp_conv_move.md R733-R750, spec/48_fp_branch_mem.md).
-/

namespace Sys2Proof.Machine

/-! ## Sign, class and select -/

theorem writesFrSome_of {i : Instr} {P : State → Prop} {f : Fmt} {fd : Reg} {R : State → Word → Prop} (x : State → Word)
    (h : ∀ s, P s → exec i s = s.fpPut f fd (x s)) (hR : ∀ s, P s → R s (x s)) : WritesFrSome i P f fd R := fun s hs => by
  obtain ⟨t, ht, hspec⟩ := fpPut_spec s f fd (x s)
  exact ⟨t, x s, (h s hs).trans ht, hR s hs, hspec⟩

theorem signBit_true (f : Fmt) : f.signBit true = BitVec.twoPow 64 f.signPos := by cases f <;> rfl

theorem signBit_true_getLsbD (f : Fmt) (i : Nat) : (f.signBit true).getLsbD i = decide (i = f.signPos) := by
  rw [signBit_true, BitVec.getLsbD_twoPow, decide_eq_true (by cases f <;> decide), Bool.true_and]
  exact decide_eq_decide.2 eq_comm

/-- The bits of a single source are those of its register (R643). -/
theorem getFmt_single_getLsbD (s : State) (r : Reg) {i : Nat} (hi : i < 32) :
    (s.getFmt .s r).getLsbD i = (s.getFr r).getLsbD i := by
  simp [State.getFmt, State.getFrS, low32, hi]
  omega

theorem isZero_iff (f : Fmt) (x : Word) : f.isZero x = true ↔ f.exp x = 0 ∧ f.fraction x = 0 := by
  have hpos : 0 < 2 ^ f.frac := by positivity
  have hfrac : f.mag x % 2 ^ f.frac = f.fraction x := Nat.mod_mod_of_dvd _ (pow_dvd_pow 2 (by cases f <;> decide))
  rw [Fmt.isZero, decide_eq_true_eq, Fmt.exp, ← hfrac]
  constructor
  · intro h; rw [h]; simp
  · rintro ⟨hq, hr⟩
    rw [← Nat.div_add_mod (f.mag x) (2 ^ f.frac), hq, hr, Nat.mul_zero]

theorem expMax_ne_zero (f : Fmt) : f.expMax ≠ 0 := by cases f <;> decide

/-- FCLASS sets the bit of the class (R698). -/
theorem classify_eq (f : Fmt) (x : Word) : f.classify x = BitVec.twoPow 64 (f.classBit x) := by
  have hzero : f.isZero x = (decide (f.exp x = 0) && decide (f.fraction x = 0)) := by
    rw [Bool.eq_iff_iff, isZero_iff]; simp
  have hne := expMax_ne_zero f
  simp only [Fmt.classify, Fmt.classBit, Fmt.isSNaN, Fmt.isQNaN, Fmt.isNaN, Fmt.isInf, hzero]
  by_cases hmax : f.exp x = f.expMax
  · by_cases hfrac : f.fraction x = 0
    · cases hs : f.sign x <;> simp [hmax, hfrac] <;> rfl
    · cases hq : x.getLsbD (f.frac - 1) <;> simp [hmax, hfrac] <;> rfl
  · by_cases hexp : f.exp x = 0
    · by_cases hfrac : f.fraction x = 0 <;> cases hs : f.sign x <;> simp [hexp, hfrac, hne.symm] <;> rfl
    · cases hs : f.sign x <;> simp [hmax, hexp] <;> rfl

section
variable {f : Fmt} {x y : Word} {i : Nat}

theorem abs_getLsbD (hi : i < 64) : (x &&& ~~~f.signBit true).getLsbD i = (decide (i ≠ f.signPos) && x.getLsbD i) := by
  rw [BitVec.getLsbD_and, BitVec.getLsbD_not, signBit_true_getLsbD f i, decide_eq_true hi, Bool.true_and, Bool.and_comm,
    decide_not]

theorem negate_getLsbD : (f.negate x).getLsbD i = (decide (i = f.signPos) ^^ x.getLsbD i) := by
  rw [Fmt.negate, BitVec.getLsbD_xor, signBit_true_getLsbD f i, Bool.xor_comm]

theorem copysign_getLsbD :
    (mix x y (f.signBit true)).getLsbD i = if i = f.signPos then y.getLsbD i else x.getLsbD i := by
  rw [mix_getLsbD, signBit_true_getLsbD f i]
  simp only [decide_eq_true_eq]

end

/-- Settles O41: the bits of each result, in the format of the form. -/
theorem fpSignClassAndSelect : Obligations.FpSignClassAndSelect := by
  intro fd fj fk ca
  have single {x : State → Word} {i : Instr} (h : ∀ s, exec i s = s.fpGate false (s.fpPut .s fd (x s))) :
      ∀ s, FpReady false s → exec i s = s.fpPut .s fd (x s) := fun s hs => (h s).trans (fpGate_of hs _)
  have double {x : State → Word} {i : Instr} (h : ∀ s, exec i s = s.fpGate true (s.fpPut .d fd (x s))) :
      ∀ s, FpReady true s → exec i s = s.fpPut .d fd (x s) := fun s hs => (h s).trans (fpGate_of hs _)
  refine ⟨writesFrSome_of _ (single fun _ => rfl) fun s _ i hi => ?_,
    writesFrSome_of _ (single fun _ => rfl) fun s _ i hi => ?_,
    writesFrSome_of _ (single fun _ => rfl) fun s _ i hi => ?_,
    writesFr_of (single fun _ => by rw [← classify_eq]; rfl),
    writesFr_of (single fun _ => rfl),
    writesFrSome_of _ (double fun _ => rfl) fun _ _ _ => abs_getLsbD,
    writesFrSome_of _ (double fun _ => rfl) fun _ _ _ _ => negate_getLsbD,
    writesFrSome_of _ (double fun _ => rfl) fun _ _ _ _ => copysign_getLsbD,
    writesFr_of (double fun _ => by rw [← classify_eq]; rfl),
    writesFr_of (double fun _ => rfl),
    writesFr_of fun s hs => fpGate_of hs _⟩
  · rw [abs_getLsbD (by omega), getFmt_single_getLsbD s fj hi]; rfl
  · rw [negate_getLsbD, getFmt_single_getLsbD s fj hi]; rfl
  · rw [copysign_getLsbD, getFmt_single_getLsbD s fj hi, getFmt_single_getLsbD s fk hi]; rfl

/-! ## Moves (R736-R750) -/

/-- A form behind the gate of LA64 and that of the unit. -/
theorem la64Fp_of {s : State} {dp : Bool} (h : s.cfg.la64 = true ∧ FpReady dp s) (k : Out) :
    s.la64Only (s.fpGate dp k) = k := (la64Only_of h.1 _).trans (fpGate_of h.2 k)

/-- The high word of a register, as a number. -/
theorem sext32_high (x : Word) : sext32 (x.extractLsb' 32 32) = wordOf ((x.toNat / 2 ^ 32 : Nat) : Int) := by
  rw [wordOf_eq, BitVec.ofInt_natCast, ← Nat.shiftRight_eq_div_pow]; rfl

/-- The low word of `a` above that of `b`. -/
theorem append_low32 (a b : Word) :
    low32 a ++ low32 b = BitVec.ofNat 64 (a.toNat % 2 ^ 32 * 2 ^ 32 + b.toNat % 2 ^ 32) := by
  apply BitVec.eq_of_toNat_eq
  rw [append_toNat, low32, low32, BitVec.toNat_setWidth, BitVec.toNat_setWidth, BitVec.toNat_ofNat]
  omega

theorem ofBool_getLsbD_zero (b : Bool) : (Word.ofBool b).getLsbD 0 = b := by cases b <;> rfl

/-- One flag is written; FCSR0 stays. -/
theorem setCf_spec (s : State) (cd : BitVec 3) (b : Bool) : (s.setCf cd b).advance.getCf cd = b ∧
    (s.setCf cd b).advance.fcsr0 = s.fcsr0 ∧ AtNext s (s.setCf cd b).advance ∧
    OnlyCfFcsr cd s (s.setCf cd b).advance := by
  refine ⟨by simp, by simp, by simp [AtNext], fun _ => by simp, fun _ => by simp, fun c hc => ?_, fun _ => by simp,
    by constructor <;> simp, by constructor <;> simp⟩
  rw [advance_getCf]; exact setCf_getCf_other s b hc

section
variable {s t : State} {r : Reg}

/-! A draw of a free value changes nothing that is spoken of. -/

theorem OnlyPc.of_draw (h : OnlyPc s.draw.2 t) : OnlyPc s t :=
  { h with sys := { h.sys with }, out := { h.out with } }

theorem OnlyFr.of_draw (h : OnlyFr r s.draw.2 t) : OnlyFr r s t :=
  { h with sys := { h.sys with }, out := { h.out with } }

end

section
variable {s : State} {cj : BitVec 3} {r : Reg}

theorem flagWord_zero (h : s.cfg.cf2rUpperZero = true) : s.flagWord cj = (Word.ofBool (s.getCf cj), s) := if_pos h

theorem flagWord_free (h : s.cfg.cf2rUpperZero = false) :
    s.flagWord cj = (putBit s.draw.1 0 (s.getCf cj), s.draw.2) := if_neg (by rw [h]; decide)

theorem putBit_zero_getLsbD (x : Word) (b : Bool) : (putBit x 0 b).getLsbD 0 = b := by
  rw [putBit_get _ _ _ _ (by decide), if_pos rfl]

end

/-! ## FCSR0 to FCSR3 (R744-R746) -/

/-- A write of FCSR `n` changes FCSR0 only, in the bits that FCSR `n` shows. -/
theorem writeFcsr_spec (s : State) (n : BitVec 5) (v : BitVec 32) : AtNext s (s.writeFcsr n v).advance ∧
    OnlyPc { s with fcsr0 := (s.writeFcsr n v).advance.fcsr0 } (s.writeFcsr n v).advance ∧
    ∀ i, (s.writeFcsr n v).advance.fcsr0.getLsbD i =
      if (fcsrMask n).getLsbD i then v.getLsbD i else s.fcsr0.getLsbD i := by
  refine ⟨by simp [AtNext], ⟨fun _ => by simp; rfl, fun _ => by simp; rfl, fun _ => by simp; rfl, rfl,
    fun _ => by simp; rfl, by constructor <;> simp, by constructor <;> simp⟩, fun i => ?_⟩
  rw [advance_fcsr0]
  exact mix_getLsbD _ _ _ i

theorem fcsrMask_of_absent {n : BitVec 5} (h : 3 < n.toNat) : fcsrMask n = 0#32 := by
  have hne (k : BitVec 5) (hk : k.toNat < 4) : n ≠ k := by rintro rfl; omega
  rw [fcsrMask, if_neg (hne _ (by decide)), if_neg (hne _ (by decide)), if_neg (hne _ (by decide)),
    if_neg (hne _ (by decide))]

theorem fcsrExists_eq_false {n : BitVec 5} (h : 3 < n.toNat) : fcsrExists n = false := decide_eq_false (by omega)

section
variable {rd rj : Reg} {fcsr : BitVec 5}

/-- MOVGR2FCSR of an FCSR that the core answers for (R745). -/
theorem movgr2fcsr_spec {s : State} (hs : FpReady false s) (h : (s.cfg.fcsrAbsentNoop || fcsrExists fcsr) = true) :
    ∃ t, exec (.movgr2fcsr fcsr rj) s = .next t ∧ AtNext s t ∧ OnlyPc { s with fcsr0 := t.fcsr0 } t ∧
      ∀ i, t.fcsr0.getLsbD i =
        if (fcsrMask fcsr).getLsbD i then (s.getGrW rj).getLsbD i else s.fcsr0.getLsbD i :=
  ⟨_, (fpGate_of hs _).trans (if_pos h), writeFcsr_spec s fcsr (s.getGrW rj)⟩

/-- MOVFCSR2GR of an FCSR that the core answers for (R746). -/
theorem exec_movfcsr2gr {s : State} (hs : FpReady false s) (h : (s.cfg.fcsrAbsentNoop || fcsrExists fcsr) = true) :
    exec (.movfcsr2gr rd fcsr) s = s.putGr rd (BitVec.ofInt 64 (s.fcsr0 &&& fcsrMask fcsr).toInt) :=
  (fpGate_of hs _).trans (if_pos h)

/-- FCSR 0 to 3 (R744). -/
theorem existingFcsr {m : BitVec 32}
    (hm : (fcsr, m) ∈ [(0#5, 0x1F1F031F#32), (1#5, 0x1F#32), (2#5, 0x1F1F0000#32), (3#5, 0x300#32)]) :
    WritesGrSome (.movfcsr2gr rd fcsr) (FpReady false) rd (fun s v => v = BitVec.ofInt 64 (s.fcsr0 &&& m).toInt) ∧
    ∀ s, FpReady false s → ∃ t, exec (.movgr2fcsr fcsr rj) s = .next t ∧ AtNext s t ∧
      OnlyPc { s with fcsr0 := t.fcsr0 } t ∧
      ∀ i < 32, t.fcsr0.getLsbD i = if m.getLsbD i then (s.getGr rj).getLsbD i else s.fcsr0.getLsbD i := by
  have hmask : fcsrMask fcsr = m ∧ fcsrExists fcsr = true := by
    simp only [List.mem_cons, Prod.mk.injEq, List.not_mem_nil, or_false] at hm
    obtain ⟨rfl, rfl⟩ | ⟨rfl, rfl⟩ | ⟨rfl, rfl⟩ | ⟨rfl, rfl⟩ := hm <;> decide
  obtain ⟨rfl, hex⟩ := hmask
  have hans (s : State) : (s.cfg.fcsrAbsentNoop || fcsrExists fcsr) = true := by rw [hex, Bool.or_true]
  refine ⟨writesGrSome_of _ (fun s hs => exec_movfcsr2gr hs (hans s)) fun _ _ => rfl, fun s hs => ?_⟩
  obtain ⟨t, hexec, hpc, honly, hbits⟩ := movgr2fcsr_spec (rj := rj) hs (hans s)
  refine ⟨t, hexec, hpc, honly, fun i hi => ?_⟩
  rw [hbits, State.getGrW, low32, BitVec.getLsbD_setWidth, decide_eq_true hi, Bool.true_and]

/-- An FCSR that does not exist (D66). -/
theorem absentFcsr (h : 3 < fcsr.toNat) :
    WritesGr (.movfcsr2gr rd fcsr) (fun s => FpReady false s ∧ s.cfg.fcsrAbsentNoop = true) rd (fun _ => 0#64) ∧
    GoesTo (.movgr2fcsr fcsr rj) (fun s => FpReady false s ∧ s.cfg.fcsrAbsentNoop = true) (fun s => s.pc + 4) ∧
    WritesGrSome (.movfcsr2gr rd fcsr) (fun s => FpReady false s ∧
      s.cfg.fcsrAbsentNoop = false) rd (fun _ _ => True) ∧
    ∀ s, FpReady false s → s.cfg.fcsrAbsentNoop = false → ∃ t, exec (.movgr2fcsr fcsr rj) s = .next t ∧ AtNext s t ∧
      OnlyPc { s with fcsr0 := t.fcsr0 } t ∧
      ∀ i < 32, (0x1F1F031F#32).getLsbD i = false → t.fcsr0.getLsbD i = s.fcsr0.getLsbD i := by
  have hno {s : State} (hs : s.cfg.fcsrAbsentNoop = true) : (s.cfg.fcsrAbsentNoop || fcsrExists fcsr) = true := by
    rw [hs, Bool.true_or]
  have hfree {s : State} (hs : s.cfg.fcsrAbsentNoop = false) : ¬(s.cfg.fcsrAbsentNoop || fcsrExists fcsr) = true := by
    rw [hs, fcsrExists_eq_false h]; decide
  refine ⟨writesGr_of fun s ⟨hs, hnoop⟩ => ?readNoop, fun s ⟨hs, hnoop⟩ => ?writeNoop, fun s ⟨hs, hany⟩ => ?readAny,
    fun s hs hany => ?writeAny⟩
  case readNoop => rw [exec_movfcsr2gr hs (hno hnoop), fcsrMask_of_absent h, BitVec.and_zero]; rfl
  case writeNoop =>
    obtain ⟨t, hexec, hpc, honly, hbits⟩ := movgr2fcsr_spec (rj := rj) hs (hno hnoop)
    have hfcsr : t.fcsr0 = s.fcsr0 := BitVec.eq_of_getLsbD_eq fun i _ => by
      rw [hbits, fcsrMask_of_absent h, BitVec.getLsbD_zero]; rfl
    rw [hfcsr] at honly
    exact ⟨t, hexec, hpc, honly⟩
  case readAny =>
    obtain ⟨t, v, ht, hspec⟩ := putGrFree_spec s rd
    exact ⟨t, v, (fpGate_of hs _).trans ((if_neg (hfree hany)).trans ht), trivial, hspec⟩
  case writeAny =>
    obtain ⟨hpc, honly, hbits⟩ := writeFcsr_spec s.draw.2 0#5 (low32 s.draw.1)
    refine ⟨_, (fpGate_of hs _).trans (if_neg (hfree hany)), hpc, honly.of_draw, fun i _ hi => ?_⟩
    rw [hbits, show fcsrMask 0#5 = 0x1F1F031F#32 from rfl, hi]; rfl

end

/-- Settles O42: each form is the write of one register, flag or FCSR0. -/
theorem fpMoves : Obligations.FpMoves := by
  intro fd rd fj rj cj cd fcsr
  refine ⟨writesFr_of fun _ hs => fpGate_of hs _, writesFr_of fun _ hs => la64Fp_of hs _, writesFr_of fun s hs => ?frh,
    writesGr_of fun _ hs => fpGate_of hs _, writesGr_of fun _ hs => la64Fp_of hs _, writesGr_of fun s hs => ?grh,
    writesFr_of fun s ⟨hs, hz⟩ => ?frFlag, fun s ⟨hs, hz⟩ => ?frFlagFree, writesGr_of fun s ⟨hs, hz⟩ => ?grFlag,
    fun s ⟨hs, hz⟩ => ?grFlagFree, fun s hs => ⟨_, fpGate_of hs _, setCf_spec s cd _⟩,
    fun s hs => ⟨_, fpGate_of hs _, setCf_spec s cd _⟩, fun m => existingFcsr, absentFcsr⟩
  case frh => exact (fpGate_of hs _).trans (congrArg (s.putFr fd) (append_low32 _ _))
  case grh => exact (fpGate_of hs _).trans (congrArg (s.putGr rd) (sext32_high _))
  case frFlag => exact (fpGate_of hs _).trans (by rw [flagWord_zero hz]; rfl)
  case frFlagFree =>
    obtain ⟨t, ht, hfr, hpc, honly⟩ := fpPut_spec s.draw.2 .d fd (putBit s.draw.1 0 (s.getCf cj))
    exact ⟨t, _, (fpGate_of hs _).trans (by rw [flagWord_free hz]; exact ht), putBit_zero_getLsbD _ _, hfr, hpc,
      honly.of_draw⟩
  case grFlag => exact (fpGate_of hs _).trans (by rw [flagWord_zero hz]; rfl)
  case grFlagFree =>
    obtain ⟨t, ht, hgr, hpc, honly⟩ := putGr_spec s.draw.2 rd (putBit s.draw.1 0 (s.getCf cj))
    exact ⟨t, _, (fpGate_of hs _).trans (by rw [flagWord_free hz]; exact ht), putBit_zero_getLsbD _ _, hgr, hpc,
      honly.of_draw⟩

end Sys2Proof.Machine
end

section
/-!
Floating-point loads, stores and branches (spec/48_fp_branch_mem.md R760-R778).
-/

namespace Sys2Proof.Machine

section
variable {i : Instr} {P : State → Prop} {acc : State → Access} {f : Fmt} {fd : Reg}

/-- A form that is a floating-point load where `P` holds. -/
theorem loadsFr_of (h : ∀ s, P s → exec i s = s.loadFp f (acc s) fd) : LoadsFr i P acc f fd := fun s as mat hp hreach => by
  rw [h s hp]
  exact loadFp_spec hreach f fd

end

section
variable {i : Instr} {k : AccessKind} {n : Nat} {f : Fmt} {fd rj : Reg} {dp : Bool} {pass : State → Bool}
  {p : State → Prop}

/-- A bound-checked floating-point load whose bound holds. -/
theorem BoundAnswers.loadsFr (hb : BoundAnswers pass p true)
    (h : ∀ s, exec i s = s.la64Only (s.fpGate dp (s.loadFp f (s.bounded .load (s.getGr rj) n (pass s)) fd)) := by
      exact fun _ => rfl) :
    LoadsFr i (fun s => s.cfg.la64 = true ∧ FpReady dp s ∧ s.cfg.boundCmpSigned = true ∧ p s)
      (fun s => s.aligned .load (s.getGr rj) n) f fd :=
  loadsFr_of fun s ⟨hla, hfp, hsigned, hp⟩ => by
    rw [h, la64Fp_of ⟨hla, hfp⟩, bounded_of_pass (hb s hsigned hp)]

/-- A bound-checked floating-point store whose bound holds. -/
theorem BoundAnswers.storesFr (hb : BoundAnswers pass p true)
    (h : ∀ s, exec i s =
        s.la64Only (s.fpGate dp (s.store (s.bounded .store (s.getGr rj) n (pass s)) (s.getFr fd))) := by
      exact fun _ => rfl) :
    StoresMem i (fun s => s.cfg.la64 = true ∧ FpReady dp s ∧ s.cfg.boundCmpSigned = true ∧ p s)
      (fun s => s.aligned .store (s.getGr rj) n) (fun s => s.getFr fd) :=
  storesMem_of fun s ⟨hla, hfp, hsigned, hp⟩ => by
    rw [h, la64Fp_of ⟨hla, hfp⟩, bounded_of_pass (hb s hsigned hp)]

/-- A floating-point form whose bound fails. -/
theorem BoundAnswers.takesBceFp (hb : BoundAnswers pass p false) (hn : n = 1 ∨ n = 2 ∨ n = 4 ∨ n = 8 := by decide)
    (h : AccessFirst i (fun s => s.cfg.la64 = true ∧ FpReady dp s) (fun s => s.bounded k (s.getGr rj) n (pass s)) := by
      exact .la64Fp) :
    MemTraps i (fun s => s.bounded k (s.getGr rj) n (pass s))
      (fun s => s.cfg.la64 = true ∧ FpReady dp s ∧ s.cfg.boundCmpSigned = true ∧ p s ∧
        (s.watchMem (s.bounded k (s.getGr rj) n (pass s))).2 = false ∧ (s.vaddr (s.getGr rj)).toNat % n = 0 ∧
        s.addressError k (s.vaddr (s.getGr rj)) = false) 0xA#6 0#9 (fun s => s.vaddr (s.getGr rj)) :=
  fun s ⟨hla, hfp, hsigned, hp, hwatch, halign, hlegal⟩ => by
    have hbound : (!pass s) = true := congrArg (!·) (hb s hsigned hp)
    have htrap : s.accessAddrs (s.bounded k (s.getGr rj) n (pass s)) = .trap (.bce (s.vaddr (s.getGr rj))) :=
      accessAddrs_outOfBound hn halign hlegal hbound
    obtain ⟨-, hexc⟩ := h.takesAddressExceptions s ⟨hla, hfp⟩ hwatch
    obtain ⟨t, hexec, hentry, hbadi, hbadv, hfcsr, hwt, hmmu, -⟩ := hexc (s.vaddr (s.getGr rj)) _ (by simp) htrap
    exact ⟨t, hexec, hentry, hbadi, hbadv.trans (vaddr_vaddr s _), hfcsr, hmmu (by simp), hwt⟩

end

/-- A flag branch (R760, R761). -/
theorem goesTo_flagBranch {i : Instr} {cj : BitVec 3} {offs : BitVec 21} {b : Bool} {c : State → Bool}
    (hc : ∀ s, c s = true ↔ s.getCf cj = b) (h : ∀ s, exec i s = s.fpGate false (s.branch (c s) (boffs21 offs))) :
    GoesTo i (FpReady false)
      (fun s => if s.getCf cj = b then s.pc + BitVec.ofInt 64 (offs.toInt * 4) else s.pc + 4) := fun s hs => by
  rw [h, fpGate_of hs, ← scaled_eq offs (by decide), boffs21]
  simpa only [hc] using branch_spec s (c s) ((offs ++ 0#2).signExtend 64)

/-- Settles O43: every form is the shape of a load, a store or a branch, behind the gates of LA64 and of the unit. -/
theorem fpLoadsStoresAndBranches : Obligations.FpLoadsStoresAndBranches := by
  intro fd rj rk i12 cj offs
  have hgt := boundGt_passes rj rk
  have hle := boundLe_passes rj rk
  have hgt' := boundGt_fails rj rk
  have hle' := boundLe_fails rj rk
  exact ⟨
    -- FLD, FLDX, FST, FSTX
    loadsFr_of fun _ hs => fpGate_of hs _, loadsFr_of fun _ hs => fpGate_of hs _,
    loadsFr_of fun _ hs => la64Fp_of hs _, loadsFr_of fun _ hs => la64Fp_of hs _,
    storesMem_of fun _ hs => fpGate_of hs _, storesMem_of fun _ hs => fpGate_of hs _,
    storesMem_of fun _ hs => la64Fp_of hs _, storesMem_of fun _ hs => la64Fp_of hs _,
    -- the bound-check forms
    hgt.loadsFr, hgt.loadsFr, hle.loadsFr, hle.loadsFr, hgt.storesFr, hgt.storesFr, hle.storesFr, hle.storesFr,
    hgt'.takesBceFp, hgt'.takesBceFp, hle'.takesBceFp, hle'.takesBceFp,
    hgt'.takesBceFp, hgt'.takesBceFp, hle'.takesBceFp, hle'.takesBceFp,
    -- BCEQZ, BCNEZ
    goesTo_flagBranch (c := fun s => !s.getCf cj) (fun _ => by simp) fun _ => rfl, goesTo_flagBranch (fun _ => Iff.rfl) fun _ => rfl⟩

end Sys2Proof.Machine
end

section
/-!
Finishing a floating-point instruction (spec/46_fp_arith.md R657): with no enabled exception signalled the result is
delivered, with one FPE is taken. The arithmetic forms are their operation and this.
-/

namespace Sys2Proof.Machine

/-! ## FCSR0 after an instruction (R657) -/

/-- Cause and Flags in place. -/
theorem addFlags_setCause_getLsbD (s : State) (e : FpExc) {i : Nat} (hi : i < 32) :
    ((s.setCause e).addFlags e).fcsr0.getLsbD i =
      ((if 24 ≤ i ∧ i < 29 then e.getLsbD (i - 24) else s.fcsr0.getLsbD i) ||
        decide (16 ≤ i ∧ i < 21) && e.getLsbD (i - 16)) := by
  show (putBits s.fcsr0 24 5 e ||| e.setWidth 32 <<< 16).getLsbD i = _
  rw [BitVec.getLsbD_or, putBits_get _ _ _ _ _ hi, BitVec.getLsbD_shiftLeft, BitVec.getLsbD_setWidth]
  congr 1
  by_cases h16 : 16 ≤ i
  · by_cases h21 : i < 21
    · simp [h16, h21, hi, show i - 16 < 32 by omega]
    · simp [h21, BitVec.getLsbD_of_ge e (i - 16) (by omega)]
  · simp [h16]

theorem fcsrAfter_of_bits {s t : State} {e : FpExc}
    (h : ∀ i < 32, t.fcsr0.getLsbD i = ((if 24 ≤ i ∧ i < 29 then e.getLsbD (i - 24) else s.fcsr0.getLsbD i) ||
      decide (16 ≤ i ∧ i < 21) && e.getLsbD (i - 16))) : FcsrAfter s t e := by
  have keep {lo len : Nat} (hlen : lo + len ≤ 32) (hout : ∀ i, lo ≤ i → i < lo + len → ¬(24 ≤ i ∧ i < 29) ∧
      ¬(16 ≤ i ∧ i < 21)) : t.fcsr0.extractLsb' lo len = s.fcsr0.extractLsb' lo len :=
    extractLsb'_eq_of_getLsbD fun i hi => by
      obtain ⟨h24, h16⟩ := hout (lo + i) (by omega) (by omega)
      rw [h _ (by omega), if_neg h24, decide_eq_false h16, BitVec.getLsbD_extractLsb', decide_eq_true hi]
      simp
  refine ⟨extractLsb'_eq_of_getLsbD fun i hi => ?_, extractLsb'_eq_of_getLsbD fun i hi => ?_, keep (by decide) ?_,
    keep (by decide) ?_, keep (by decide) ?_⟩
  · rw [h _ (by omega), if_pos (by omega), decide_eq_false (by omega)]
    simp
  · rw [h _ (by omega), if_neg (by omega), decide_eq_true (by omega), BitVec.getLsbD_or, BitVec.getLsbD_extractLsb',
      decide_eq_true hi]
    simp
  all_goals intro i _ _; omega

/-! ## What an instruction delivers -/

section
variable {s : State} {e : FpExc} {write : State → State}

theorem fpFinish_of (h : e &&& s.fpEnables = 0#5) :
    s.fpFinish e write = .next (write ((s.setCause e).addFlags e)).advance := if_pos h

/-- FPE is taken with the destination and Flags as they were (D57). -/
theorem fpFinish_traps (h : e &&& s.fpEnables ≠ 0#5) : ∃ t, s.fpFinish e write = .next t ∧
    GeneralEntry s t 0x12 0x12#6 0#9 ∧ t.csr.badi = s.curInsn ∧ t.csr.badv = s.csr.badv ∧ t.mmu = s.mmu ∧
    t.watch = s.watch ∧ t.fcsr0.extractLsb' 24 5 = e ∧ t.fcsr0.extractLsb' 0 24 = s.fcsr0.extractLsb' 0 24 ∧
    t.fcsr0.extractLsb' 29 3 = s.fcsr0.extractLsb' 29 3 := by
  obtain ⟨hentry, hbadi, hbadv, hmmu, hwatch, hfcsr⟩ := takeExc_spec (s.setCause e) false .fpe fun _ h => nomatch h
  refine ⟨_, if_neg h, hentry.of_records rfl rfl rfl, hbadi rfl, hbadv, hmmu, hwatch, ?_⟩
  have hbits {i : Nat} (hi : i < 32) : ((s.setCause e).takeExc false .fpe).fcsr0.getLsbD i =
      if 24 ≤ i ∧ i < 29 then e.getLsbD (i - 24) else s.fcsr0.getLsbD i := by
    rw [hfcsr]; exact putBits_get _ _ _ _ _ hi
  refine ⟨extractLsb'_eq_of_getLsbD fun i hi => ?_, extractLsb'_eq_of_getLsbD fun i hi => ?_,
    extractLsb'_eq_of_getLsbD fun i hi => ?_⟩
  · rw [hbits (by omega), if_pos (by omega), Nat.add_sub_cancel_left]
  · rw [hbits (by omega), if_neg (by omega), BitVec.getLsbD_extractLsb', decide_eq_true hi, Bool.true_and]
  · rw [hbits (by omega), if_neg (by omega), BitVec.getLsbD_extractLsb', decide_eq_true hi, Bool.true_and]

end

section
variable {i : Instr} {P : State → Prop} {f : Fmt} {fd : Reg} {r : State → FpRes}

/-- An arithmetic form that signals no enabled exception. -/
theorem deliversFp_of (h : ∀ s, P s → exec i s = s.fpDone f fd (r s)) : DeliversFp i P f fd r := fun s hs hen => by
  refine ⟨_, (h s hs).trans (fpFinish_of hen), ?_, fcsrAfter_of_bits fun i hi => ?_, by simp [AtNext], fun _ => by simp,
    fun r hr => ?_, fun _ => by simp, fun _ => by simp, by constructor <;> simp, by constructor <;> simp⟩
  · cases f <;> simp [FrIs, State.setFmt]
  · rw [advance_fcsr0, setFmt_fcsr0, addFlags_setCause_getLsbD s _ hi]
  · rw [advance_getFr, setFmt_getFr_other _ _ _ hr, addFlags_getFr, setCause_getFr]

/-- An arithmetic form that signals an enabled exception. -/
theorem trapsFpe_of (h : ∀ s, P s → exec i s = s.fpDone f fd (r s)) : TrapsFpe i P fun s => (r s).exc :=
  fun s hs hen => by
    rw [h s hs]
    exact fpFinish_traps hen

end

/-- Settles O38: every form finishes with what its operation signals. -/
theorem enabledFpExceptionsTrap : Obligations.EnabledFpExceptionsTrap := by
  intro fd fj fk fa
  and_intros
  all_goals exact trapsFpe_of fun _ hs => fpGate_of hs _

end Sys2Proof.Machine
end

section
/-!
The values of floating-point data (spec/46_fp_arith.md R640, R641): the finite magnitudes as one strictly increasing
function of the encoding, and the order of all data that are no NaN.
-/

namespace Sys2Proof.Machine

/-! ## The parts of an encoding -/

theorem signPos_eq (f : Fmt) : f.signPos = f.frac + f.ebits := by cases f <;> rfl

theorem fraction_eq (f : Fmt) (x : Word) : f.fraction x = f.mag x % 2 ^ f.frac :=
  (Nat.mod_mod_of_dvd _ (pow_dvd_pow 2 (by rw [signPos_eq]; exact Nat.le_add_right _ _))).symm

theorem mag_eq (f : Fmt) (x : Word) : f.mag x = f.exp x * 2 ^ f.frac + f.fraction x := by
  rw [fraction_eq, Fmt.exp, Nat.div_add_mod']

theorem fraction_lt (f : Fmt) (x : Word) : f.fraction x < 2 ^ f.frac := Nat.mod_lt _ (by positivity)

theorem exp_le (f : Fmt) (x : Word) : f.exp x ≤ f.expMax := by
  have hlt : f.mag x < 2 ^ f.ebits * 2 ^ f.frac := by
    rw [← pow_add, Nat.add_comm, ← signPos_eq]; exact Nat.mod_lt _ (by positivity)
  exact Nat.le_sub_one_of_lt (Nat.div_lt_of_lt_mul (by rwa [Nat.mul_comm]))

/-- The encoding of an infinity without its sign. -/
def Fmt.infMag (f : Fmt) : Nat := f.expMax * 2 ^ f.frac

/-- The finite data are those below the infinities. -/
theorem finite_iff (f : Fmt) (x : Word) : f.Finite x ↔ f.mag x < f.infMag := by
  have hpos : 0 < 2 ^ f.frac := by positivity
  rw [Fmt.infMag, ← Nat.div_lt_iff_lt_mul hpos, ← Fmt.exp, Fmt.Finite]
  have := exp_le f x
  omega

theorem mag_of_isInf {f : Fmt} {x : Word} (h : f.isInf x = true) : f.mag x = f.infMag := by
  simp only [Fmt.isInf, Bool.and_eq_true, decide_eq_true_eq] at h
  rw [mag_eq, h.1, h.2]; rfl

/-- A datum is finite, an infinity or a NaN. -/
theorem finite_or_isInf {f : Fmt} {x : Word} (h : f.isNaN x = false) : f.Finite x ∨ f.isInf x = true := by
  by_cases hexp : f.exp x = f.expMax
  · right
    simpa [Fmt.isInf, Fmt.isNaN, hexp] using h
  · exact .inl hexp

/-! ## Magnitudes -/

/-- The value of the encoding `m` without its sign, continued beyond the largest exponent. -/
def Fmt.magValue (f : Fmt) (m : Nat) : ℚ :=
  ((if m / 2 ^ f.frac = 0 then m % 2 ^ f.frac else 2 ^ f.frac + m % 2 ^ f.frac : Nat) : ℚ) *
    2 ^ (f.emin - f.frac + ((m / 2 ^ f.frac - 1 : Nat) : Int))

/-- The distance from the encoding `m` to the next one. -/
def Fmt.gap (f : Fmt) (m : Nat) : ℚ := 2 ^ (f.emin - f.frac + ((m / 2 ^ f.frac - 1 : Nat) : Int))

theorem value_eq (f : Fmt) (x : Word) : f.value x = (if f.sign x then -1 else 1) * f.magValue (f.mag x) := by
  rw [Fmt.value, Fmt.magValue, Fmt.sig, Fmt.expo, fraction_eq, mul_assoc]; rfl

theorem gap_pos (f : Fmt) (m : Nat) : 0 < f.gap m := by unfold Fmt.gap; positivity

section
variable (f : Fmt) {e r k n : Nat}

theorem magValue_split (hr : r < 2 ^ f.frac) : f.magValue (e * 2 ^ f.frac + r) =
    ((if e = 0 then r else 2 ^ f.frac + r : Nat) : ℚ) * 2 ^ (f.emin - f.frac + ((e - 1 : Nat) : Int)) := by
  have hdiv : (e * 2 ^ f.frac + r) / 2 ^ f.frac = e := by
    rw [Nat.mul_comm, Nat.mul_add_div (by positivity), Nat.div_eq_of_lt hr, Nat.add_zero]
  have hmod : (e * 2 ^ f.frac + r) % 2 ^ f.frac = r := by
    rw [Nat.mul_comm, Nat.mul_add_mod, Nat.mod_eq_of_lt hr]
  rw [Fmt.magValue, hdiv, hmod]

/-- A significand of the least exponent, the least normal one included. -/
theorem magValue_subnormal (hn : n ≤ 2 ^ f.frac) : f.magValue n = n * 2 ^ (f.emin - f.frac) := by
  obtain hlt | rfl := hn.lt_or_eq
  · simpa using magValue_split f (e := 0) hlt
  · simpa using magValue_split f (e := 1) (r := 0) (by positivity)

/-- A normal significand, the least one of the next exponent included. -/
theorem magValue_normal (hlow : 2 ^ f.frac ≤ n) (hn : n ≤ 2 ^ (f.frac + 1)) :
    f.magValue (k * 2 ^ f.frac + n) = n * 2 ^ (f.emin - f.frac + k) := by
  obtain hlt | rfl := hn.lt_or_eq
  · obtain ⟨r, rfl⟩ := Nat.exists_eq_add_of_le hlow
    have h := magValue_split f (e := k + 1) (r := r) (by rw [pow_succ] at hlt; omega)
    rwa [if_neg (Nat.succ_ne_zero k), Nat.add_sub_cancel, Nat.succ_mul, Nat.add_assoc] at h
  · have h := magValue_split f (e := k + 2) (r := 0) (by positivity)
    rw [if_neg (by omega), show k + 2 - 1 = k + 1 from rfl] at h
    rw [show k * 2 ^ f.frac + 2 ^ (f.frac + 1) = (k + 2) * 2 ^ f.frac + 0 by ring, h]
    push_cast
    rw [← add_assoc, zpow_add_one₀ two_ne_zero]
    ring

end

/-- The next encoding is the next value. -/
theorem magValue_succ (f : Fmt) (m : Nat) : f.magValue (m + 1) = f.magValue m + f.gap m := by
  have hpos : 0 < 2 ^ f.frac := by positivity
  have hm : m = m / 2 ^ f.frac * 2 ^ f.frac + m % 2 ^ f.frac := (Nat.div_add_mod' _ _).symm
  have hr : m % 2 ^ f.frac < 2 ^ f.frac := Nat.mod_lt _ hpos
  rw [Fmt.gap]
  cases he : m / 2 ^ f.frac with
  | zero =>
    rw [he, Nat.zero_mul, Nat.zero_add] at hm
    rw [magValue_subnormal f (by omega), magValue_subnormal f (by omega)]
    push_cast
    simp
    ring
  | succ k =>
    rw [he, Nat.succ_mul, Nat.add_assoc] at hm
    rw [hm, Nat.add_assoc, magValue_normal f (by omega) (by rw [pow_succ]; omega),
      magValue_normal f (by omega) (by rw [pow_succ]; omega), Nat.add_sub_cancel]
    push_cast
    ring

theorem magValue_strictMono (f : Fmt) : StrictMono f.magValue :=
  strictMono_nat_of_lt_succ fun m => by rw [magValue_succ]; exact lt_add_of_pos_right _ (gap_pos f m)

theorem magValue_zero (f : Fmt) : f.magValue 0 = 0 := by
  rw [Fmt.magValue, Nat.zero_div, if_pos rfl, Nat.zero_mod, Nat.cast_zero, zero_mul]

theorem magValue_nonneg (f : Fmt) (m : Nat) : 0 ≤ f.magValue m :=
  (magValue_zero f).symm.le.trans ((magValue_strictMono f).monotone m.zero_le)

/-! ## The order of the data -/

/-- The value of a signed magnitude. -/
def Fmt.signedValue (f : Fmt) (k : Int) : ℚ := if k < 0 then -f.magValue k.natAbs else f.magValue k.natAbs

theorem signedValue_strictMono (f : Fmt) : StrictMono f.signedValue := by
  refine strictMono_of_odd_strictMonoOn_nonneg (fun k => ?_) fun a ha b hb h => ?_
  · obtain hk | rfl | hk := lt_trichotomy k 0
    · rw [Fmt.signedValue, Fmt.signedValue, if_neg (by omega), if_pos hk, Int.natAbs_neg, neg_neg]
    · simp [Fmt.signedValue, magValue_zero]
    · rw [Fmt.signedValue, Fmt.signedValue, if_pos (by omega), if_neg (by omega), Int.natAbs_neg]
  · rw [Set.mem_Ici] at ha hb
    rw [Fmt.signedValue, Fmt.signedValue, if_neg (by omega), if_neg (by omega)]
    exact magValue_strictMono f (by omega)

theorem value_eq_signedValue (f : Fmt) (x : Word) : f.value x = f.signedValue (f.key x) := by
  rw [value_eq, Fmt.signedValue, Fmt.key]
  cases f.sign x with
  | false => simp
  | true =>
    by_cases hm : f.mag x = 0
    · simp [hm, magValue_zero]
    · simp [Nat.pos_of_ne_zero hm]

/-- The place of a datum that is no NaN, by its key. -/
theorem ext_cases {f : Fmt} {x : Word} (h : f.isNaN x = false) :
    (f.ext x = ⊥ ∧ f.key x = -f.infMag) ∨ (f.ext x = ((⊤ : WithTop ℚ) : WithBot (WithTop ℚ)) ∧ f.key x = f.infMag) ∨
      (f.ext x = ((f.signedValue (f.key x) : WithTop ℚ) : WithBot (WithTop ℚ)) ∧ (f.key x).natAbs < f.infMag) := by
  obtain hfin | hinf := finite_or_isInf h
  · refine .inr (.inr ⟨?_, ?_⟩)
    · rw [Fmt.ext, if_neg hfin, value_eq_signedValue]
    · have hkey : (f.key x).natAbs = f.mag x := by unfold Fmt.key; split <;> simp
      rw [hkey]
      exact (finite_iff f x).1 hfin
  · have hexp : f.exp x = f.expMax := by simp only [Fmt.isInf, Bool.and_eq_true, decide_eq_true_eq] at hinf; exact hinf.1
    rw [Fmt.ext, if_pos hexp, Fmt.key, mag_of_isInf hinf]
    cases f.sign x <;> simp

/-- Data that are no NaNs are ordered by their keys. -/
theorem ext_lt_iff {f : Fmt} {a b : Word} (ha : f.isNaN a = false) (hb : f.isNaN b = false) :
    f.ext a < f.ext b ↔ f.key a < f.key b := by
  have hpos : 0 < f.infMag := by cases f <;> decide
  obtain ⟨hea, hka⟩ | ⟨hea, hka⟩ | ⟨hea, hka⟩ := ext_cases ha <;>
  obtain ⟨heb, hkb⟩ | ⟨heb, hkb⟩ | ⟨heb, hkb⟩ := ext_cases hb <;> rw [hea, heb]
  case inr.inr.inr.inl =>
    rw [hkb]
    exact iff_of_true (WithBot.coe_lt_coe.2 (WithTop.coe_lt_top _)) (by omega)
  case inr.inr.inr.inr => rw [WithBot.coe_lt_coe, WithTop.coe_lt_coe, (signedValue_strictMono f).lt_iff_lt]
  all_goals simp [hka, hkb, WithBot.bot_lt_coe]
  all_goals omega

theorem ext_eq_iff {f : Fmt} {a b : Word} (ha : f.isNaN a = false) (hb : f.isNaN b = false) :
    f.ext a = f.ext b ↔ f.key a = f.key b := by
  rw [eq_iff_le_not_lt, eq_iff_le_not_lt, ← not_lt, ← not_lt, ext_lt_iff ha hb, ext_lt_iff hb ha]

end Sys2Proof.Machine
end

section
/-!
Floating-point comparison (spec/47_fp_cmp_conv_move.md R700-R703).
-/

namespace Sys2Proof.Machine

/-- The truth of a comparison, by the order of the data (R700). -/
theorem condTrue_iff (f : Fmt) (cond : BitVec 5) (a b : Word) : f.condTrue cond a b = true ↔ f.CondHolds cond a b := by
  by_cases hnan : f.isNaN a = true ∨ f.isNaN b = true
  · rw [Fmt.condTrue, if_pos (by simpa using hnan), Fmt.CondHolds]
    obtain h | h := hnan <;> simp [h]
  · simp only [not_or, Bool.not_eq_true] at hnan
    obtain ⟨ha, hb⟩ := hnan
    rw [Fmt.condTrue, if_neg (by simp [ha, hb]), Fmt.CondHolds, ext_lt_iff ha hb, ext_lt_iff hb ha, ext_eq_iff ha hb]
    obtain hlt | heq | hlt := lt_trichotomy (f.key a) (f.key b)
    · simp [ha, hb, hlt, hlt.not_gt, hlt.ne]
    · simp [ha, hb, heq]
    · simp [ha, hb, hlt, hlt.not_gt, hlt.ne']

/-- What a comparison signals (R700). -/
theorem condExc_eq (f : Fmt) (cond : BitVec 5) (a b : Word) : f.condExc cond a b =
    if (if cond.getLsbD 0 then f.isNaN a = true ∨ f.isNaN b = true else f.isSNaN a = true ∨ f.isSNaN b = true)
      then excV else excNone := by
  rw [Fmt.condExc]
  cases cond.getLsbD 0 <;> simp

section
variable {i : Instr} {f : Fmt} {dp : Bool} {cd : BitVec 3} {fj fk : Reg} {cond : BitVec 5} {s : State}
  (h : exec i s = s.need (condDefined cond) (s.fpGate dp (s.fpFinish (f.condExc cond (s.getFmt f fj) (s.getFmt f fk))
    fun t => t.setCf cd (f.condTrue cond (s.getFmt f fj) (s.getFmt f fk)))))
  (hcond : cond ∉ ([0x12#5, 0x13#5, 0x16#5, 0x17#5, 0x1A#5, 0x1B#5, 0x1C#5, 0x1D#5, 0x1E#5, 0x1F#5] : List (BitVec 5)))
  (hs : FpReady dp s)
include h hcond hs

theorem exec_compare : exec i s = s.fpFinish (f.condExc cond (s.getFmt f fj) (s.getFmt f fk))
    fun t => t.setCf cd (f.condTrue cond (s.getFmt f fj) (s.getFmt f fk)) := by
  rw [h, need_of (condDefined_of_not_mem cond hcond), fpGate_of hs]

theorem compare_completes (hen : f.condExc cond (s.getFmt f fj) (s.getFmt f fk) &&& s.fpEnables = 0#5) :
    ∃ t, exec i s = .next t ∧ (t.getCf cd = true ↔ f.CondHolds cond (s.getFmt f fj) (s.getFmt f fk)) ∧
      FcsrAfter s t (f.condExc cond (s.getFmt f fj) (s.getFmt f fk)) ∧ AtNext s t ∧ OnlyCfFcsr cd s t := by
  refine ⟨_, (exec_compare h hcond hs).trans (fpFinish_of hen), ?_, fcsrAfter_of_bits fun i hi => ?_, by simp [AtNext],
    fun _ => by simp, fun _ => by simp, fun c hc => ?_, fun _ => by simp, by constructor <;> simp, by constructor <;> simp⟩
  · rw [advance_getCf, setCf_getCf_same, condTrue_iff]
  · rw [advance_fcsr0, setCf_fcsr0, addFlags_setCause_getLsbD s _ hi]
  · rw [advance_getCf, setCf_getCf_other _ _ hc, addFlags_getCf, setCause_getCf]

end

/-- Settles O40: a comparison finishes with what it signals, and writes its truth to the flag. -/
theorem fpComparisonsSetTheFlag : Obligations.FpComparisonsSetTheFlag := by
  intro cd fj fk cond
  refine ⟨fun s hcond hs => ⟨_, rfl, fun hen => ?_⟩, fun s ⟨hcond, hs⟩ hen => ?_,
    fun s hcond hs => ⟨_, rfl, fun hen => ?_⟩, fun s ⟨hcond, hs⟩ hen => ?_⟩
  all_goals simp only [← condExc_eq] at hen ⊢
  · exact compare_completes rfl hcond hs hen
  · rw [exec_compare (f := .s) (dp := false) (cd := cd) (fj := fj) (fk := fk) rfl hcond hs]
    exact fpFinish_traps hen
  · exact compare_completes rfl hcond hs hen
  · rw [exec_compare (f := .d) (dp := true) (cd := cd) (fj := fj) (fk := fk) rfl hcond hs]
    exact fpFinish_traps hen

end Sys2Proof.Machine
end

section
/-!
Floating-point operations on special operands (spec/46_fp_arith.md R646, R649, R658-R698): NaNs, infinities, zeros, and
the order of maximum and minimum.
-/

namespace Sys2Proof.Machine

/-! ## Data from their sign and magnitude -/

section
variable {f : Fmt} {x y : Word}

theorem exp_eq_of_mag (h : f.mag x = f.mag y) : f.exp x = f.exp y := by rw [Fmt.exp, Fmt.exp, h]

theorem fraction_eq_of_mag (h : f.mag x = f.mag y) : f.fraction x = f.fraction y := by rw [fraction_eq, fraction_eq, h]

theorem isNaN_eq_of_mag (h : f.mag x = f.mag y) : f.isNaN x = f.isNaN y := by
  rw [Fmt.isNaN, Fmt.isNaN, exp_eq_of_mag h, fraction_eq_of_mag h]

theorem isInf_eq_of_mag (h : f.mag x = f.mag y) : f.isInf x = f.isInf y := by
  rw [Fmt.isInf, Fmt.isInf, exp_eq_of_mag h, fraction_eq_of_mag h]

theorem isZero_eq_of_mag (h : f.mag x = f.mag y) : f.isZero x = f.isZero y := by rw [Fmt.isZero, Fmt.isZero, h]

theorem getLsbD_two_pow_mod (k : Nat) (x : Word) (i : Nat) :
    (x.toNat % 2 ^ k).testBit i = (decide (i < k) && x.getLsbD i) := Nat.testBit_mod_two_pow _ _ _

theorem mag_eq_of_getLsbD (h : ∀ i, i ≠ f.signPos → x.getLsbD i = y.getLsbD i) : f.mag x = f.mag y := by
  refine Nat.eq_of_testBit_eq fun i => ?_
  rw [Fmt.mag, Fmt.mag, getLsbD_two_pow_mod, getLsbD_two_pow_mod]
  by_cases hi : i < f.signPos
  · rw [h i hi.ne]
  · rw [decide_eq_false hi]; rfl

end

theorem mag_negate (f : Fmt) (x : Word) : f.mag (f.negate x) = f.mag x :=
  mag_eq_of_getLsbD fun i hi => by rw [negate_getLsbD, decide_eq_false hi, Bool.false_xor]

theorem sign_negate (f : Fmt) (x : Word) : f.sign (f.negate x) = !f.sign x := by
  rw [Fmt.sign, negate_getLsbD, decide_eq_true rfl, Bool.true_xor]; rfl

theorem value_negate (f : Fmt) (x : Word) : f.value (f.negate x) = -f.value x := by
  rw [value_eq, value_eq, mag_negate, sign_negate]
  cases f.sign x <;> simp

theorem flipped_eq (f : Fmt) (x : Word) : f.flipped x = f.negate x := by rw [Fmt.flipped, Fmt.negate, signBit_true]

theorem unsigned_eq (f : Fmt) (x : Word) : f.unsigned x = x &&& ~~~f.signBit true := by rw [Fmt.unsigned, signBit_true]

theorem mag_unsigned (f : Fmt) (x : Word) : f.mag (f.unsigned x) = f.mag x :=
  mag_eq_of_getLsbD fun i hi => by
    rw [unsigned_eq, BitVec.getLsbD_and, BitVec.getLsbD_not, signBit_true_getLsbD, decide_eq_false hi]
    by_cases h64 : i < 64
    · simp [h64]
    · simp [BitVec.getLsbD_of_ge x i (not_lt.1 h64)]

theorem sign_unsigned (f : Fmt) (x : Word) : f.sign (f.unsigned x) = false := by
  rw [Fmt.sign, unsigned_eq, abs_getLsbD (by cases f <;> decide)]
  simp

/-- Magnitudes are ordered as encodings. -/
theorem key_unsigned (f : Fmt) (x : Word) : f.key (f.unsigned x) = f.mag x := by
  rw [Fmt.key, sign_unsigned, mag_unsigned]; rfl

theorem isNaN_unsigned (f : Fmt) (x : Word) : f.isNaN (f.unsigned x) = f.isNaN x := isNaN_eq_of_mag (mag_unsigned f x)

/-! ## NaN operands (R646) -/

section
variable (f : Fmt)

theorem isNaN_of_isSNaN {f : Fmt} {x : Word} (h : f.isSNaN x = true) : f.isNaN x = true := (Bool.and_eq_true_iff.1 h).1

theorem isQNaN_eq {f : Fmt} {x : Word} (h : f.isSNaN x = false) : f.isQNaN x = f.isNaN x := by
  rw [Fmt.isQNaN]
  rw [Fmt.isSNaN] at h
  cases hn : f.isNaN x
  · rfl
  · rw [hn] at h; simpa using h

/-- What a list of operands with a NaN gives. -/
theorem propagates_orNaN (ops : List Word) (k : FpRes) : f.Propagates ops (f.orNaN ops k) := by
  rintro pre x post rfl
  refine ⟨fun hx hpre => ?_, fun hx hpre hall => ?_⟩
  · have hfind : (pre ++ x :: post).find? f.isSNaN = some x := by
      rw [List.find?_append, List.find?_eq_none.2 (by simpa using hpre), List.find?_cons_of_pos hx]; rfl
    rw [Fmt.orNaN, Fmt.nanResult, hfind]; rfl
  · have hsnan : (pre ++ x :: post).find? f.isSNaN = none := List.find?_eq_none.2 (by simpa using hall)
    have hfind : (pre ++ x :: post).find? f.isQNaN = some x := by
      have hnone : pre.find? f.isQNaN = none := List.find?_eq_none.2 fun y hy => by
        rw [isQNaN_eq (hall y (by simp [hy])), hpre y hy]; decide
      rw [List.find?_append, hnone, List.find?_cons_of_pos (by rw [isQNaN_eq (hall x (by simp)), hx])]; rfl
    rw [Fmt.orNaN, Fmt.nanResult, hsnan, hfind]; rfl

theorem nanResult_eq_none {ops : List Word} (h : ∀ y ∈ ops, f.isNaN y = false) : f.nanResult ops = none := by
  have hs : ops.find? f.isSNaN = none := List.find?_eq_none.2 fun y hy => by simp [Fmt.isSNaN, h y hy]
  have hq : ops.find? f.isQNaN = none := List.find?_eq_none.2 fun y hy => by simp [Fmt.isQNaN, h y hy]
  rw [Fmt.nanResult, hs, hq]; rfl

/-- Without a NaN the operation itself is done. -/
theorem orNaN_of_no_nan {ops : List Word} (h : ∀ y ∈ ops, f.isNaN y = false) (k : FpRes) : f.orNaN ops k = k := by
  rw [Fmt.orNaN, nanResult_eq_none f h]; rfl

theorem orNaN_one {f : Fmt} {a : Word} (ha : f.isNaN a = false) (k : FpRes) : f.orNaN [a] k = k :=
  orNaN_of_no_nan f (by simpa using ha) k

theorem orNaN_two {f : Fmt} {a b : Word} (ha : f.isNaN a = false) (hb : f.isNaN b = false) (k : FpRes) :
    f.orNaN [a, b] k = k := orNaN_of_no_nan f (by simpa using ⟨ha, hb⟩) k

/-- An operand in front that is no NaN does not count. -/
theorem Propagates_of_cons {f : Fmt} {y : Word} {ops : List Word} {r : FpRes} (hy : f.isNaN y = false)
    (h : f.Propagates (y :: ops) r) : f.Propagates ops r := by
  rintro pre x post rfl
  have hsy : f.isSNaN y = false := by rw [Fmt.isSNaN, hy]; rfl
  obtain ⟨hsnan, hqnan⟩ := h (y :: pre) x post rfl
  exact ⟨fun hx hpre => hsnan hx (List.forall_mem_cons.2 ⟨hsy, hpre⟩),
    fun hx hpre hall => hqnan hx (List.forall_mem_cons.2 ⟨hy, hpre⟩) (List.forall_mem_cons.2 ⟨hsy, hall⟩)⟩

theorem isNaN_one : f.isNaN f.one = false := by cases f <;> decide

theorem zeroTimesInf_iff (a b : Word) : f.zeroTimesInf a b = true ↔ f.ZeroTimesInf a b := by
  simp [Fmt.zeroTimesInf, Fmt.ZeroTimesInf]

theorem zeroTimesInf_eq_false {f : Fmt} {a b : Word} (h : ¬f.ZeroTimesInf a b) : f.zeroTimesInf a b = false := by
  rwa [← Bool.not_eq_true, zeroTimesInf_iff]

theorem isNaN_of_isInf {f : Fmt} {x : Word} (h : f.isInf x = true) : f.isNaN x = false := by
  simp only [Fmt.isInf, Bool.and_eq_true, decide_eq_true_eq] at h
  simp [Fmt.isNaN, h]

theorem isNaN_of_isZero {f : Fmt} {x : Word} (h : f.isZero x = true) : f.isNaN x = false := by
  obtain ⟨-, hfrac⟩ := (isZero_iff f x).1 h
  simp [Fmt.isNaN, hfrac]

theorem isInf_of_isZero {f : Fmt} {x : Word} (h : f.isZero x = true) : f.isInf x = false := by
  obtain ⟨hexp, -⟩ := (isZero_iff f x).1 h
  simp [Fmt.isInf, hexp, (expMax_ne_zero f).symm]

end

/-! ## Exact values as rationals -/

/-- The number a scaled integer stands for. -/
def Scaled.toRat (t : Scaled) : ℚ := t.v * 2 ^ t.e

theorem Scaled.toRat_add (s t : Scaled) : (s.add t).toRat = s.toRat + t.toRat := by
  have hshift (x : Scaled) (e : Int) (he : e ≤ x.e) : ((x.v * 2 ^ (x.e - e).toNat : Int) : ℚ) * 2 ^ e = x.toRat := by
    have hpow : (2 : ℚ) ^ (x.e - e).toNat * 2 ^ e = 2 ^ x.e := by
      rw [← zpow_natCast, ← zpow_add₀ two_ne_zero, Int.toNat_of_nonneg (by omega), Int.sub_add_cancel]
    rw [Scaled.toRat, ← hpow]
    push_cast
    ring
  rw [← hshift s (min s.e t.e) (min_le_left _ _), ← hshift t (min s.e t.e) (min_le_right _ _), ← add_mul, ← Int.cast_add]
  rfl

theorem Scaled.toRat_mul (s t : Scaled) : (s.mul t).toRat = s.toRat * t.toRat := by
  rw [Scaled.toRat, Scaled.mul, Scaled.toRat, Scaled.toRat, zpow_add₀ two_ne_zero]
  push_cast
  ring

theorem Scaled.toRat_eq_zero {t : Scaled} : t.toRat = 0 ↔ t.v = 0 := by
  rw [Scaled.toRat, mul_eq_zero, Int.cast_eq_zero, or_iff_left (by positivity)]

theorem val_toRat (f : Fmt) (x : Word) : (f.val x).toRat = f.value x := by
  rw [Scaled.toRat, Fmt.val, Fmt.value]
  cases f.sign x <;> simp

theorem value_eq_zero_iff (f : Fmt) (x : Word) : f.value x = 0 ↔ f.isZero x = true := by
  rw [value_eq_signedValue, Fmt.isZero, decide_eq_true_eq]
  have hzero : f.signedValue 0 = 0 := by simp [Fmt.signedValue, magValue_zero]
  rw [← hzero, (signedValue_strictMono f).injective.eq_iff, Fmt.key]
  split <;> omega

/-- A zero result carries the sign it is given. -/
theorem roundInt_zero {f : Fmt} {c : FpCtl} {t : Scaled} {e : Int} {zneg : Bool} (h : t.toRat = 0) :
    f.roundInt c t.v e zneg = ⟨f.zero zneg, excNone⟩ := if_pos (Scaled.toRat_eq_zero.1 h)

/-! ## Sums -/

section
variable {f : Fmt} {c : FpCtl} {a b z : Word}

theorem addNum_invalid (ha : f.isInf a = true) (hb : f.isInf b = true) (h : f.sign a ≠ f.sign b) :
    f.addNum c a b = ⟨f.dNaN, excV⟩ := by
  rw [Fmt.addNum, if_pos ha, if_pos (by rw [hb, Bool.true_and, bne_iff_ne]; exact h)]; rfl

theorem addNum_infLeft (ha : f.isInf a = true) (h : f.isInf b = true → f.sign a = f.sign b) :
    f.addNum c a b = ⟨a, excNone⟩ := by
  rw [Fmt.addNum, if_pos ha, if_neg]
  · rfl
  · rw [Bool.and_eq_true, bne_iff_ne]
    exact fun ⟨hb, hne⟩ => hne (h hb)

theorem addNum_infRight (ha : f.isInf a = false) (hb : f.isInf b = true) : f.addNum c a b = ⟨b, excNone⟩ := by
  rw [Fmt.addNum, if_neg (by rw [ha]; decide), if_pos hb]; rfl

/-- An exact sum that is 0 (R658). -/
theorem addNum_zero (ha : f.isInf a = false) (hb : f.isInf b = false) (h : f.value a + f.value b = 0) :
    f.addNum c a b = ⟨f.zero (if f.isZero a ∧ f.isZero b ∧ f.sign a = f.sign b then f.sign a else decide (c.rm = .down)),
      excNone⟩ := by
  rw [Fmt.addNum, if_neg (by rw [ha]; decide), if_neg (by rw [hb]; decide),
    roundInt_zero (by rw [Scaled.toRat_add, val_toRat, val_toRat, h]), Fmt.sumZeroSign]
  congr 3
  simp [and_assoc]

/-! ## Fused multiply-add (R649) -/

theorem fma_eq_orNaN (neg : Bool) (h : f.zeroTimesInf a b = false) :
    f.fma c neg a b z = f.orNaN [z, a, b] (f.fmaNum c a b (if neg then f.negate z else z)) := by
  rw [Fmt.fma, Fmt.orNaN, h]
  cases f.nanResult [z, a, b] with
  | none => rfl
  | some r => simp [excNone]

/-- The NaN result where the first operand is a NaN and no other one is. -/
theorem nanResult_first (hz : f.isNaN z = true) {ops : List Word} (hops : ∀ y ∈ ops, f.isNaN y = false) :
    f.nanResult (z :: ops) = some ⟨if f.isSNaN z then f.quiet z else z, if f.isSNaN z then excV else excNone⟩ := by
  cases hs : f.isSNaN z
  · have hrest : (z :: ops).find? f.isSNaN = none := List.find?_eq_none.2 <| List.forall_mem_cons.2
      ⟨by rw [hs]; decide, fun y hy => by simp [Fmt.isSNaN, hops y hy]⟩
    rw [Fmt.nanResult, hrest, List.find?_cons_of_pos (by rw [isQNaN_eq hs, hz])]; rfl
  · rw [Fmt.nanResult, List.find?_cons_of_pos hs]; rfl

theorem propagates_of_no_nan {ops : List Word} {r : FpRes} (h : ∀ y ∈ ops, f.isNaN y = false) : f.Propagates ops r := by
  rintro pre x post rfl
  have hx : f.isNaN x = false := h x (by simp)
  exact ⟨fun hs => absurd (isNaN_of_isSNaN hs) (by rw [hx]; decide), fun hn => absurd hn (by rw [hx]; decide)⟩

/-- 0 times infinity beside an addend (D58). -/
theorem fma_zeroTimesInf (neg : Bool) (h : f.ZeroTimesInf a b) :
    f.Propagates [z] ⟨(f.fma c neg a b z).bits, if f.isSNaN z then excV else excNone⟩ ∧
      (f.fma c neg a b z).exc = excV ∧ (f.isNaN z = false → (f.fma c neg a b z).bits = f.dNaN) := by
  have hab : f.isNaN a = false ∧ f.isNaN b = false := by
    obtain ⟨ha, hb⟩ | ⟨ha, hb⟩ := h
    · exact ⟨isNaN_of_isZero ha, isNaN_of_isInf hb⟩
    · exact ⟨isNaN_of_isInf ha, isNaN_of_isZero hb⟩
  obtain ⟨ha, hb⟩ := hab
  have hzti := (zeroTimesInf_iff f a b).2 h
  cases hz : f.isNaN z
  · have hfma : f.fma c neg a b z = f.invalid := by
      rw [Fmt.fma, nanResult_eq_none f (by simpa using ⟨hz, ha, hb⟩), hzti]; rfl
    rw [hfma]
    exact ⟨propagates_of_no_nan (by simpa using hz), rfl, fun _ => rfl⟩
  · have hfirst := nanResult_first hz (ops := [a, b]) (by simpa using ⟨ha, hb⟩)
    have hfma : f.fma c neg a b z = ⟨if f.isSNaN z then f.quiet z else z, excV⟩ := by
      rw [Fmt.fma, hfirst, hzti]
      cases f.isSNaN z <;> simp [excV, excNone]
    have hprop := propagates_orNaN f [z] f.invalid
    rw [Fmt.orNaN, nanResult_first hz (by simp)] at hprop
    rw [hfma]
    exact ⟨hprop, rfl, fun h => absurd h (by decide)⟩

section
variable {neg p q : Bool}

theorem fma_eq_fmaNum (ha : f.isNaN a = false) (hb : f.isNaN b = false) (hz : f.isNaN z = false)
    (h : ¬f.ZeroTimesInf a b) : f.fma c neg a b z = f.fmaNum c a b (if neg then f.negate z else z) := by
  rw [fma_eq_orNaN neg (zeroTimesInf_eq_false h), orNaN_of_no_nan f (by simpa using ⟨hz, ha, hb⟩)]

/-- The addend of FMSUB has the opposite sign and is otherwise the same datum. -/
theorem sign_addend : f.sign (if neg then f.negate z else z) = (f.sign z ^^ neg) := by
  cases neg
  · simp
  · simp [sign_negate]

theorem mag_addend : f.mag (if neg then f.negate z else z) = f.mag z := by
  cases neg
  · rfl
  · exact mag_negate f z

theorem value_addend : f.value (if neg then f.negate z else z) = if neg then -f.value z else f.value z := by
  cases neg
  · rfl
  · exact value_negate f z

theorem fmaNum_invalid (hab : f.isInf a = true ∨ f.isInf b = true) (hz : f.isInf z = true)
    (h : f.xorSign a b ≠ f.sign z) : f.fmaNum c a b z = ⟨f.dNaN, excV⟩ := by
  simp only [Fmt.fmaNum]
  rw [if_pos (by simpa using hab), if_pos (by rw [hz, Bool.true_and, bne_iff_ne]; exact h.symm)]
  rfl

theorem fmaNum_infProduct (hab : f.isInf a = true ∨ f.isInf b = true)
    (h : f.isInf z = true → f.xorSign a b = f.sign z) :
    f.fmaNum c a b z = ⟨f.inf (f.xorSign a b), excNone⟩ := by
  simp only [Fmt.fmaNum]
  rw [if_pos (by simpa using hab), if_neg]
  · rfl
  · rw [Bool.and_eq_true, bne_iff_ne]
    exact fun ⟨hz, hne⟩ => hne (h hz).symm

section
variable (ha : f.isInf a = false) (hb : f.isInf b = false)
include ha hb

theorem fmaNum_infAddend (hz : f.isInf z = true) : f.fmaNum c a b z = ⟨z, excNone⟩ := by
  simp only [Fmt.fmaNum]
  rw [if_neg (by simp [ha, hb]), if_pos hz]
  rfl

theorem fmaNum_zero (hz : f.isInf z = false) (h : f.value a * f.value b + f.value z = 0) :
    f.fmaNum c a b z = ⟨f.zero (if (f.isZero a ∨ f.isZero b) ∧ f.isZero z ∧ f.xorSign a b = f.sign z
      then f.xorSign a b else decide (c.rm = .down)), excNone⟩ := by
  simp only [Fmt.fmaNum]
  rw [if_neg (by simp [ha, hb]), if_neg (by simp [hz]),
    roundInt_zero (by rw [Scaled.toRat_add, Scaled.toRat_mul, val_toRat, val_toRat, val_toRat, h])]
  congr 3
  simp [and_assoc]

end
end

/-! ## Products and quotients -/

theorem mul_invalid (ha : f.isNaN a = false) (hb : f.isNaN b = false) (h : f.ZeroTimesInf a b) :
    f.mul c a b = ⟨f.dNaN, excV⟩ := by
  rw [Fmt.mul, orNaN_two ha hb, if_pos ((zeroTimesInf_iff f a b).2 h)]; rfl

theorem mul_inf (ha : f.isNaN a = false) (hb : f.isNaN b = false) (h : ¬f.ZeroTimesInf a b)
    (hinf : f.isInf a = true ∨ f.isInf b = true) : f.mul c a b = ⟨f.inf (f.sign a ^^ f.sign b), excNone⟩ := by
  rw [Fmt.mul, orNaN_two ha hb, if_neg (by rw [zeroTimesInf_eq_false h]; decide), if_pos (by simpa using hinf)]; rfl

theorem mul_zero_operand (ha : f.isNaN a = false) (hb : f.isNaN b = false) (h : ¬f.ZeroTimesInf a b)
    (hzero : f.isZero a = true ∨ f.isZero b = true) : f.mul c a b = ⟨f.zero (f.sign a ^^ f.sign b), excNone⟩ := by
  have hfin : ¬(f.isInf a || f.isInf b) = true := by
    rw [Bool.or_eq_true]
    rintro (hi | hi) <;> obtain hz | hz := hzero
    · exact absurd (isInf_of_isZero hz) (by rw [hi]; decide)
    · exact h (.inr ⟨hi, hz⟩)
    · exact h (.inl ⟨hz, hi⟩)
    · exact absurd (isInf_of_isZero hz) (by rw [hi]; decide)
  have hval : f.value a * f.value b = 0 := by
    rw [mul_eq_zero, value_eq_zero_iff, value_eq_zero_iff]; exact hzero
  rw [Fmt.mul, orNaN_two ha hb, if_neg (by rw [zeroTimesInf_eq_false h]; decide), if_neg hfin]
  exact roundInt_zero (by rw [Scaled.toRat_mul, val_toRat, val_toRat, hval])

/-- Division of data that are no NaNs, by the classes of its operands. -/
theorem div_special (ha : f.isNaN a = false) (hb : f.isNaN b = false) :
    (f.isInf a = true → f.isInf b = true → f.div c a b = ⟨f.dNaN, excV⟩) ∧
    (f.isInf a = true → f.isInf b = false → f.div c a b = ⟨f.inf (f.sign a ^^ f.sign b), excNone⟩) ∧
    (f.isInf a = false → f.isInf b = true → f.div c a b = ⟨f.zero (f.sign a ^^ f.sign b), excNone⟩) ∧
    (f.isZero a = true → f.isZero b = true → f.div c a b = ⟨f.dNaN, excV⟩) ∧
    (f.isInf a = false → f.isZero a = false → f.isZero b = true →
      f.div c a b = ⟨f.inf (f.sign a ^^ f.sign b), excZ⟩) ∧
    (f.isZero a = true → f.isInf b = false → f.isZero b = false →
      f.div c a b = ⟨f.zero (f.sign a ^^ f.sign b), excNone⟩) := by
  rw [Fmt.div, orNaN_two ha hb]
  refine ⟨fun h1 h2 => ?_, fun h1 h2 => ?_, fun h1 h2 => ?_, fun h1 h2 => ?_, fun h1 h2 h3 => ?_, fun h1 h2 h3 => ?_⟩
  · rw [h1, h2]; rfl
  · rw [h1, h2]; rfl
  · rw [h1, h2]; rfl
  · rw [isInf_of_isZero h1, isInf_of_isZero h2, h1, h2]; rfl
  · rw [h1, isInf_of_isZero h3, h2, h3]; rfl
  · rw [isInf_of_isZero h1, h2, h1, h3]; rfl

end

/-! ## Operations of one operand -/

section
variable {f : Fmt} {c : FpCtl} {a b : Word}

/-- The class of an operand decides the guards of the operations below. -/
theorem unary_zero (h : f.isZero a = true) : f.sqrt c a = ⟨a, excNone⟩ ∧ f.recip c a = ⟨f.inf (f.sign a), excZ⟩ ∧
    (∀ twice, f.rsqrt c twice a = ⟨f.inf (f.sign a), excZ⟩) ∧ (∀ n, f.scaleB c a n = ⟨a, excNone⟩) ∧
    f.logB c a = ⟨f.inf true, excZ⟩ ∧ ∀ report, f.rint c report a = ⟨a, excNone⟩ := by
  have hnan := isNaN_of_isZero h
  have hinf := isInf_of_isZero h
  have hone : f.isInf f.one = false ∧ f.isZero f.one = false ∧ f.sign f.one = false := by cases f <;> decide
  refine ⟨?_, ?_, fun twice => ?_, fun n => ?_, ?_, fun report => ?_⟩
  · rw [Fmt.sqrt, orNaN_one hnan, h]; rfl
  · rw [Fmt.recip, (div_special (isNaN_one f) hnan).2.2.2.2.1 hone.1 hone.2.1 h, hone.2.2, Bool.false_xor]
  · rw [Fmt.rsqrt, orNaN_one hnan, h]; rfl
  · rw [Fmt.scaleB, orNaN_one hnan, hinf, h]; rfl
  · rw [Fmt.logB, orNaN_one hnan, hinf, h]; rfl
  · rw [Fmt.rint, orNaN_one hnan, hinf, h]; rfl

theorem unary_inf (h : f.isInf a = true) : f.recip c a = ⟨f.zero (f.sign a), excNone⟩ ∧
    (∀ n, f.scaleB c a n = ⟨a, excNone⟩) ∧ f.logB c a = ⟨f.inf false, excNone⟩ ∧
    (∀ report, f.rint c report a = ⟨a, excNone⟩) ∧
    (f.sign a = false → f.sqrt c a = ⟨a, excNone⟩ ∧ ∀ twice, f.rsqrt c twice a = ⟨f.zero false, excNone⟩) := by
  have hnan := isNaN_of_isInf h
  have hzero : f.isZero a = false := by
    cases hz : f.isZero a
    · rfl
    · exact absurd (isInf_of_isZero hz) (by rw [h]; decide)
  have hone : f.isInf f.one = false ∧ f.sign f.one = false := by cases f <;> decide
  refine ⟨?_, fun n => ?_, ?_, fun report => ?_, fun hs => ⟨?_, fun twice => ?_⟩⟩
  · rw [Fmt.recip, (div_special (isNaN_one f) hnan).2.2.1 hone.1 h, hone.2, Bool.false_xor]
  · rw [Fmt.scaleB, orNaN_one hnan, h]; rfl
  · rw [Fmt.logB, orNaN_one hnan, h]; rfl
  · rw [Fmt.rint, orNaN_one hnan, h]; rfl
  · rw [Fmt.sqrt, orNaN_one hnan, hzero, hs, h]; rfl
  · rw [Fmt.rsqrt, orNaN_one hnan, hzero, hs, h]; rfl

/-- The root of a negative number. -/
theorem root_negative (ha : f.isNaN a = false) (hzero : f.isZero a = false) (hs : f.sign a = true) :
    f.sqrt c a = ⟨f.dNaN, excV⟩ ∧ ∀ twice, f.rsqrt c twice a = ⟨f.dNaN, excV⟩ := by
  refine ⟨?_, fun twice => ?_⟩
  · rw [Fmt.sqrt, orNaN_one ha, hzero, hs]; rfl
  · rw [Fmt.rsqrt, orNaN_one ha, hzero, hs]; rfl

/-! ## Maximum and minimum (R674-R681) -/

section
variable (ha : f.isNaN a = false) (hb : f.isNaN b = false)
include ha hb

theorem select_numbers (pick : Word → Word → Word) : f.select pick a b = ⟨pick a b, excNone⟩ := by
  rw [Fmt.select, Fmt.isSNaN, Fmt.isSNaN, ha, hb]; rfl

/-- By value. -/
theorem select_byValue :
    (f.ext b < f.ext a → f.select f.maxNum a b = ⟨a, excNone⟩ ∧ f.select f.minNum a b = ⟨b, excNone⟩) ∧
    (f.ext a < f.ext b → f.select f.maxNum a b = ⟨b, excNone⟩ ∧ f.select f.minNum a b = ⟨a, excNone⟩) ∧
    (f.ext a = f.ext b → f.select f.maxNum a b = ⟨if f.sign a then b else a, excNone⟩ ∧
      f.select f.minNum a b = ⟨if f.sign a then a else b, excNone⟩) := by
  rw [ext_lt_iff ha hb, ext_lt_iff hb ha, ext_eq_iff ha hb, select_numbers ha hb, select_numbers ha hb, Fmt.maxNum,
    Fmt.minNum]
  refine ⟨fun h => ?_, fun h => ?_, fun h => ?_⟩
  · rw [if_pos h, if_neg h.not_gt, if_pos h]; exact ⟨rfl, rfl⟩
  · rw [if_neg h.not_gt, if_pos h, if_pos h]; exact ⟨rfl, rfl⟩
  · rw [h, if_neg (lt_irrefl _), if_neg (lt_irrefl _), if_neg (lt_irrefl _), if_neg (lt_irrefl _)]; exact ⟨rfl, rfl⟩

/-- By magnitude. -/
theorem select_byMagnitude :
    (f.ext (f.unsigned b) < f.ext (f.unsigned a) →
      f.select f.maxMag a b = ⟨a, excNone⟩ ∧ f.select f.minMag a b = ⟨b, excNone⟩) ∧
    (f.ext (f.unsigned a) < f.ext (f.unsigned b) →
      f.select f.maxMag a b = ⟨b, excNone⟩ ∧ f.select f.minMag a b = ⟨a, excNone⟩) ∧
    (f.ext (f.unsigned a) = f.ext (f.unsigned b) → f.select f.maxMag a b = f.select f.maxNum a b ∧
      f.select f.minMag a b = f.select f.minNum a b) := by
  have hua := (isNaN_unsigned f a).trans ha
  have hub := (isNaN_unsigned f b).trans hb
  rw [ext_lt_iff hua hub, ext_lt_iff hub hua, ext_eq_iff hua hub, key_unsigned, key_unsigned, Nat.cast_lt, Nat.cast_lt,
    Nat.cast_inj, select_numbers ha hb, select_numbers ha hb, select_numbers ha hb, select_numbers ha hb, Fmt.maxMag,
    Fmt.minMag]
  refine ⟨fun h => ?_, fun h => ?_, fun h => ?_⟩
  · rw [if_pos h, if_neg h.not_gt, if_pos h]; exact ⟨rfl, rfl⟩
  · rw [if_neg h.not_gt, if_pos h, if_pos h]; exact ⟨rfl, rfl⟩
  · rw [h, if_neg (lt_irrefl _), if_neg (lt_irrefl _), if_neg (lt_irrefl _), if_neg (lt_irrefl _)]; exact ⟨rfl, rfl⟩

end

/-- NaNs among the operands of maximum and minimum (R674). -/
theorem select_nan (pick : Word → Word → Word) :
    ((f.isSNaN a = true ∨ f.isSNaN b = true) → f.Propagates [a, b] (f.select pick a b)) ∧
    (f.isSNaN a = false → f.isSNaN b = false →
      (f.isNaN a = true → f.isNaN b = false → f.select pick a b = ⟨b, excNone⟩) ∧
      (f.isNaN b = true → f.select pick a b = ⟨a, excNone⟩)) := by
  refine ⟨fun h => ?_, fun hsa hsb => ⟨fun ha hb => ?_, fun hb => ?_⟩⟩
  · rw [Fmt.select, if_pos (by simpa using h)]
    exact propagates_orNaN f [a, b] _
  · rw [Fmt.select, hsa, hsb, ha, hb]; rfl
  · rw [Fmt.select, hsa, hsb, hb]
    cases f.isNaN a <;> rfl

/-! ## The outer negation of FNMADD and FNMSUB (D61) -/

theorem negateResult_spec (r : FpRes) (also : Bool) :
    (f.isNaN r.bits = true → also = false → f.negateResult also r = r) ∧
      ((f.isNaN r.bits = true → also = true) → f.negateResult also r = ⟨f.flipped r.bits, r.exc⟩) := by
  rw [Fmt.negateResult, flipped_eq]
  refine ⟨fun hn ha => if_pos (by simp [hn, ha]), fun h => if_neg ?_⟩
  rw [Bool.and_eq_true, Bool.not_eq_true']
  exact fun ⟨hn, ha⟩ => absurd (h hn) (by rw [ha]; decide)

end

/-! ## Conversions (R704-R709) -/

/-- A datum as a number. -/
theorem pack_toNat (f : Fmt) (neg : Bool) {m : Nat} (hm : m < 2 ^ f.signPos) :
    (f.pack neg m).toNat = (if neg then 2 ^ f.signPos else 0) + m := by
  have h64 : 2 ^ f.signPos < 2 ^ 64 := Nat.pow_lt_pow_right (by decide) (by cases f <;> decide)
  have hsign : (f.signBit neg).toNat = if neg then 2 ^ f.signPos else 0 := by cases f <;> cases neg <;> rfl
  rw [Fmt.pack, BitVec.toNat_or, hsign, BitVec.toNat_ofNat, Nat.mod_eq_of_lt (hm.trans h64)]
  cases neg
  · simp
  · simpa using (Nat.two_pow_add_eq_or_of_lt hm 1).symm

/-- Setting bit `k` of a number. -/
theorem or_two_pow (n k : Nat) : n ||| 2 ^ k = 2 ^ k * (2 * (n / 2 ^ (k + 1)) + 1) + n % 2 ^ k := by
  refine Nat.eq_of_testBit_eq fun j => ?_
  rw [Nat.testBit_or, Nat.testBit_two_pow, Nat.testBit_two_pow_mul_add _ (Nat.mod_lt _ (by positivity))]
  obtain hj | rfl | hj := lt_trichotomy j k
  · simp [hj, hj.ne', Nat.testBit_mod_two_pow]
  · simp [Nat.testBit_zero]
  · obtain ⟨i, rfl⟩ := Nat.exists_eq_add_of_lt hj
    rw [if_neg (by omega), decide_eq_false (by omega), Bool.or_false, show k + i + 1 - k = i + 1 by omega,
      Nat.testBit_succ (2 * (n / 2 ^ (k + 1)) + 1), show (2 * (n / 2 ^ (k + 1)) + 1) / 2 = n / 2 ^ (k + 1) by omega, Nat.testBit_div_two_pow,
      show i + (k + 1) = k + i + 1 by omega]

/-- A NaN quieted, as a number. -/
theorem quiet_toNat (f : Fmt) (x : Word) : (f.quiet x).toNat =
    2 ^ (f.frac - 1) * (2 * (x.toNat / 2 ^ f.frac) + 1) + x.toNat % 2 ^ (f.frac - 1) := by
  have hbit : (1#64 <<< (f.frac - 1)).toNat = 2 ^ (f.frac - 1) := by cases f <;> rfl
  rw [Fmt.quiet, BitVec.toNat_or, hbit, or_two_pow, Nat.sub_add_cancel (by cases f <;> decide)]

/-- A quieted NaN, by its sign and exponent `t` and its fraction `n`. -/
theorem quiet_eq_ofNat {f : Fmt} {x : Word} {t n : Nat} (hx : x.toNat = 2 ^ f.frac * t + n) (hn : n < 2 ^ f.frac) :
    f.quiet x = BitVec.ofNat 64 (2 ^ f.frac * t + 2 ^ (f.frac - 1) + n % 2 ^ (f.frac - 1)) := by
  have hpow : 2 ^ f.frac = 2 ^ (f.frac - 1) * 2 := by cases f <;> rfl
  have hdiv : x.toNat / 2 ^ f.frac = t := by
    rw [hx, Nat.mul_add_div (Nat.two_pow_pos _), Nat.div_eq_of_lt hn, Nat.add_zero]
  have hmod : x.toNat % 2 ^ (f.frac - 1) = n % 2 ^ (f.frac - 1) := by
    rw [hx, hpow, Nat.mul_assoc, Nat.mul_add_mod]
  have hquiet := quiet_toNat f x
  rw [hdiv, hmod, Nat.mul_add, Nat.mul_one, ← Nat.mul_assoc, ← hpow] at hquiet
  rw [← hquiet, BitVec.ofNat_toNat, BitVec.setWidth_eq]

/-- NaNs between the formats (R704, R705): the sign and the top of the fraction are kept. -/
theorem cvtSD_nan {c : FpCtl} {x : Word} (h : Fmt.isNaN .d x = true) : cvtSD c x =
    ⟨BitVec.ofNat 64 ((if Fmt.sign .d x then 2 ^ 31 else 0) + 0x7FC00000 + Fmt.fraction .d x / 2 ^ 29 % 2 ^ 22),
      if Fmt.isSNaN .d x then excV else excNone⟩ := by
  have hfrac : Fmt.fraction .d x / 2 ^ 29 < 2 ^ 23 := Nat.div_lt_of_lt_mul (fraction_lt .d x)
  have hpack := pack_toNat .s (Fmt.sign .d x) (Nat.add_lt_add_left hfrac (255 * 2 ^ 23))
  simp only [cvtSD, h, if_true]
  refine congrArg (FpRes.mk · _) ?_
  cases hs : Fmt.sign .d x <;> rw [hs] at hpack
  · exact quiet_eq_ofNat (f := .s) (t := 255) (hpack.trans (Nat.zero_add _)) hfrac
  · exact quiet_eq_ofNat (f := .s) (t := 2 ^ 8 + 255) (hpack.trans (Nat.add_assoc ..).symm) hfrac

theorem cvtDS_nan {c : FpCtl} {x : Word} (h : Fmt.isNaN .s x = true) : cvtDS c x =
    ⟨BitVec.ofNat 64 ((if Fmt.sign .s x then 2 ^ 63 else 0) + 0x7FF8000000000000 + Fmt.fraction .s x % 2 ^ 22 * 2 ^ 29),
      if Fmt.isSNaN .s x then excV else excNone⟩ := by
  have hfrac : Fmt.fraction .s x * 2 ^ 29 < 2 ^ 52 := Nat.mul_lt_mul_of_pos_right (fraction_lt .s x) (by decide)
  have hpack := pack_toNat .d (Fmt.sign .s x) (Nat.add_lt_add_left hfrac (2047 * 2 ^ 52))
  simp only [cvtDS, h, if_true]
  rw [← Nat.mul_mod_mul_right]
  refine congrArg (FpRes.mk · _) ?_
  cases hs : Fmt.sign .s x <;> rw [hs] at hpack
  · exact quiet_eq_ofNat (f := .d) (t := 2047) (hpack.trans (Nat.zero_add _)) hfrac
  · exact quiet_eq_ofNat (f := .d) (t := 2 ^ 11 + 2047) (hpack.trans (Nat.add_assoc ..).symm) hfrac

theorem cvtSD_special {c : FpCtl} {x : Word} :
    (Fmt.isInf .d x = true → cvtSD c x = ⟨Fmt.inf .s (Fmt.sign .d x), excNone⟩) ∧
    (Fmt.isZero .d x = true → cvtSD c x = ⟨Fmt.zero .s (Fmt.sign .d x), excNone⟩) := by
  refine ⟨fun h => ?_, fun h => ?_⟩
  · simp only [cvtSD, isNaN_of_isInf h, h]; rfl
  · simp only [cvtSD, isNaN_of_isZero h, isInf_of_isZero h]
    exact roundInt_zero ((val_toRat _ _).trans ((value_eq_zero_iff _ _).2 h))

theorem cvtDS_special {c : FpCtl} {x : Word} :
    (Fmt.isInf .s x = true → cvtDS c x = ⟨Fmt.inf .d (Fmt.sign .s x), excNone⟩) ∧
    (Fmt.isZero .s x = true → cvtDS c x = ⟨Fmt.zero .d (Fmt.sign .s x), excNone⟩) := by
  refine ⟨fun h => ?_, fun h => ?_⟩
  · simp only [cvtDS, isNaN_of_isInf h, h]; rfl
  · simp only [cvtDS, isNaN_of_isZero h, isInf_of_isZero h]
    exact roundInt_zero ((val_toRat _ _).trans ((value_eq_zero_iff _ _).2 h))

/-! ## The settling theorem -/

/-- What the operations give for NaNs. -/
theorem operations_propagate (f : Fmt) (c : FpCtl) (a b z : Word) (twice report : Bool) (n : Int) :
    f.Propagates [a, b] (f.add c a b) ∧ f.Propagates [a, b] (f.sub c a b) ∧ f.Propagates [a, b] (f.mul c a b) ∧
    f.Propagates [a, b] (f.div c a b) ∧ f.Propagates [a] (f.sqrt c a) ∧ f.Propagates [a] (f.recip c a) ∧
    f.Propagates [a] (f.rsqrt c twice a) ∧ f.Propagates [a] (f.scaleB c a n) ∧ f.Propagates [a] (f.logB c a) ∧
    f.Propagates [a] (f.rint c report a) ∧
    (∀ neg, (¬f.ZeroTimesInf a b → f.Propagates [z, a, b] (f.fma c neg a b z)) ∧
      (f.ZeroTimesInf a b → f.Propagates [z] (⟨(f.fma c neg a b z).bits, if f.isSNaN z then excV else excNone⟩) ∧
        (f.fma c neg a b z).exc = excV ∧ (f.isNaN z = false → (f.fma c neg a b z).bits = f.dNaN))) ∧
    (∀ (r : FpRes) (also : Bool), (f.isNaN r.bits = true → also = false → f.negateResult also r = r) ∧
      ((f.isNaN r.bits = true → also = true) → f.negateResult also r = ⟨f.flipped r.bits, r.exc⟩)) :=
  ⟨propagates_orNaN f _ _, propagates_orNaN f _ _, propagates_orNaN f _ _, propagates_orNaN f _ _,
    propagates_orNaN f _ _, Propagates_of_cons (isNaN_one f) (propagates_orNaN f [f.one, a] _), propagates_orNaN f _ _,
    propagates_orNaN f _ _, propagates_orNaN f _ _, propagates_orNaN f _ _,
    fun neg => ⟨fun h => fma_eq_orNaN neg (zeroTimesInf_eq_false h) ▸ propagates_orNaN f _ _, fma_zeroTimesInf neg⟩,
    negateResult_spec⟩

section
variable {f : Fmt} {c : FpCtl} {a b z : Word} (ha : f.isNaN a = false) (hb : f.isNaN b = false)
include ha hb

/-- Sums with an infinity, and exact zero sums. -/
theorem add_special :
    (f.isInf a = true → f.isInf b = true → f.sign a ≠ f.sign b → f.add c a b = ⟨f.dNaN, excV⟩) ∧
    (f.isInf a = true → (f.isInf b = true → f.sign a = f.sign b) → f.add c a b = ⟨a, excNone⟩) ∧
    (f.isInf a = false → f.isInf b = true → f.add c a b = ⟨b, excNone⟩) ∧
    (f.isInf a = false → f.isInf b = false → f.value a + f.value b = 0 → f.add c a b =
      ⟨f.zero (if f.isZero a ∧ f.isZero b ∧ f.sign a = f.sign b then f.sign a else decide (c.rm = .down)), excNone⟩) := by
  rw [Fmt.add, orNaN_two ha hb]
  exact ⟨addNum_invalid, addNum_infLeft, addNum_infRight, addNum_zero⟩

/-- Differences are sums with the second operand negated. -/
theorem sub_special :
    (f.isInf a = true → f.isInf b = true → f.sign a = f.sign b → f.sub c a b = ⟨f.dNaN, excV⟩) ∧
    (f.isInf a = true → (f.isInf b = true → f.sign a ≠ f.sign b) → f.sub c a b = ⟨a, excNone⟩) ∧
    (f.isInf a = false → f.isInf b = true → f.sub c a b = ⟨f.flipped b, excNone⟩) ∧
    (f.isInf a = false → f.isInf b = false → f.value a - f.value b = 0 → f.sub c a b =
      ⟨f.zero (if f.isZero a ∧ f.isZero b ∧ f.sign a ≠ f.sign b then f.sign a else decide (c.rm = .down)), excNone⟩) := by
  have hinf := isInf_eq_of_mag (mag_negate f b)
  have hzero := isZero_eq_of_mag (mag_negate f b)
  have hsign : f.sign a = f.sign (f.negate b) ↔ f.sign a ≠ f.sign b := by
    rw [sign_negate]; cases f.sign a <;> cases f.sign b <;> decide
  rw [Fmt.sub, orNaN_two ha hb, ← hinf, ← hzero, flipped_eq, sub_eq_add_neg, ← value_negate]
  simp only [← hsign]
  exact ⟨fun h1 h2 h3 => addNum_invalid h1 h2 (mt hsign.1 (not_not.2 h3)), addNum_infLeft, addNum_infRight, addNum_zero⟩

/-- Fused sums (R649), for either sign of the addend. -/
theorem fma_special (hz : f.isNaN z = false) (neg p q : Bool) (hp : p = (f.sign a ^^ f.sign b))
    (hq : q = (f.sign z ^^ neg)) (h : ¬f.ZeroTimesInf a b) :
    ((f.isInf a = true ∨ f.isInf b = true) → f.isInf z = true → p ≠ q → f.fma c neg a b z = ⟨f.dNaN, excV⟩) ∧
    ((f.isInf a = true ∨ f.isInf b = true) → (f.isInf z = true → p = q) →
      f.fma c neg a b z = ⟨f.inf p, excNone⟩) ∧
    (f.isInf a = false → f.isInf b = false → f.isInf z = true →
      f.fma c neg a b z = ⟨if neg then f.flipped z else z, excNone⟩) ∧
    (f.isInf a = false → f.isInf b = false → f.isInf z = false →
      f.value a * f.value b + (if neg then -f.value z else f.value z) = 0 → f.fma c neg a b z =
        ⟨f.zero (if (f.isZero a ∨ f.isZero b) ∧ f.isZero z ∧ p = q then p else decide (c.rm = .down)), excNone⟩) := by
  have hinf := isInf_eq_of_mag (mag_addend (f := f) (z := z) (neg := neg))
  have hzero := isZero_eq_of_mag (mag_addend (f := f) (z := z) (neg := neg))
  rw [fma_eq_fmaNum ha hb hz h, flipped_eq, ← value_addend, ← hinf, ← hzero, hp, hq,
    ← sign_addend (f := f) (z := z) (neg := neg)]
  exact ⟨fmaNum_invalid, fmaNum_infProduct, fmaNum_infAddend, fmaNum_zero⟩

end

/-- Settles O37: every form finishes with the result of its operation, and each operation by the classes of its
operands. -/
theorem fpArithmeticDelivers : Obligations.FpArithmeticDelivers := by
  intro fd fj fk fa
  and_intros
  any_goals exact deliversFp_of fun _ hs => fpGate_of hs _
  · exact operations_propagate
  · intro f c a b z ha hb hz
    obtain ⟨hadd1, hadd2, hadd3, hadd4⟩ := add_special (c := c) ha hb
    obtain ⟨hsub1, hsub2, hsub3, hsub4⟩ := sub_special (c := c) ha hb
    obtain ⟨hdiv1, hdiv2, hdiv3, hdiv4, hdiv5, hdiv6⟩ := div_special (c := c) ha hb
    obtain ⟨hval1, hval2, hval3⟩ := select_byValue ha hb
    exact ⟨hadd1, hadd2, hadd3, hsub1, hsub2, hsub3, hadd4, hsub4, mul_invalid ha hb, mul_inf ha hb,
      mul_zero_operand ha hb, hdiv1, hdiv2, hdiv3, hdiv4, hdiv5, hdiv6, fma_special ha hb hz, unary_zero,
      root_negative ha, unary_inf, hval1, hval2, hval3, select_byMagnitude ha hb⟩
  · exact fun f pick a b => select_nan pick
  · exact fun c x => ⟨cvtSD_nan, cvtDS_nan, cvtSD_special.1, cvtDS_special.1, cvtSD_special.2, cvtDS_special.2,
      fun f => by cases f <;> rfl⟩

end Sys2Proof.Machine
end

section
/-!
Return from an exception (R803, R804): the four contexts of ERTN one at a time, and its LLbit step.
-/

namespace Sys2Proof.Machine

/-! ## One bit replaced, a field replaced -/

theorem putBit_same {n : Nat} (x : BitVec n) {k : Nat} (b : Bool) (hk : k < n) : (putBit x k b).getLsbD k = b := by
  rw [putBit_get _ _ _ _ hk, if_pos rfl]

theorem putBit_other {n : Nat} (x : BitVec n) {k i : Nat} (b : Bool) (h : i ≠ k) :
    (putBit x k b).getLsbD i = x.getLsbD i := by
  by_cases hi : i < n
  · rw [putBit_get _ _ _ _ hi, if_neg h]
  · rw [BitVec.getLsbD_of_ge _ _ (by omega), BitVec.getLsbD_of_ge _ _ (by omega)]

theorem putBits_other {n : Nat} (x : BitVec n) {lo w i : Nat} (v : BitVec w) (h : i < lo ∨ lo + w ≤ i) :
    (putBits x lo w v).getLsbD i = x.getLsbD i := by
  by_cases hi : i < n
  · rw [putBits_get _ _ _ _ _ hi, if_neg (by omega)]
  · rw [BitVec.getLsbD_of_ge _ _ (by omega), BitVec.getLsbD_of_ge _ _ (by omega)]

theorem extractLsb'_putBits_same {n : Nat} (x : BitVec n) {lo w : Nat} (v : BitVec w) (h : lo + w ≤ n) :
    (putBits x lo w v).extractLsb' lo w = v :=
  extractLsb'_eq_of_getLsbD fun i hi => by
    rw [putBits_get _ _ _ _ _ (by omega), if_pos (by omega), Nat.add_sub_cancel_left]

/-- Bits away from the field stay. -/
theorem extractLsb'_putBits_other {n : Nat} (x : BitVec n) {lo w lo' w' : Nat} (v : BitVec w)
    (h : lo' + w' ≤ lo ∨ lo + w ≤ lo') : (putBits x lo w v).extractLsb' lo' w' = x.extractLsb' lo' w' :=
  extractLsb'_eq_of_getLsbD fun i hi => by
    rw [putBits_other _ _ (by omega), BitVec.getLsbD_extractLsb', decide_eq_true hi, Bool.true_and]

/-! ## The mode of a context -/

theorem restoreMode_plvIe (c : BitVec 32) (m : BitVec 3) (w : BitVec 1) : (restoreMode c m w).extractLsb' 0 3 = m := by
  rw [restoreMode, extractLsb'_putBits_other _ _ (by omega), extractLsb'_putBits_same _ _ (by omega)]

theorem restoreMode_we (c : BitVec 32) (m : BitVec 3) (w : BitVec 1) : (restoreMode c m w).getLsbD 9 = w.getLsbD 0 := by
  rw [restoreMode, putBits_get _ _ _ _ _ (by decide), if_pos (by decide)]

/-- PLV, IE and WE apart, CRMD stays. -/
theorem restoreMode_rest (c : BitVec 32) (m : BitVec 3) (w : BitVec 1) {lo n : Nat}
    (h : 10 ≤ lo ∨ 3 ≤ lo ∧ lo + n ≤ 9) : (restoreMode c m w).extractLsb' lo n = c.extractLsb' lo n := by
  rw [restoreMode, extractLsb'_putBits_other _ _ (by omega), extractLsb'_putBits_other _ _ (by omega)]

/-! ## The contexts -/

section
variable {s : State}

theorem ertnContext_debug (hd : s.dbg.dbg.getLsbD 0 = true) : s.ertnContext =
    { s with dbg := { s.dbg with dbg := putBit s.dbg.dbg 0 false }, pc := s.cfg.wrap s.dbg.dera } := by
  rw [State.ertnContext, if_pos hd]

theorem ertnContext_merr (hd : ¬s.dbg.dbg.getLsbD 0 = true) (hm : s.ras.merrctl.getLsbD 0 = true) : s.ertnContext =
    { s with
      csr := { s.csr with crmd := putBits (restoreMode s.csr.crmd (s.ras.merrctl.extractLsb' 2 3)
        (s.ras.merrctl.extractLsb' 6 1)) 3 6 (s.ras.merrctl.extractLsb' 7 6) }
      ras := { s.ras with merrctl := putBit s.ras.merrctl 0 false }
      pc := s.cfg.wrap s.ras.merrera } := by
  rw [State.ertnContext, if_neg hd, if_pos hm]

theorem ertnContext_refill (hd : ¬s.dbg.dbg.getLsbD 0 = true) (hm : ¬s.ras.merrctl.getLsbD 0 = true)
    (ht : s.mmu.tlbrera.getLsbD 0 = true) : s.ertnContext =
    { s with
      csr := { s.csr with crmd := putBits (restoreMode s.csr.crmd (s.mmu.tlbrprmd.extractLsb' 0 3)
        (s.mmu.tlbrprmd.extractLsb' 4 1)) 3 2 0b10#2 }
      mmu := { s.mmu with tlbrera := putBit s.mmu.tlbrera 0 false }
      pc := s.cfg.wrap (s.mmu.tlbrera &&& ~~~3#64) } := by
  rw [State.ertnContext, if_neg hd, if_neg hm, if_pos ht]

theorem ertnContext_general (hd : ¬s.dbg.dbg.getLsbD 0 = true) (hm : ¬s.ras.merrctl.getLsbD 0 = true)
    (ht : ¬s.mmu.tlbrera.getLsbD 0 = true) : s.ertnContext =
    { s with
      csr := { s.csr with crmd := restoreMode s.csr.crmd (s.csr.prmd.extractLsb' 0 3) (s.csr.prmd.extractLsb' 3 1) }
      pc := s.cfg.wrap s.csr.era } := by
  rw [State.ertnContext, if_neg hd, if_neg hm, if_neg ht]

end

/-- What ERTN restores, by the context it returns from (R803): the last clause of its statement. -/
def State.Returned (s t : State) : Prop :=
  if s.dbg.dbg.getLsbD 0 then
    t.dbg.dbg.getLsbD 0 = false ∧ (∀ i, i ≠ 0 → t.dbg.dbg.getLsbD i = s.dbg.dbg.getLsbD i) ∧
    t.pc = s.cfg.wrap s.dbg.dera ∧ t.csr.crmd = s.csr.crmd ∧ t.ras = s.ras ∧ t.mmu = s.mmu
  else if s.ras.merrctl.getLsbD 0 then
    t.ras.merrctl.getLsbD 0 = false ∧ (∀ i, i ≠ 0 → t.ras.merrctl.getLsbD i = s.ras.merrctl.getLsbD i) ∧
    t.pc = s.cfg.wrap s.ras.merrera ∧ t.dbg = s.dbg ∧ t.mmu = s.mmu ∧
    t.csr.crmd.extractLsb' 0 3 = s.ras.merrctl.extractLsb' 2 3 ∧
    t.csr.crmd.getLsbD 9 = s.ras.merrctl.getLsbD 6 ∧ t.csr.crmd.extractLsb' 3 6 = s.ras.merrctl.extractLsb' 7 6
  else if s.mmu.tlbrera.getLsbD 0 then
    t.mmu.tlbrera.getLsbD 0 = false ∧ (∀ i, i ≠ 0 → t.mmu.tlbrera.getLsbD i = s.mmu.tlbrera.getLsbD i) ∧
    t.pc = s.cfg.wrap (s.mmu.tlbrera &&& ~~~3#64) ∧ t.dbg = s.dbg ∧ t.ras = s.ras ∧
    t.csr.crmd.extractLsb' 0 3 = s.mmu.tlbrprmd.extractLsb' 0 3 ∧
    t.csr.crmd.getLsbD 9 = s.mmu.tlbrprmd.getLsbD 4 ∧ t.csr.crmd.extractLsb' 3 2 = 0b10#2 ∧
    t.csr.crmd.extractLsb' 5 4 = s.csr.crmd.extractLsb' 5 4
  else
    t.pc = s.cfg.wrap s.csr.era ∧ t.dbg = s.dbg ∧ t.ras = s.ras ∧ t.mmu = s.mmu ∧
    t.csr.crmd.extractLsb' 0 3 = s.csr.prmd.extractLsb' 0 3 ∧ t.csr.crmd.getLsbD 9 = s.csr.prmd.getLsbD 3 ∧
    t.csr.crmd.extractLsb' 3 6 = s.csr.crmd.extractLsb' 3 6

/-- `u` differs from `s` in the pc and in what a return of any context writes. -/
def State.ReturnFrame (s u : State) : Prop :=
  u = { s with
    csr := { s.csr with crmd := u.csr.crmd }
    ras := { s.ras with merrctl := u.ras.merrctl }
    mmu := { s.mmu with tlbrera := u.mmu.tlbrera }
    dbg := { s.dbg with dbg := u.dbg.dbg }
    pc := u.pc }

theorem ertnContext_spec (s : State) : s.ReturnFrame s.ertnContext ∧
    s.ertnContext.csr.crmd.extractLsb' 10 22 = s.csr.crmd.extractLsb' 10 22 ∧ s.Returned s.ertnContext := by
  by_cases hd : s.dbg.dbg.getLsbD 0 = true
  case pos =>
    rw [State.Returned, if_pos hd, ertnContext_debug hd]
    exact ⟨rfl, rfl, putBit_same _ _ (by decide), fun i hi => putBit_other _ _ hi, rfl, rfl, rfl, rfl⟩
  by_cases hm : s.ras.merrctl.getLsbD 0 = true
  case pos =>
    rw [State.Returned, if_neg hd, if_pos hm, ertnContext_merr hd hm]
    refine ⟨rfl, ?_, putBit_same _ _ (by decide), fun i hi => putBit_other _ _ hi, rfl, rfl, rfl, ?_, ?_,
      extractLsb'_putBits_same _ _ (by decide)⟩
    · rw [extractLsb'_putBits_other _ _ (by omega), restoreMode_rest _ _ _ (by omega)]
    · rw [extractLsb'_putBits_other _ _ (by omega), restoreMode_plvIe]
    · rw [putBits_other _ _ (by omega), restoreMode_we]
      simp
  by_cases ht : s.mmu.tlbrera.getLsbD 0 = true
  case pos =>
    rw [State.Returned, if_neg hd, if_neg hm, if_pos ht, ertnContext_refill hd hm ht]
    refine ⟨rfl, ?_, putBit_same _ _ (by decide), fun i hi => putBit_other _ _ hi, rfl, rfl, rfl, ?_, ?_,
      extractLsb'_putBits_same _ _ (by decide), ?_⟩
    · rw [extractLsb'_putBits_other _ _ (by omega), restoreMode_rest _ _ _ (by omega)]
    · rw [extractLsb'_putBits_other _ _ (by omega), restoreMode_plvIe]
    · rw [putBits_other _ _ (by omega), restoreMode_we]
      simp
    · rw [extractLsb'_putBits_other _ _ (by omega), restoreMode_rest _ _ _ (by omega)]
  rw [State.Returned, if_neg hd, if_neg hm, if_neg ht, ertnContext_general hd hm ht]
  refine ⟨rfl, restoreMode_rest _ _ _ (by omega), rfl, rfl, rfl, rfl, restoreMode_plvIe _ _ _, ?_,
    restoreMode_rest _ _ _ (by omega)⟩
  rw [restoreMode_we]
  simp

/-! ## The LLbit step -/

/-- KLO decides what becomes of LLbit, and is used up (R804). -/
theorem ertnLlbit_spec (s : State) :
    (s.csr.llbctl.getLsbD 2 = true → s.ertnLlbit.llbit = s.llbit ∧ s.ertnLlbit.csr.llbctl.getLsbD 2 = false ∧
      ∀ i, i ≠ 2 → s.ertnLlbit.csr.llbctl.getLsbD i = s.csr.llbctl.getLsbD i) ∧
    (s.csr.llbctl.getLsbD 2 = false → s.ertnLlbit.llbit = false ∧ s.ertnLlbit.csr.llbctl = s.csr.llbctl) ∧
    s.ertnLlbit = { s with
      csr := { s.csr with llbctl := s.ertnLlbit.csr.llbctl }, llbit := s.ertnLlbit.llbit } := by
  by_cases h : s.csr.llbctl.getLsbD 2 = true
  · rw [State.ertnLlbit, if_pos h]
    exact ⟨fun _ => ⟨rfl, putBit_same _ _ (by decide), fun i hi => putBit_other _ _ hi⟩,
      fun h' => absurd (h.symm.trans h') (by decide), rfl⟩
  · rw [State.ertnLlbit, if_neg h]
    exact ⟨fun h' => absurd h' h, fun _ => ⟨rfl, rfl⟩, rfl⟩

/-- Settles O52: the context, then the LLbit step, which leaves what the context restored. -/
theorem ertnReturnsByContext : Obligations.ErtnReturnsByContext := by
  intro s hp
  obtain ⟨hframe, hhigh, hret⟩ := ertnContext_spec s
  obtain ⟨hklo, hklo', hll⟩ := ertnLlbit_spec s.ertnContext
  refine ⟨s.ertn, privileged_of hp _, ?_⟩
  generalize hu : s.ertnContext = u at *
  have ht : s.ertn = u.ertnLlbit := by rw [State.ertn, hu]
  generalize u.ertnLlbit = t at *
  rw [ht]
  obtain ⟨hkeep, hbit⟩ : u.csr.llbctl = s.csr.llbctl ∧ u.llbit = s.llbit := by rw [hframe]; exact ⟨rfl, rfl⟩
  rw [hkeep, hbit] at hklo
  rw [hkeep] at hklo'
  refine ⟨hklo, hklo', ?_, ?_, ?_⟩
  · rw [hll, hframe]
    exact ⟨fun _ => rfl, fun _ => rfl, fun _ => rfl, rfl, fun _ => rfl,
      ⟨rfl, rfl, rfl, rfl, rfl, rfl, rfl, rfl, rfl, rfl, rfl, rfl⟩, ⟨rfl, rfl, rfl, rfl, rfl, rfl⟩⟩
  · rw [hll]
    exact hhigh
  · rw [hll]
    exact hret

end Sys2Proof.Machine
end

section
/-!
The instructions that make TLB entries invalid (R800-R802).
-/

namespace Sys2Proof.Machine

/-- The frame of an instruction that goes on with another TLB. -/
theorem skip_withTlb (s : State) (m : List (Nat × TlbEntry)) : ∃ t, State.skip { s with tlb := m } = .next t ∧
    AtNext s t ∧ OnlyPc { s with tlb := t.tlb } t ∧ t.tlb = m := by
  obtain ⟨t, ht, hnext, hframe⟩ := skip_spec { s with tlb := m }
  obtain rfl : t.tlb = m := hframe.sys.tlb
  exact ⟨t, ht, hnext, hframe, rfl⟩

theorem tlbAt_congr {s t : State} (h : t.tlb = s.tlb) (i : Nat) : t.tlbAt i = s.tlbAt i := by
  rw [State.tlbAt, h, State.tlbAt]

/-- Every entry of the condition becomes invalid, the others stay. -/
theorem skip_tlbInvalidate {s : State} (hok : s.TlbOk) (p : Nat → TlbEntry → Bool) : ∃ t,
    (s.tlbInvalidate p).skip = .next t ∧ AtNext s t ∧ OnlyPc { s with tlb := t.tlb } t ∧
    ∀ (i : Nat) (cond : Prop), (cond ↔ p i (s.tlbAt i) = true) →
      (cond → (t.tlbAt i).e = false) ∧ (¬cond → t.tlbAt i = s.tlbAt i) := by
  obtain ⟨t, ht, hnext, hframe, htlb⟩ := skip_withTlb s (s.tlbInvalidate p).tlb
  refine ⟨t, ht, hnext, hframe, fun i cond hcond => ?_⟩
  rw [hcond, tlbAt_congr (s := s.tlbInvalidate p) htlb, tlbInvalidate_tlbAt hok]
  exact ⟨fun h => by rw [if_pos h], fun h => if_neg h⟩

theorem hasTlb_of {s : State} (hpg : s.cfg.hasPgmmu = true) (htype : s.cfg.tlbType ≠ 0) : s.cfg.hasTlb = true := by
  simp [Config.hasTlb, hpg, htype]

theorem clearScope_iff (s : State) (i : Nat) : s.clearScope i = true ↔
    if stlbEntries s.cfg ≤ s.tlbIndex then stlbEntries s.cfg ≤ i
    else i < stlbEntries s.cfg ∧ i % 2 ^ s.cfg.stlbSets = s.tlbIndex % 2 ^ s.cfg.stlbSets := by
  rw [State.clearScope]
  split
  · exact decide_eq_true_iff
  · rw [Bool.and_eq_true, decide_eq_true_iff, beq_iff_eq]

/-- The rows of Table 13. -/
theorem invCond_iff (s : State) {op : Nat} (hop : op ≤ 6) (asid : BitVec 10) (va : Word) (i : Nat) (e : TlbEntry) :
    s.invCond op asid va i e = true ↔ op = 0 ∨ op = 1 ∨ (op = 2 ∧ e.g = true) ∨ (op = 3 ∧ ¬e.g = true) ∨
      (op = 4 ∧ ¬e.g = true ∧ e.asid = asid) ∨
      (op = 5 ∧ ¬e.g = true ∧ e.asid = asid ∧ vppnMatch s.cfg (s.entryPs i e) e va = true) ∨
      (op = 6 ∧ (e.g = true ∨ e.asid = asid) ∧ vppnMatch s.cfg (s.entryPs i e) e va = true) := by
  interval_cases op <;> simp [State.invCond, and_assoc]

/-- Settles O50: each instruction invalidates by the condition of its row. -/
theorem tlbInvalidation : Obligations.TlbInvalidation := by
  rintro rj rk op s hp hpg htype hok _ rfl
  have hgate (k : Out) : s.tlbGate k = k := tlbGate_of (hasTlb_of hpg htype) hp k
  refine ⟨?clear, ?flush, fun hop => ?inv⟩
  case clear =>
    obtain ⟨t, ht, hnext, hframe, hcond⟩ := skip_tlbInvalidate hok fun i e => s.clearScope i && !e.g && e.asid == s.asid
    exact ⟨t, (hgate _).trans ht, hnext, hframe, fun i => hcond i _ (by simp [clearScope_iff, and_assoc, State.asid])⟩
  case flush =>
    obtain ⟨t, ht, hnext, hframe, hcond⟩ := skip_tlbInvalidate hok fun i _ => s.clearScope i
    exact ⟨t, (hgate _).trans ht, hnext, hframe, fun i => hcond i _ (clearScope_iff s i).symm⟩
  case inv =>
    obtain ⟨t, ht, hnext, hframe, hcond⟩ :=
      skip_tlbInvalidate hok (s.invCond op.toNat ((s.getGr rj).extractLsb' 0 10) (s.getGr rk))
    refine ⟨t, (hgate _).trans ((need_of (decide_eq_true hop) _).trans ht), hnext, hframe,
      fun i g own at' cond hg hown hat hrow => hcond i cond ?_⟩
    rw [hrow, invCond_iff s hop, hg, hown, hat, vppnMatch, beq_iff_eq]

end Sys2Proof.Machine
end

section
/-!
IDLE, DBCL and CACOP by query (R793, R805, R806).
-/

namespace Sys2Proof.Machine

/-- The wait state is entered where nothing would end it (R806). -/
theorem idle_spec {s : State} (hp : s.plv = 0#2) (code : BitVec 15) : ∃ t, exec (.idle code) s = .next t ∧ AtNext s t ∧
    (t.idle = true ↔ ¬((s.cfg.idleWakeNeedsIe = true → s.csr.crmd.getLsbD 2 = true) ∧
      ∃ n < 13, s.isBits.getLsbD n = true ∧ s.csr.ecfg.getLsbD n = true) ∧ s.merrPending = none) ∧
    OnlyPc { s with idle := t.idle } t := by
  refine ⟨_, privileged_of hp _, rfl, ?_, ⟨fun _ => rfl, fun _ => rfl, fun _ => rfl, rfl, fun _ => rfl,
    ⟨rfl, rfl, rfl, rfl, rfl, rfl, rfl, rfl, rfl, rfl, rfl, rfl⟩, ⟨rfl, rfl, rfl, rfl, rfl, rfl⟩⟩⟩
  rw [Bool.not_eq_true', ← Bool.not_eq_true, wakes_iff, not_or, Option.not_isSome_iff_eq_none]

/-! ## DBCL (R805) -/

/-- The debug registers after DBCL, outside and inside debug mode. -/
theorem debugCallEntry_dbg (s : State) (code : BitVec 15) : (s.debugCallEntry code).dbg =
    if s.dbg.dbg.getLsbD 0 then { s.dbg with dbg := putBits s.dbg.dbg 16 6 0xC#6 }
    else { s.dbg with dbg := putBit (putBit s.dbg.dbg 0 true) 9 true, dera := s.pc } := by
  rw [State.debugCallEntry, State.noteDebug]
  dsimp only
  split <;> rfl

theorem debugCallEntry_frame (s : State) (code : BitVec 15) :
    OnlyPc { s with dbg := (s.debugCallEntry code).dbg, debugCall := some code } (s.debugCallEntry code) :=
  ⟨fun _ => rfl, fun _ => rfl, fun _ => rfl, rfl, fun _ => rfl,
    ⟨rfl, rfl, rfl, rfl, rfl, rfl, rfl, rfl, rfl, rfl, rfl, rfl⟩, ⟨rfl, rfl, rfl, rfl, rfl, rfl⟩⟩

theorem debugCallEntry_spec (s : State) (code : BitVec 15) (t : State) (ht : t = s.debugCallEntry code) :
    t.debugCall = some code ∧ t.dbg.dbg.getLsbD 0 = true ∧
    (s.dbg.dbg.getLsbD 0 = false → t.dbg.dera = s.pc ∧ t.dbg.dbg.getLsbD 9 = true ∧
      ∀ i, i ≠ 0 → i ≠ 9 → t.dbg.dbg.getLsbD i = s.dbg.dbg.getLsbD i) ∧
    (s.dbg.dbg.getLsbD 0 = true → t.dbg.dera = s.dbg.dera) ∧ t.dbg.dsave = s.dbg.dsave ∧
    OnlyPc { s with dbg := t.dbg, debugCall := t.debugCall } t := by
  subst ht
  have hdbg := debugCallEntry_dbg s code
  by_cases hd : s.dbg.dbg.getLsbD 0 = true
  · rw [if_pos hd] at hdbg
    rw [hd]
    refine ⟨rfl, ?_, nofun, fun _ => by rw [hdbg], by rw [hdbg], debugCallEntry_frame s code⟩
    rw [hdbg, putBits_other _ _ (by omega), hd]
  · rw [if_neg hd] at hdbg
    refine ⟨rfl, ?_, fun _ => ⟨by rw [hdbg], ?_, fun i h0 h9 => ?_⟩, fun h => absurd h hd, by rw [hdbg],
      debugCallEntry_frame s code⟩
    · rw [hdbg, putBit_other _ _ (by decide), putBit_same _ _ (by decide)]
    · rw [hdbg, putBit_same _ _ (by decide)]
    · rw [hdbg, putBit_other _ _ h9, putBit_other _ _ h0]

/-! ## CACOP by query (R793) -/

theorem cacop_of_hit {op : BitVec 5} (h : op.toNat / 8 = 2) (s : State) (va : Word) :
    s.cacop op va = s.cacheQuery (s.vaddr va) :=
  if_pos (BitVec.eq_of_toNat_eq (by rw [cacopType_toNat, h]; rfl))

theorem cacheQuery_illegal {s : State} {va : Word} (h : s.addressError .load va = true) :
    s.cacheQuery va = s.raise (.adem va) := if_pos h

theorem cacheQuery_legal {s : State} {va : Word} (h : s.addressError .load va = false) :
    s.cacheQuery va = (s.translate .load va).run s fun _ => s.skip := by rw [State.cacheQuery, h]; rfl

theorem Check.run_ok {α : Type} {c : Check α} {a : α} (h : c = .ok a) (s : State) (k : α → Out) : c.run s k = k a := by
  rw [h]; rfl

theorem Check.run_trap {α : Type} {c : Check α} {x : Exc} (h : c = .trap x) (s : State) (k : α → Out) :
    c.run s k = s.raise x := by
  rw [h]; rfl

/-- Settles O48: IDLE by what wakes a core, DBCL by debug mode, CACOP by the checks of its address. -/
theorem idleDebugCallAndCacheQuery : Obligations.IdleDebugCallAndCacheQuery := by
  refine fun op rj si12 code => ⟨fun s hp => idle_spec hp code, fun s hs => ?dbcl, ?cacop⟩
  case dbcl =>
    refine ⟨_, if_neg ?_, debugCallEntry_spec s code _ rfl⟩
    rintro ⟨hpriv, hplv⟩
    exact hs.elim hplv fun h => absurd (hpriv.symm.trans h) (by decide)
  case cacop =>
    rintro s va hva hp hop
    have hexec : exec (.cacop op rj si12) s = s.cacheQuery va := by
      rw [hva]
      exact (privileged_of hp _).trans (cacop_of_hit hop s _)
    rw [hexec]
    refine ⟨fun hbad => ?_, fun hlegal => ⟨fun p htr => ?_, fun x htr => ?_, fun a htr => ?_⟩⟩
    · obtain ⟨hentry, hbadi, hbadv, hmmu, hwatch, hfcsr⟩ := takeExc_spec s false (.adem va) nofun
      refine ⟨_, cacheQuery_illegal hbad, hentry, ?_, hbadi rfl, hmmu, hwatch, hfcsr⟩
      rw [hbadv, hva]
      exact vaddr_vaddr s _
    · obtain ⟨t, ht, hnext, hframe⟩ := skip_spec s
      exact ⟨t, ((cacheQuery_legal hlegal).trans (Check.run_ok htr _ _)).trans ht, hnext, hframe⟩
    · exact (cacheQuery_legal hlegal).trans (Check.run_trap htr _ _)
    · obtain ⟨hentry, hbadi, hwatch⟩ := takeExc_tlbr_spec s false a
      exact ⟨_, (cacheQuery_legal hlegal).trans (Check.run_trap htr _ _), hentry, hbadi rfl, hwatch⟩

end Sys2Proof.Machine
end

section
/-!
The IOCSR space (R784-R792): the gates of an access, the bytes it reads and the bytes it leaves.
-/

namespace Sys2Proof.Machine

/-! ## Addresses at PLV0 -/

section
variable {s : State} (hp : s.plv = 0#2)
include hp

/-- 32-bit address mode is a mode of PLV1 to PLV3 (R33). -/
theorem vaddr_of_plv0 (a : Word) : s.vaddr a = s.cfg.wrap a := by
  rw [State.vaddr, State.va32, hp]
  simp

theorem alignChecked_iff : s.alignChecked = true ↔ s.cfg.ual = false ∨ s.csr.misc.getLsbD 12 = true := by
  rw [State.alignChecked, hp, Bool.or_eq_true, Bool.not_eq_true']
  rfl

end

theorem wrap_toNat (c : Config) (x : Word) : (c.wrap x).toNat = x.toNat % 2 ^ (if c.la64 then 64 else 32) := by
  rw [Config.wrap]
  split
  · exact (Nat.mod_eq_of_lt x.isLt).symm
  · simp only [zextLow32, BitVec.toNat_setWidth]
    omega

/-- Eight consecutive addresses differ, also where they pass the end of the space. -/
theorem iocsrAddrs_nodup (c : Config) (a : Word) {n : Nat} (hn : n ≤ 8) : (c.iocsrAddrs a n).Nodup := by
  refine List.Nodup.map_on (fun j hj k hk h => ?_) List.nodup_range
  rw [List.mem_range] at hj hk
  rw [wrap_toNat, wrap_toNat, BitVec.toNat_add, BitVec.toNat_add, BitVec.toNat_ofNat, BitVec.toNat_ofNat] at h
  split at h <;> omega

/-! ## What an access does -/

/-- Where an access of `n` bytes passes its gates (R784; the alignment rule is log 54). -/
def State.IocsrReady (rj : Reg) (n : Nat) (s : State) : Prop :=
  s.cfg.hasIocsr = true ∧ s.plv = 0#2 ∧
    (s.cfg.alclCoversAll = true → s.cfg.ual = false ∨ s.csr.misc.getLsbD 12 = true →
      (s.cfg.wrap (s.getGr rj)).toNat % n = 0)

/-- One byte is always aligned. -/
theorem iocsrReady_one {s : State} {rj : Reg} (hio : s.cfg.hasIocsr = true) (hp : s.plv = 0#2) :
    s.IocsrReady rj 1 := ⟨hio, hp, fun _ _ => Nat.mod_one _⟩

theorem iocsrGate_of {s : State} {rj : Reg} {n : Nat} (h : s.IocsrReady rj n) (k : Out) :
    s.iocsrGate (s.getGr rj) n k = k := by
  obtain ⟨hio, hp, halign⟩ := h
  rw [State.iocsrGate, need_of hio, privileged_of hp,
    alignGate_of fun hall hchecked => halign hall ((alignChecked_iff hp).1 hchecked)]

theorem iocsrLoad_spec {s : State} {n : Nat} {rj : Reg} (hn : n = 1 ∨ n = 2 ∨ n = 4 ∨ n = 8) (h : s.IocsrReady rj n)
    (rd : Reg) : s.iocsrLoad n rd rj =
      s.putGr rd (signedBytes n (littleEndian ((s.cfg.iocsrAddrs (s.getGr rj) n).map s.iocsrByte))) := by
  rw [State.iocsrLoad, iocsrGate_of h, State.iocsrRead, wordOfBytes_eq, sextFrom_eq hn]

theorem iocsrByte_undefined {s : State} {a : Nat} (h : iocsrDefined s.cfg a = false) : s.iocsrByte a = 0#8 :=
  if_neg (by simp [h])

theorem iocsrWrite_iocsrByte {s : State} (hok : sparseWf 0#8 s.iocsr = true) (x : Word) {n : Nat} (v : Word)
    (hn : n ≤ 8) {k : Nat} (hk : k < n) {a : Nat} (ha : a = (s.cfg.wrap (x + BitVec.ofNat 64 k)).toNat)
    (hdef : iocsrDefined s.cfg a = true) : (s.iocsrWrite x n v).iocsrByte a = v.extractLsb' (8 * k) 8 := by
  have hka : k < (s.cfg.iocsrAddrs x n).length := by simpa [Config.iocsrAddrs] using hk
  have hget : (s.cfg.iocsrAddrs x n)[k] = a := by simp [Config.iocsrAddrs, ha]
  have hat := putBytes_at (iocsrDefined s.cfg) _ (bytesOfWord n v) hok (iocsrAddrs_nodup s.cfg x hn) k hka
    (by rwa [bytesOfWord_length]) (by rw [hget, hdef])
  rw [hget, bytesOfWord_get] at hat
  rw [State.iocsrByte, State.iocsrWrite, if_pos hdef, hat]

theorem iocsrWrite_iocsrByte_other {s : State} (hok : sparseWf 0#8 s.iocsr = true) (x : Word) (n : Nat) (v : Word)
    {a : Nat} (ha : a ∉ s.cfg.iocsrAddrs x n ∨ iocsrDefined s.cfg a = false) :
    (s.iocsrWrite x n v).iocsrByte a = s.iocsrByte a := by
  by_cases hdef : iocsrDefined s.cfg a = true
  · have hother := putBytes_other (iocsrDefined s.cfg) (s.cfg.iocsrAddrs x n) (bytesOfWord n v) hok
      (ha.resolve_right (by simp [hdef]))
    rw [State.iocsrByte, State.iocsrWrite, if_pos hdef, hother, State.iocsrByte, if_pos hdef]
  · rw [Bool.not_eq_true] at hdef
    exact (iocsrByte_undefined (s := s.iocsrWrite x n v) hdef).trans (iocsrByte_undefined hdef).symm

/-- What a write of `n` bytes leaves. -/
theorem iocsrStore_spec {s : State} {n : Nat} {rj : Reg} (hn : n ≤ 8) (h : s.IocsrReady rj n)
    (hok : sparseWf 0#8 s.iocsr = true) (rd : Reg) : ∃ t, s.iocsrStore n rd rj = .next t ∧ AtNext s t ∧
      OnlyPc { s with iocsr := t.iocsr } t ∧
      (∀ k < n, ∀ a, a = (s.cfg.wrap (s.getGr rj + BitVec.ofNat 64 k)).toNat → iocsrDefined s.cfg a = true →
        t.iocsrByte a = (s.getGr rd).extractLsb' (8 * k) 8) ∧
      ∀ a, (a ∉ s.cfg.iocsrAddrs (s.getGr rj) n ∨ iocsrDefined s.cfg a = false) → t.iocsrByte a = s.iocsrByte a :=
  ⟨(s.iocsrWrite (s.getGr rj) n (s.getGr rd)).advance, iocsrGate_of h _, rfl,
    ⟨fun _ => rfl, fun _ => rfl, fun _ => rfl, rfl, fun _ => rfl,
      ⟨rfl, rfl, rfl, rfl, rfl, rfl, rfl, rfl, rfl, rfl, rfl, rfl⟩, ⟨rfl, rfl, rfl, rfl, rfl, rfl⟩⟩,
    fun _ hk _ ha hdef => iocsrWrite_iocsrByte hok _ _ hn hk ha hdef,
    fun _ ha => iocsrWrite_iocsrByte_other hok _ _ _ ha⟩

/-- Where the alignment rule applies and the address breaks it. -/
def State.IocsrMisaligned (rj : Reg) (n : Nat) (s : State) : Prop :=
  s.cfg.hasIocsr = true ∧ s.plv = 0#2 ∧ s.cfg.alclCoversAll = true ∧
    (s.cfg.ual = false ∨ s.csr.misc.getLsbD 12 = true) ∧ (s.cfg.wrap (s.getGr rj)).toNat % n ≠ 0

theorem iocsrGate_misaligned {s : State} {rj : Reg} {n : Nat} (h : s.IocsrMisaligned rj n) (k : Out) :
    s.iocsrGate (s.getGr rj) n k = s.raise (.ale (s.cfg.wrap (s.getGr rj))) := by
  obtain ⟨hio, hp, hall, hchecked, hmod⟩ := h
  rw [State.iocsrGate, need_of hio, privileged_of hp, alignGate_not hall ((alignChecked_iff hp).2 hchecked) hmod]

/-- ALE at PLV0, with BADV the address. -/
theorem trapsAle_of {i : Instr} {P : State → Prop} {va : State → Word} (hp : ∀ s, P s → s.plv = 0#2)
    (h : ∀ s, P s → exec i s = s.raise (.ale (s.cfg.wrap (va s)))) :
    Traps i P 0x9#6 0#9 (fun s => s.cfg.wrap (va s)) := by
  intro s hs
  obtain ⟨hentry, hbadi, hbadv, hmmu, hwatch, hfcsr⟩ := takeExc_spec s false (.ale (s.cfg.wrap (va s))) nofun
  refine ⟨_, h s hs, hentry, hbadi rfl, hbadv.trans ?_, hfcsr, hmmu, hwatch⟩
  exact (vaddr_of_plv0 (hp s hs) _).trans (wrap_idem s.cfg _)

/-- Settles O47: reads, writes and ALE, in the order of the sizes. -/
theorem iocsrAccess : Obligations.IocsrAccess := by
  intro rd rj
  refine ⟨?read1, ?read2, ?read4, ?read8, ?write1, ?write2, ?write4, ?write8, ?ale2, ?ale4, ?ale8, ?ale2w, ?ale4w, ?ale8w,
    fun s a => iocsrByte_undefined⟩
  case read1 => exact writesGr_of fun s ⟨hio, hp⟩ => iocsrLoad_spec (by decide) (iocsrReady_one hio hp) rd
  case read2 => exact writesGr_of fun s hs => iocsrLoad_spec (by decide) hs rd
  case read4 => exact writesGr_of fun s hs => iocsrLoad_spec (by decide) hs rd
  case read8 => exact writesGr_of fun s ⟨hla, hs⟩ => (la64Only_of hla _).trans (iocsrLoad_spec (by decide) hs rd)
  case write1 => exact fun s hio hp hok => iocsrStore_spec (by decide) (iocsrReady_one hio hp) hok rd
  case write2 => exact fun s hio hp hok halign => iocsrStore_spec (by decide) ⟨hio, hp, halign⟩ hok rd
  case write4 => exact fun s hio hp hok halign => iocsrStore_spec (by decide) ⟨hio, hp, halign⟩ hok rd
  case write8 =>
    intro s hla hio hp hok halign
    obtain ⟨t, ht, hspec⟩ := iocsrStore_spec (by decide) ⟨hio, hp, halign⟩ hok rd
    exact ⟨t, (la64Only_of hla _).trans ht, hspec⟩
  case ale2 => exact trapsAle_of (fun s ⟨_, hp, _⟩ => hp) fun s hs => iocsrGate_misaligned hs _
  case ale4 => exact trapsAle_of (fun s ⟨_, hp, _⟩ => hp) fun s hs => iocsrGate_misaligned hs _
  case ale8 =>
    exact trapsAle_of (fun s ⟨_, _, hp, _⟩ => hp) fun s ⟨hla, hs⟩ =>
      (la64Only_of hla _).trans (iocsrGate_misaligned hs _)
  case ale2w => exact trapsAle_of (fun s ⟨_, hp, _⟩ => hp) fun s hs => iocsrGate_misaligned hs _
  case ale4w => exact trapsAle_of (fun s ⟨_, hp, _⟩ => hp) fun s hs => iocsrGate_misaligned hs _
  case ale8w =>
    exact trapsAle_of (fun s ⟨_, _, hp, _⟩ => hp) fun s ⟨hla, hs⟩ =>
      (la64Only_of hla _).trans (iocsrGate_misaligned hs _)

end Sys2Proof.Machine
end

section
/-!
Instructions below PLV0 (R780): a next state is the entry of an exception, or the privileged state is as it was.
-/

namespace Sys2Proof.Machine

/-! ## What user mode may leave behind -/

/-- The privileged state is as it was; MWPS, LLbit and LLaddr are not part of it. -/
structure SamePrivileged (s t : State) : Prop where
  csr : t.csr = s.csr
  mmu : t.mmu = s.mmu
  timer : t.timer = s.timer
  ras : t.ras = s.ras
  pm : t.pm = s.pm
  dbg : t.dbg = s.dbg
  tlb : t.tlb = s.tlb
  iocsr : t.iocsr = s.iocsr
  idle : t.idle = s.idle
  cfg : t.cfg = s.cfg
  watch : { t.watch with mwps := s.watch.mwps } = s.watch

theorem SamePrivileged.refl (s : State) : SamePrivileged s s := ⟨rfl, rfl, rfl, rfl, rfl, rfl, rfl, rfl, rfl, rfl, rfl⟩

theorem SamePrivileged.trans {s t u : State} (h : SamePrivileged s t) (h' : SamePrivileged t u) : SamePrivileged s u where
  csr := h'.csr.trans h.csr
  mmu := h'.mmu.trans h.mmu
  timer := h'.timer.trans h.timer
  ras := h'.ras.trans h.ras
  pm := h'.pm.trans h.pm
  dbg := h'.dbg.trans h.dbg
  tlb := h'.tlb.trans h.tlb
  iocsr := h'.iocsr.trans h.iocsr
  idle := h'.idle.trans h.idle
  cfg := h'.cfg.trans h.cfg
  watch := (congrArg (fun w : WatchCsr => { w with mwps := s.watch.mwps }) h'.watch).trans h.watch

/-- The updates of user mode, each of which leaves the privileged state. -/
inductive UserUpdate : State → State → Prop
  | setPc (s : State) (x : Word) : UserUpdate s (s.setPc x)
  | setGr (s : State) (r : Reg) (x : Word) : UserUpdate s (s.setGr r x)
  | setFr (s : State) (r : Reg) (x : Word) : UserUpdate s (s.setFr r x)
  | setCf (s : State) (c : BitVec 3) (b : Bool) : UserUpdate s (s.setCf c b)
  | draw (s : State) : UserUpdate s s.draw.2
  | writeBytes (s : State) (as : List Nat) (v : Word) : UserUpdate s (s.writeBytes as v)
  | setCause (s : State) (e : FpExc) : UserUpdate s (s.setCause e)
  | addFlags (s : State) (e : FpExc) : UserUpdate s (s.addFlags e)
  | writeFcsr (s : State) (n : BitVec 5) (v : BitVec 32) : UserUpdate s (s.writeFcsr n v)
  | setLlbit (s : State) (b : Bool) : UserUpdate s { s with llbit := b }
  | setLladdr (s : State) (a : Nat) : UserUpdate s { s with lladdr := a }

theorem UserUpdate.samePrivileged {s t : State} (h : UserUpdate s t) : SamePrivileged s t := by
  cases h with
  | setGr r x => exact ⟨by simp, by simp, by simp, by simp, by simp, by simp, by simp, by simp, by simp, by simp, by simp⟩
  | _ => exact ⟨rfl, rfl, rfl, rfl, rfl, rfl, rfl, rfl, rfl, rfl, rfl⟩

/-- Nothing has changed but, at most, MWPS and FCSR0. -/
def BeforeTrap (s u : State) : Prop :=
  u = { s with watch := { s.watch with mwps := u.watch.mwps }, fcsr0 := u.fcsr0 }

theorem BeforeTrap.refl (s : State) : BeforeTrap s s := rfl

theorem BeforeTrap.trans {s t u : State} (h : BeforeTrap s t) (h' : BeforeTrap t u) : BeforeTrap s u := by
  rw [BeforeTrap] at h h' ⊢
  rw [h'] at ⊢
  rw [h]

theorem BeforeTrap.samePrivileged {s u : State} (h : BeforeTrap s u) : SamePrivileged s u := by
  rw [BeforeTrap] at h
  rw [h]
  exact ⟨rfl, rfl, rfl, rfl, rfl, rfl, rfl, rfl, rfl, rfl, rfl⟩

theorem beforeTrap_watchMem (s : State) (a : Access) : BeforeTrap s (s.watchMem a).1 := rfl

theorem beforeTrap_setCause (s : State) (e : FpExc) : BeforeTrap s (s.setCause e) := rfl

/-- An exception has been taken. -/
def TrappedFrom (s t : State) : Prop := t.plv = 0#2 ∧ ∃ (x : Exc) (u : State), t = u.takeExc false x ∧ BeforeTrap s u

/-- A next state is the entry of an exception or leaves the privileged state. -/
def Contained (s : State) (o : Out) : Prop := ∀ t, o = .next t → TrappedFrom s t ∨ SamePrivileged s t

/-- A next state leaves the privileged state. -/
def Quiet (s : State) (o : Out) : Prop := ∀ t, o = .next t → SamePrivileged s t

theorem Quiet.contained {s : State} {o : Out} (h : Quiet s o) : Contained s o := fun t ht => .inr (h t ht)

theorem Quiet.of_same {s u : State} {o : Out} (h : Quiet u o) (hu : SamePrivileged s u) : Quiet s o :=
  fun t ht => hu.trans (h t ht)

theorem Quiet.after {s u : State} {o : Out} (h : Quiet u o) (hu : UserUpdate s u) : Quiet s o :=
  h.of_same hu.samePrivileged

theorem Contained.before {s u : State} {o : Out} (h : Contained u o) (hu : BeforeTrap s u) : Contained s o := by
  intro t ht
  obtain ⟨hplv, x, v, hv, hbefore⟩ | hsame := h t ht
  · exact .inl ⟨hplv, x, v, hv, hu.trans hbefore⟩
  · exact .inr (hu.samePrivileged.trans hsame)

theorem SamePrivileged.quiet {s t : State} (h : SamePrivileged s t) : Quiet s (.next t) := fun u hu => by cases hu; exact h

theorem quiet_refused (s : State) (r : Refusal) : Quiet s (.refused r) := fun _ h => nomatch h

theorem quiet_fault (s : State) (f : Fault) : Quiet s (.fault f) := fun _ h => nomatch h

theorem Quiet.ite {s : State} {p : Prop} [Decidable p] {o o' : Out} (h : Quiet s o) (h' : Quiet s o') :
    Quiet s (if p then o else o') := by split <;> assumption

theorem Contained.ite {s : State} {p : Prop} [Decidable p] {o o' : Out} (h : Contained s o) (h' : Contained s o') :
    Contained s (if p then o else o') := by split <;> assumption

/-! ## Going on, and results -/

theorem quiet_skip (s : State) : Quiet s s.skip := (UserUpdate.setPc s _).samePrivileged.quiet

theorem SamePrivileged.quiet_advance {s t : State} (h : SamePrivileged s t) : Quiet s (.next t.advance) :=
  (quiet_skip t).of_same h

theorem samePrivileged_setFmt (s : State) (f : Fmt) (r : Reg) (x : Word) : SamePrivileged s (s.setFmt f r x) := by
  cases f with
  | s => exact (UserUpdate.draw s).samePrivileged.trans (UserUpdate.setFr _ r _).samePrivileged
  | d => exact (UserUpdate.setFr s r x).samePrivileged

theorem quiet_putGr (s : State) (rd : Reg) (x : Word) : Quiet s (s.putGr rd x) :=
  (UserUpdate.setGr s rd x).samePrivileged.quiet_advance

theorem quiet_putGrFree (s : State) (rd : Reg) : Quiet s (s.putGrFree rd) := (quiet_putGr _ rd _).after (.draw s)

theorem quiet_fpPut (s : State) (f : Fmt) (fd : Reg) (x : Word) : Quiet s (s.fpPut f fd x) :=
  (samePrivileged_setFmt s f fd x).quiet_advance

theorem quiet_putFr (s : State) (fd : Reg) (x : Word) : Quiet s (s.putFr fd x) := quiet_fpPut s .d fd x

theorem quiet_putFrS (s : State) (fd : Reg) (x : BitVec 32) : Quiet s (s.putFrS fd x) :=
  ((UserUpdate.draw s).samePrivileged.trans (UserUpdate.setFr _ fd _).samePrivileged).quiet_advance

theorem quiet_branch (s : State) (c : Bool) (x : Word) : Quiet s (s.branch c x) := by
  cases c with
  | false => exact quiet_skip s
  | true => exact (UserUpdate.setPc s _).samePrivileged.quiet

/-! ## Exceptions and gates -/

theorem takeExc_plv (s : State) (fetch : Bool) (x : Exc) : (s.takeExc fetch x).plv = 0#2 := by
  by_cases hx : ∃ va, x = .tlbr va
  · obtain ⟨va, rfl⟩ := hx
    have hlow := (takeExc_tlbr_spec s fetch va).1.crmdLow
    refine extractLsb'_eq_of_getLsbD fun i hi => ?_
    have hbit := congrArg (BitVec.getLsbD · i) hlow
    interval_cases i <;> simpa using hbit
  · exact (takeExc_spec s fetch x fun va h => hx ⟨va, h⟩).1.plv

theorem contained_raise (s : State) (x : Exc) : Contained s (s.raise x) := by
  intro t ht
  cases ht
  exact .inl ⟨takeExc_plv s false x, x, s, rfl, .refl s⟩

section
variable {s : State} {k : Out}

theorem Contained.need (h : Contained s k) (b : Bool) : Contained s (s.need b k) := h.ite (contained_raise s _)

theorem Contained.la64Only (h : Contained s k) : Contained s (s.la64Only k) := h.need _

theorem Contained.fpGate (h : Contained s k) (dp : Bool) : Contained s (s.fpGate dp k) :=
  (h.ite (contained_raise s _)).need _

/-- The gate of a privileged instruction does not open. -/
theorem contained_privileged (hplv : s.plv ≠ 0#2) (k : Out) : Contained s (s.privileged k) := by
  rw [privileged_not hplv]
  exact contained_raise s _

theorem contained_tlbGate (hplv : s.plv ≠ 0#2) (k : Out) : Contained s (s.tlbGate k) :=
  (contained_privileged hplv k).need _

theorem contained_iocsrGate (hplv : s.plv ≠ 0#2) (a : Word) (n : Nat) (k : Out) : Contained s (s.iocsrGate a n k) :=
  (contained_privileged hplv _).need _

end

theorem contained_run {α : Type} {s : State} {k : α → Out} (h : ∀ a, Contained s (k a)) (c : Check α) :
    Contained s (c.run s k) := by
  cases c with
  | ok a => exact h a
  | trap x => exact contained_raise s x
  | fault f => exact (quiet_fault s f).contained
  | refused r => exact (quiet_refused s r).contained

/-! ## Integer and floating-point forms -/

theorem contained_rdtime (s : State) (t : Word) (rd rj : Reg) : Contained s (s.rdtime t rd rj) :=
  ((contained_raise s _).ite ((UserUpdate.setGr s rd t).samePrivileged.trans
    (UserUpdate.setGr _ rj _).samePrivileged).quiet_advance.contained).need _

theorem contained_fpFinish (s : State) (e : FpExc) {write : State → State} (h : ∀ u, SamePrivileged u (write u)) :
    Contained s (s.fpFinish e write) :=
  Contained.ite (((UserUpdate.setCause s e).samePrivileged.trans (UserUpdate.addFlags _ e).samePrivileged).trans
    (h _)).quiet_advance.contained ((contained_raise _ _).before (beforeTrap_setCause s e))

theorem contained_fpDone (s : State) (f : Fmt) (fd : Reg) (r : FpRes) : Contained s (s.fpDone f fd r) :=
  contained_fpFinish s r.exc fun u => samePrivileged_setFmt u f fd r.bits

theorem samePrivileged_flagWord (s : State) (cj : BitVec 3) : SamePrivileged s (s.flagWord cj).2 := by
  unfold State.flagWord
  split
  · exact .refl s
  · exact (UserUpdate.draw s).samePrivileged

/-! ## Memory -/

theorem contained_withAddrs {k : State → List Nat → BitVec 2 → Out} (h : ∀ u as mat, Quiet u (k u as mat)) (s : State)
    (a : Access) : Contained s (s.withAddrs a k) :=
  Contained.before ((contained_raise _ _).ite (contained_run (fun _ => (h _ _ _).contained) _)) (beforeTrap_watchMem s a)

/-- The physical bytes raise nothing. -/
theorem quiet_physCheck {s : State} {k : Unit → Out} (h : Quiet s (k ())) (c : Config) (kind : AccessKind)
    (mat : BitVec 2) (as : List Nat) : Quiet s ((physCheck c kind mat as).run s k) := by
  obtain hok | ⟨r, hr⟩ := physCheck_cases c kind mat as
  · rw [hok]
    exact h
  · rw [hr]
    exact quiet_refused s r

theorem contained_withAccess {k : State → List Nat → BitVec 2 → Out} (h : ∀ u as mat, Quiet u (k u as mat)) (s : State)
    (a : Access) : Contained s (s.withAccess a k) :=
  contained_withAddrs (fun u as mat => quiet_physCheck (h u as mat) _ _ _ _) s a

theorem contained_loadS (s : State) (a : Access) (rd : Reg) : Contained s (s.loadS a rd) :=
  contained_withAccess (fun u _ _ => quiet_putGr u rd _) s a

theorem contained_loadU (s : State) (a : Access) (rd : Reg) : Contained s (s.loadU a rd) :=
  contained_withAccess (fun u _ _ => quiet_putGr u rd _) s a

theorem contained_loadFp (s : State) (f : Fmt) (a : Access) (fd : Reg) : Contained s (s.loadFp f a fd) :=
  contained_withAccess (fun u _ _ => quiet_fpPut u f fd _) s a

theorem contained_store (s : State) (a : Access) (v : Word) : Contained s (s.store a v) :=
  contained_withAccess (fun u as _ => (UserUpdate.writeBytes u as v).samePrivileged.quiet_advance) s a

theorem contained_amo {w : Nat} (s : State) (f : BitVec w → BitVec w → BitVec w) (rd rj rk : Reg) :
    Contained s (s.amo f rd rj rk) := by
  refine ((Contained.ite (contained_raise s _)
    (contained_withAccess (fun u as _ => Quiet.ite ?_ ?_) s _)).need _).la64Only
  · exact ((quiet_putGrFree _ rd).after (.writeBytes _ as _)).after (.draw u)
  · exact (quiet_putGr _ rd _).after (.writeBytes u as _)

theorem contained_loadLinked (s : State) (n : Nat) (rd rj : Reg) (i : BitVec 14) :
    Contained s (s.loadLinked n rd rj i) := by
  refine contained_withAccess (fun u as _ => Quiet.after (Quiet.ite ?_ ?_) (.setLladdr u (as.headD 0))) s _
  · exact (quiet_putGr _ rd _).after (.setLlbit _ true)
  · exact ((quiet_putGrFree _ rd).after (.setLlbit _ _)).after (.draw _)

theorem quiet_storeIf {k : State → Out} (h : ∀ u, Quiet u (k u)) (s : State) (c : Bool) (as : List Nat) (mat : BitVec 2)
    (v : Word) : Quiet s (s.storeIf c as mat v k) :=
  quiet_physCheck ((h _).after (.writeBytes s _ v)) _ _ _ _

theorem contained_storeConditional (s : State) (n : Nat) (rd rj : Reg) (i : BitVec 14) :
    Contained s (s.storeConditional n rd rj i) := by
  refine contained_withAddrs (fun u as mat => Quiet.ite ?_ ?_) s _
  · exact quiet_storeIf (fun v => (quiet_putGr _ rd _).after (.setLlbit v false)) u _ as mat _
  · exact (quiet_storeIf (fun v => (quiet_putGrFree _ rd).after (.setLlbit v _)) _ _ as mat _).after (.draw u)

/-! ## Every instruction -/

/-- The cases stand together by the shape of the instruction's meaning. -/
theorem contained_exec (i : Instr) {s : State} (hdbcl : s.cfg.dbclPrivileged = true) (hplv : s.plv ≠ 0#2) :
    Contained s (exec i s) := by
  cases i
  -- one general register from the registers, the pc and the immediate
  case addW | subW | addiW | alslW | mulW | mulhW | mulhWu | sllW | srlW | sraW | rotrW | slliW | srliW | sraiW
      | rotriW | bytepickW | revb2h | bitrev4b | bitrevW | cpucfg | lu12iW | slt | sltu | slti | sltui | pcaddi
      | pcaddu12i | pcalau12i | and | or | nor | xor | andn | orn | andi | ori | xori | extWB | extWH | cloW | clzW
      | ctoW | ctzW | maskeqz | masknez | divW | modW | divWu | modWu => exact (quiet_putGr s _ _).contained
  case addD | subD | addiD | addu16iD | alslWu | alslD | lu32iD | lu52iD | pcaddu18i | mulD | mulhD | mulhDu | mulwDW
      | mulwDWu | sllD | srlD | sraD | rotrD | slliD | srliD | sraiD | rotriD | cloD | clzD | ctoD | ctzD | bytepickD
      | revb4h | revb2w | revbD | revh2w | revhD | bitrev8b | bitrevD | divD | modD | divDu | modDu | crcWBW | crcWHW
      | crcWWW | crcWDW | crccWBW | crccWHW | crccWWW | crccWDW => exact (quiet_putGr s _ _).contained.la64Only
  case bstrinsW | bstrpickW => exact ((quiet_putGrFree s _).ite (quiet_putGr s _ _)).contained
  case bstrinsD | bstrpickD => exact ((quiet_putGrFree s _).ite (quiet_putGr s _ _)).contained.la64Only
  case rdtimelW | rdtimehW => exact contained_rdtime s _ _ _
  case rdtimeD => exact (contained_rdtime s _ _ _).la64Only
  -- branches
  case beq | bne | blt | bge | bltu | bgeu | beqz | bnez | b => exact (quiet_branch s _ _).contained
  case bl | jirl =>
    exact ((UserUpdate.setGr s _ _).samePrivileged.trans (UserUpdate.setPc _ _).samePrivileged).quiet.contained
  case bceqz | bcnez => exact (quiet_branch s _ _).contained.fpGate _
  -- loads, stores, atomic accesses
  case ldB | ldH | ldW => exact contained_loadS s _ _
  case ldD | ldxB | ldxH | ldxW | ldxD | ldptrW | ldptrD | ldgtB | ldgtH | ldgtW | ldgtD | ldleB | ldleH | ldleW
      | ldleD => exact (contained_loadS s _ _).la64Only
  case ldBu | ldHu => exact contained_loadU s _ _
  case ldWu | ldxBu | ldxHu | ldxWu => exact (contained_loadU s _ _).la64Only
  case stB | stH | stW => exact contained_store s _ _
  case stD | stxB | stxH | stxW | stxD | stptrW | stptrD | stgtB | stgtH | stgtW | stgtD | stleB | stleH | stleW
      | stleD => exact (contained_store s _ _).la64Only
  case amswapW | amswapDbW => exact contained_amo (w := 32) s (fun _ b => b) _ _ _
  case amswapD | amswapDbD => exact contained_amo (w := 64) s (fun _ b => b) _ _ _
  case amaddW | amandW | amorW | amxorW | ammaxW | amminW | ammaxWu | amminWu | amaddDbW
      | amandDbW | amorDbW | amxorDbW | ammaxDbW | amminDbW | ammaxDbWu | amminDbWu | amaddD | amandD | amorD
      | amxorD | ammaxD | amminD | ammaxDu | amminDu | amaddDbD | amandDbD | amorDbD | amxorDbD | ammaxDbD
      | amminDbD | ammaxDbDu | amminDbDu => exact contained_amo s _ _ _ _
  case llW => exact contained_loadLinked s _ _ _ _
  case llD => exact (contained_loadLinked s _ _ _ _).la64Only
  case scW => exact contained_storeConditional s _ _ _ _
  case scD => exact (contained_storeConditional s _ _ _ _).la64Only
  case preld | dbar | ibar => exact (quiet_skip s).contained
  case preldx => exact (quiet_skip s).contained.la64Only
  -- instructions that raise
  case syscall | brk => exact contained_raise s _
  case asrtleD => exact ((contained_raise s _).ite (quiet_skip s).contained).la64Only
  case asrtgtD => exact ((quiet_skip s).contained.ite (contained_raise s _)).la64Only
  -- floating-point arithmetic, comparison, conversion
  case faddS | faddD | fsubS | fsubD | fmulS | fmulD | fdivS | fdivD | fmaxS | fmaxD | fminS | fminD | fmaxaS | fmaxaD
      | fminaS | fminaD | fmaddS | fmaddD | fmsubS | fmsubD | fnmaddS | fnmaddD | fnmsubS | fnmsubD | fsqrtS | fsqrtD
      | frecipS | frecipD | frsqrtS | frsqrtD | fscalebS | fscalebD | flogbS | flogbD | frintS | frintD | fcvtSD
      | fcvtDS | ffintSW | ffintSL | ffintDW | ffintDL | ftintWS | ftintWD | ftintLS | ftintLD | ftintrmWS | ftintrmWD
      | ftintrmLS | ftintrmLD | ftintrpWS | ftintrpWD | ftintrpLS | ftintrpLD | ftintrzWS | ftintrzWD | ftintrzLS
      | ftintrzLD | ftintrneWS | ftintrneWD | ftintrneLS | ftintrneLD => exact (contained_fpDone s _ _ _).fpGate _
  case fabsS | fabsD | fnegS | fnegD | fcopysignS | fcopysignD | fclassS | fclassD =>
    exact (quiet_fpPut s _ _ _).contained.fpGate _
  case fcmpCondS | fcmpCondD =>
    exact ((contained_fpFinish s _ fun u => (UserUpdate.setCf u _ _).samePrivileged).fpGate _).need _
  -- floating-point moves
  case fmovS | movgr2frW => exact (quiet_putFrS s _ _).contained.fpGate _
  case fmovD | fsel | movgr2frhW => exact (quiet_putFr s _ _).contained.fpGate _
  case movgr2frD => exact ((quiet_putFr s _ _).contained.fpGate _).la64Only
  case movfr2grS | movfrh2grS => exact (quiet_putGr s _ _).contained.fpGate _
  case movfr2grD => exact ((quiet_putGr s _ _).contained.fpGate _).la64Only
  case movgr2fcsr =>
    exact (Quiet.ite (UserUpdate.writeFcsr s _ _).samePrivileged.quiet_advance
      ((UserUpdate.draw s).samePrivileged.trans
        (UserUpdate.writeFcsr _ _ _).samePrivileged).quiet_advance).contained.fpGate _
  case movfcsr2gr => exact ((quiet_putGr s _ _).ite (quiet_putGrFree s _)).contained.fpGate _
  case movfr2cf | movgr2cf => exact (UserUpdate.setCf s _ _).samePrivileged.quiet_advance.contained.fpGate _
  case movcf2fr => exact ((quiet_putFr _ _ _).of_same (samePrivileged_flagWord s _)).contained.fpGate _
  case movcf2gr => exact ((quiet_putGr _ _ _).of_same (samePrivileged_flagWord s _)).contained.fpGate _
  -- floating-point loads and stores
  case fldS | fldD => exact (contained_loadFp s _ _ _).fpGate _
  case fstS | fstD => exact (contained_store s _ _).fpGate _
  case fldxS | fldxD | fldgtS | fldgtD | fldleS | fldleD => exact ((contained_loadFp s _ _ _).fpGate _).la64Only
  case fstxS | fstxD | fstgtS | fstgtD | fstleS | fstleD => exact ((contained_store s _ _).fpGate _).la64Only
  -- privileged instructions
  case csrrd => exact (quiet_putGr s _ _).contained.ite (contained_raise s _)
  case csrwr | csrxchg | cacop | ertn | idle => exact contained_privileged hplv _
  case iocsrrdB | iocsrrdH | iocsrrdW | iocsrwrB | iocsrwrH | iocsrwrW => exact contained_iocsrGate hplv _ _ _
  case iocsrrdD | iocsrwrD => exact (contained_iocsrGate hplv _ _ _).la64Only
  case tlbsrch | tlbrd | tlbwr | tlbfill | tlbclr | tlbflush | invtlb => exact contained_tlbGate hplv _
  case dbcl => rw [show exec (.dbcl _) s = _ from if_pos ⟨hdbcl, hplv⟩]; exact contained_raise s _
  case lddir | ldpte => exact (contained_privileged hplv _).need _

/-- Settles O60: what every instruction below PLV0 leaves, read off `contained_exec`. -/
theorem userModeKeepsPrivilegedState : Obligations.UserModeKeepsPrivilegedState := by
  intro i s t hdbcl hplv ht
  obtain htrap | h := contained_exec i hdbcl hplv t ht
  · exact .inl htrap
  · exact .inr ⟨h.csr, h.mmu, h.timer, h.ras, h.pm, h.dbg, h.tlb, h.iocsr, h.idle, h.cfg, h.watch⟩

end Sys2Proof.Machine
end

section
/-!
SUPPORT. The masks and the fields of the control registers, bit by bit.
-/

namespace Sys2Proof.Machine

/-! ## Words -/

theorem low32_getLsbD (x : Word) (j : Nat) : (low32 x).getLsbD j = (decide (j < 32) && x.getLsbD j) :=
  BitVec.getLsbD_setWidth ..

theorem zextLow32_getLsbD (x : Word) (j : Nat) : (zextLow32 x).getLsbD j = (decide (j < 32) && x.getLsbD j) := by
  rw [zextLow32, BitVec.getLsbD_setWidth, BitVec.getLsbD_setWidth]
  by_cases hj : j < 32
  · simp [hj, show j < 64 by omega]
  · simp [hj]

/-- A register of 32 bits as it is read. -/
theorem sext32_getLsbD (x : BitVec 32) {j : Nat} (hj : j < 64) : (sext32 x).getLsbD j = x.getLsbD (min j 31) := by
  rw [sext32, BitVec.getLsbD_signExtend, decide_eq_true hj, Bool.true_and]
  split_ifs with h
  · rw [Nat.min_eq_left (by omega)]
  · rw [BitVec.msb_eq_getLsbD_last, Nat.min_eq_right (by omega)]

/-- The low bits set. -/
theorem lowMask_getLsbD_eq (n j : Nat) : (lowMask n).getLsbD j = (decide (j < 64) && decide (j < n)) := by
  by_cases hj : j < 64
  · rw [lowMask_getLsbD _ _ hj, decide_eq_true hj, Bool.true_and]
  · rw [BitVec.getLsbD_of_ge _ _ (by omega), decide_eq_false hj, Bool.false_and]

/-- The low bits cleared. -/
theorem getLsbD_and_not_lowMask (x : Word) (n j : Nat) : (x &&& ~~~lowMask n).getLsbD j = (decide (n ≤ j) && x.getLsbD j) := by
  rw [BitVec.getLsbD_and, BitVec.getLsbD_not, lowMask_getLsbD_eq]
  by_cases hj : j < 64
  · by_cases hn : n ≤ j
    · simp [hj, hn, not_lt.2 hn]
    · simp [hj, hn, not_le.1 hn]
  · simp [BitVec.getLsbD_of_ge x j (by omega)]

/-- The low 12 and 13 bits cleared, as the model writes it. -/
theorem getLsbD_and_not_page (x : Word) (j : Nat) : (x &&& ~~~0xFFF#64).getLsbD j = (decide (12 ≤ j) && x.getLsbD j) :=
  getLsbD_and_not_lowMask x 12 j

theorem getLsbD_and_not_pagePair (x : Word) (j : Nat) :
    (x &&& ~~~0x1FFF#64).getLsbD j = (decide (13 ≤ j) && x.getLsbD j) :=
  getLsbD_and_not_lowMask x 13 j

/-! ## Masks -/

theorem grMask_getLsbD (c : Config) (j : Nat) : (grMask c).getLsbD j = grField c j := by
  rw [grMask, grField]
  split
  · exact BitVec.getLsbD_allOnes ..
  · rw [show 0xFFFFFFFF#64 = lowMask 32 from rfl, lowMask_getLsbD_eq]
    by_cases hj : j < 32
    · simp [hj, show j < 64 by omega]
    · simp [hj]

theorem ppnMask_getLsbD (c : Config) {j : Nat} (hj : j < 64) :
    (ppnMask c).getLsbD j = (decide (12 ≤ j) && decide (j < if c.la64 then c.palen else 32)) := by
  rw [ppnMask, getLsbD_and_not_page, lowMask_getLsbD _ _ hj]

theorem eloPpnMask_getLsbD (c : Config) {j : Nat} (hj : j < 64) : (eloPpnMask c).getLsbD j = ppnField c j := by
  rw [eloPpnMask, ppnField]
  split
  case isTrue h => rw [ppnMask_getLsbD c hj, if_pos h]
  case isFalse h =>
    rw [getLsbD_and_not_lowMask, show 0xFFFFFFFF#64 = lowMask 32 from rfl, lowMask_getLsbD _ _ hj]

/-- NR, NX and RPLV stand in the top three bits of TLBELO. -/
theorem topThree_getLsbD (a b c : Bool) (j : Nat) : (BitVec.ofBool a ++ BitVec.ofBool b ++ BitVec.ofBool c ++ 0#61).getLsbD j =
    (j == 61 && c || j == 62 && b || j == 63 && a) := by
  simp only [BitVec.getLsbD_append, BitVec.getLsbD_ofBool, BitVec.getLsbD_zero]
  by_cases hlow : j < 61
  · simp [hlow, show j ≠ 61 by omega, show j ≠ 62 by omega, show j ≠ 63 by omega]
  · obtain ⟨k, rfl⟩ := Nat.exists_eq_add_of_le (not_lt.1 hlow)
    rcases k with _ | _ | _ | k
    · simp
    · simp
    · simp
    · simp [show ¬61 + (k + 1 + 1 + 1) = 62 by omega, show ¬61 + (k + 1 + 1 + 1) = 63 by omega]

/-- V, D, PLV, MAT and G. -/
theorem lowSeven_getLsbD {j : Nat} (hj : j < 64) : (0x7F#64).getLsbD j = decide (j < 7) := lowMask_getLsbD 7 j hj

theorem eloMask_getLsbD (c : Config) {j : Nat} (hj : j < 64) : (eloMask c).getLsbD j = eloField c j := by
  have hppn := eloPpnMask_getLsbD c hj
  rw [eloPpnMask] at hppn
  rw [eloMask, eloField]
  by_cases hla : c.la64 = true
  · rw [if_pos hla] at hppn
    rw [if_pos hla, BitVec.getLsbD_or, BitVec.getLsbD_or, lowSeven_getLsbD hj, topThree_getLsbD, hppn, hla, Bool.true_and]
  · rw [if_neg hla] at hppn
    rw [if_neg hla, BitVec.getLsbD_or, lowSeven_getLsbD hj, hppn, Bool.not_eq_true _ |>.mp hla, Bool.false_and,
      Bool.or_false]

/-! ## VPPN -/

/-- VPPN as TLBEHI and TLBREHI show it: sign-extended from VALEN in LA64. -/
theorem vppnField_getLsbD {c : Config} (hv : 14 ≤ c.valen) (hv' : c.valen ≤ 64) (va : Word) {j : Nat} (hj : j < 64) :
    (c.vppnField va).getLsbD j = (decide (13 ≤ j) &&
      (if c.la64 then va.getLsbD (min j (c.valen - 1)) else decide (j < 32) && va.getLsbD j)) := by
  rw [Config.vppnField, getLsbD_and_not_pagePair]
  congr 1
  split
  · rw [sextFrom_getLsbD (by omega) hv' va hj]
    congr 1
    split <;> omega
  · exact zextLow32_getLsbD va j

end Sys2Proof.Machine
end

section
/-!
TLBSRCH, TLBRD, TLBWR and TLBFILL (R796-R799): the index and the entry that the CSRs name, the image of an entry in the
CSRs, and what each instruction leaves.
-/

namespace Sys2Proof.Machine

/-! ## TLBIDX -/

section
variable {s : State} (hn : s.cfg.tlbidxN ≤ 16)
include hn

theorem indexMask_getLsbD (j : Nat) : (low32 (lowMask s.cfg.tlbidxN)).getLsbD j = decide (j < s.cfg.tlbidxN) := by
  rw [low32_getLsbD, lowMask_getLsbD_eq]
  by_cases hj : j < s.cfg.tlbidxN
  · simp [hj, show j < 32 by omega, show j < 64 by omega]
  · simp [hj]

theorem tlbIndex_eq : s.tlbIndex = s.mmu.tlbidx.toNat % 2 ^ s.cfg.tlbidxN :=
  Nat.eq_of_testBit_eq fun j => by
    rw [State.tlbIndex, BitVec.testBit_toNat, BitVec.getLsbD_and, indexMask_getLsbD hn, Nat.testBit_mod_two_pow,
      BitVec.testBit_toNat]

theorem setTlbIndex_getLsbD (i j : Nat) : (s.setTlbIndex i).mmu.tlbidx.getLsbD j =
    if j < s.cfg.tlbidxN then i.testBit j else s.mmu.tlbidx.getLsbD j := by
  simp only [State.setTlbIndex, mix_getLsbD, indexMask_getLsbD hn, decide_eq_true_eq, BitVec.getLsbD_ofNat]
  split
  · rw [decide_eq_true (by omega), Bool.true_and]
  · rfl

/-- Index `i` and NE clear. -/
theorem foundTlbidx_spec {i : Nat} (hi : i < 2 ^ s.cfg.tlbidxN) {x : BitVec 32}
    (hx : x = putBit (s.setTlbIndex i).mmu.tlbidx 31 false) : x.getLsbD 31 = false ∧
    x.toNat % 2 ^ s.cfg.tlbidxN = i ∧ ∀ j, s.cfg.tlbidxN ≤ j → j < 31 → x.getLsbD j = s.mmu.tlbidx.getLsbD j := by
  subst hx
  refine ⟨putBit_same _ _ (by decide), Nat.eq_of_testBit_eq fun j => ?_, fun j hj hj' => ?_⟩
  · rw [Nat.testBit_mod_two_pow, BitVec.testBit_toNat]
    by_cases hj : j < s.cfg.tlbidxN
    · rw [putBit_other _ _ (by omega), setTlbIndex_getLsbD hn, if_pos hj, decide_eq_true hj, Bool.true_and]
    · rw [decide_eq_false hj, Bool.false_and, Nat.testBit_lt_two_pow (hi.trans_le (Nat.pow_le_pow_right (by omega) (not_lt.1 hj)))]
  · rw [putBit_other _ _ (by omega), setTlbIndex_getLsbD hn, if_neg (by omega)]

end

/-! ## The image of an entry (R132, R797) -/

/-- The fields of TLBELO below PPN. -/
def eloLow (g : Bool) (p : TlbPage) : BitVec 7 :=
  BitVec.ofBool g ++ p.mat ++ p.plv ++ BitVec.ofBool p.d ++ BitVec.ofBool p.v

theorem ppnLsb_le_of_ppnField {c : Config} {j : Nat} (h : ppnField c j = true) : ppnLsb c ≤ j := by
  rw [ppnField] at h
  rw [ppnLsb]
  split at h <;> simp_all

theorem ppnField_low {c : Config} (hlsb : c.la64 = false → 7 ≤ c.la32PpnLsb) {j : Nat} (hj : j < 7) :
    ppnField c j = false := by
  rw [ppnField]
  split
  · simp; omega
  · have := hlsb (Bool.eq_false_iff.2 ‹_›)
    simp; omega

theorem ppnField_high {c : Config} (hpalen : c.la64 = true → c.palen ≤ 60) {j : Nat} (hj : 60 ≤ j) :
    ppnField c j = false := by
  rw [ppnField]
  split
  · have := hpalen ‹_›
    simp; omega
  · simp; omega

theorem eloOfPage_getLsbD (c : Config) (g : Bool) (p : TlbPage) {j : Nat} (hj : j < 64) : (eloOfPage c g p).getLsbD j =
    (c.la64 && (j == 61 && p.nr || j == 62 && p.nx || j == 63 && p.rplv) ||
      ppnField c j && p.ppn.getLsbD (j - ppnLsb c) || (eloLow g p).getLsbD j) := by
  have hppn : ((p.ppn <<< ppnLsb c) &&& eloPpnMask c).getLsbD j = (ppnField c j && p.ppn.getLsbD (j - ppnLsb c)) := by
    rw [BitVec.getLsbD_and, BitVec.getLsbD_shiftLeft, eloPpnMask_getLsbD c hj]
    by_cases h : ppnField c j = true
    · simp [h, hj, ppnLsb_le_of_ppnField h]
    · simp [h]
  have hlow : ((eloLow g p).setWidth 64).getLsbD j = (eloLow g p).getLsbD j := by
    rw [BitVec.getLsbD_setWidth, decide_eq_true hj, Bool.true_and]
  rw [eloOfPage, BitVec.getLsbD_or, BitVec.getLsbD_or, hppn, BitVec.getLsbD_and, topThree_getLsbD]
  rw [eloLow] at hlow ⊢
  rw [hlow]
  congr 2
  split
  · rw [BitVec.getLsbD_allOnes, decide_eq_true hj, Bool.and_true, ‹c.la64 = true›, Bool.true_and]
  · simp [Bool.eq_false_iff.2 ‹_›]

section
variable {c : Config} (hpalen : c.la64 = true → c.palen ≤ 60) (hlsb : c.la64 = false → 7 ≤ c.la32PpnLsb)
  (g : Bool) (p : TlbPage)

include hlsb in
theorem eloOfPage_low {j : Nat} (hj : j < 7) : (eloOfPage c g p).getLsbD j = (eloLow g p).getLsbD j := by
  rw [eloOfPage_getLsbD c g p (by omega), ppnField_low hlsb hj]
  simp [show j ≠ 61 by omega, show j ≠ 62 by omega, show j ≠ 63 by omega]

theorem eloOfPage_field {j : Nat} (h7 : 7 ≤ j) (h60 : j < 60) :
    (eloOfPage c g p).getLsbD j = (ppnField c j && p.ppn.getLsbD (j - ppnLsb c)) := by
  rw [eloOfPage_getLsbD c g p (by omega), BitVec.getLsbD_of_ge (eloLow g p) j h7]
  simp [show j ≠ 61 by omega, show j ≠ 62 by omega, show j ≠ 63 by omega]

include hpalen in
theorem eloOfPage_top {j : Nat} (h60 : 60 ≤ j) (h64 : j < 64) : (eloOfPage c g p).getLsbD j =
    (c.la64 && (j == 61 && p.nr || j == 62 && p.nx || j == 63 && p.rplv)) := by
  rw [eloOfPage_getLsbD c g p h64, ppnField_high hpalen h60, BitVec.getLsbD_of_ge (eloLow g p) j (by omega)]
  simp

include hpalen hlsb in
/-- What TLBRD writes is the TLBELO image of the page. -/
theorem eloIs_eloOfPage : EloIs c g p (eloOfPage c g p) := by
  have low {j : Nat} (hj : j < 7) := eloOfPage_low hlsb g p hj
  refine ⟨?_, ?_, extractLsb'_eq_of_getLsbD fun i hi => ?_, extractLsb'_eq_of_getLsbD fun i hi => ?_, ?_,
    fun j hj => ?ppn, fun hla => ?attributes, fun j h7 hj hla => ?rest⟩
  case ppn =>
    have h7 : 7 ≤ j := not_lt.1 fun h => absurd (ppnField_low hlsb h) (by simp [hj])
    have h60 : j < 60 := not_le.1 fun h => absurd (ppnField_high hpalen h) (by simp [hj])
    rw [eloOfPage_field g p h7 h60, hj, Bool.true_and, ppnLsb]
  case attributes =>
    refine ⟨?_, ?_, ?_⟩ <;> rw [eloOfPage_top hpalen g p (by omega) (by omega), hla] <;> simp
  case rest =>
    by_cases h60 : j < 60
    · rw [eloOfPage_field g p h7 h60, hj, Bool.false_and]
    · by_cases h64 : j < 64
      · rw [eloOfPage_top hpalen g p (not_lt.1 h60) h64]
        by_cases hla' : c.la64 = true
        · obtain rfl : j = 60 := by have := hla hla'; omega
          simp
        · simp [hla']
      · exact BitVec.getLsbD_of_ge _ _ (by omega)
  · rw [low (by omega), eloLow]; simp only [BitVec.getLsbD_append]; simp
  · rw [low (by omega), eloLow]; simp only [BitVec.getLsbD_append]; simp
  · rw [low (by omega), eloLow]; simp only [BitVec.getLsbD_append]; interval_cases i <;> simp
  · rw [low (by omega), eloLow]; simp only [BitVec.getLsbD_append]; interval_cases i <;> simp
  · rw [low (by omega), eloLow]; simp only [BitVec.getLsbD_append]; simp

end

/-! ## The entry the CSRs describe (R798) -/

theorem pageIs_pageOfElo (c : Config) (x : Word) : PageIs c x (pageOfElo c x) where
  v := rfl
  d := rfl
  plv := rfl
  mat := rfl
  ppn j := by
    rw [show (if c.la64 then 12 else c.la32PpnLsb) = ppnLsb c from rfl, pageOfElo, BitVec.getLsbD_and,
      BitVec.getLsbD_ushiftRight, BitVec.getLsbD_and, lowMask_getLsbD_eq, Nat.add_comm]
    by_cases hj : j + ppnLsb c < 64
    · rw [eloPpnMask_getLsbD c hj, decide_eq_true (show j < 64 by omega), Bool.true_and]
      cases x.getLsbD (j + ppnLsb c) <;> cases ppnField c (j + ppnLsb c) <;> simp
    · simp [BitVec.getLsbD_of_ge x (j + ppnLsb c) (by omega)]
  nr := rfl
  nx := rfl
  rplv := rfl

theorem vppnOfEhi_getLsbD (c : Config) (x : Word) (j : Nat) :
    (vppnOfEhi c x).getLsbD j = (decide (j + 13 < c.valen) && x.getLsbD (j + 13)) := by
  rw [vppnOfEhi, BitVec.getLsbD_ofNat, Nat.testBit_div_two_pow, Nat.testBit_mod_two_pow, BitVec.testBit_toNat]
  by_cases hj : j < 64
  · simp [hj]
  · simp [hj, BitVec.getLsbD_of_ge x (j + 13) (by omega)]

theorem describesEntry_tlbNew (s : State) : s.DescribesEntry s.tlbNew := by
  rw [State.DescribesEntry, State.tlbNew, State.newPs, State.tlbKey, State.isTlbr]
  by_cases h : s.mmu.tlbrera.getLsbD 0 = true
  · simp only [h, if_true, Bool.true_or]
    exact ⟨rfl, rfl, rfl, rfl, vppnOfEhi_getLsbD _ _, pageIs_pageOfElo _ _, pageIs_pageOfElo _ _⟩
  · rw [if_neg h]
    simp only [h, Bool.false_or]
    exact ⟨rfl, rfl, rfl, rfl, vppnOfEhi_getLsbD _ _, pageIs_pageOfElo _ _, pageIs_pageOfElo _ _⟩

/-! ## The STLB (R292, R798) -/

theorem newPs_eq_iff (s : State) : s.newPs.toNat = s.stlbPs ↔ s.newPs = s.mmu.stlbps.extractLsb' 0 6 :=
  BitVec.toNat_inj

theorem stlbConflict_iff (s : State) (i : Nat) : s.stlbConflict i = true ↔
    s.newPs ≠ s.mmu.stlbps.extractLsb' 0 6 ∨ i % 2 ^ s.cfg.stlbSets ≠ s.stlbSet s.tlbKeyVa := by
  rw [State.stlbConflict, Bool.or_eq_true, bne_iff_ne, bne_iff_ne, Ne, newPs_eq_iff, State.stlbPs, stlbIdx_eq]

theorem stlbSizeBad_iff (s : State) : s.stlbSizeBad = true ↔
    ¬((s.mmu.tlbrera.getLsbD 0 = false ∧ s.mmu.tlbidx.getLsbD 31 = true) ∨
      s.cfg.psavl.getLsbD (s.mmu.stlbps.extractLsb' 0 6).toNat = true) := by
  rw [State.stlbSizeBad, psSupported, State.stlbPs, State.tlbNew, State.isTlbr]
  cases s.mmu.tlbrera.getLsbD 0 <;> cases s.mmu.tlbidx.getLsbD 31 <;> simp

theorem fillsStlb_iff (s : State) :
    s.fillsStlb = true ↔ s.cfg.tlbType = 2 ∧ s.newPs = s.mmu.stlbps.extractLsb' 0 6 := by
  rw [State.fillsStlb, Bool.and_eq_true, beq_iff_eq, beq_iff_eq, newPs_eq_iff]

theorem stlbSet_lt (s : State) (va : Word) : s.stlbSet va < 2 ^ s.cfg.stlbSets := Nat.mod_lt _ (by positivity)

/-- Where TLBFILL may write. -/
theorem fillIndex_spec (s : State) (c : Word) : s.fillIndex c s.fillsStlb < tlbEntries s.cfg ∧
    if s.cfg.tlbType = 2 ∧ s.newPs = s.mmu.stlbps.extractLsb' 0 6 then
      s.fillIndex c s.fillsStlb < stlbEntries s.cfg ∧
        s.fillIndex c s.fillsStlb % 2 ^ s.cfg.stlbSets = s.stlbSet s.tlbKeyVa
    else stlbEntries s.cfg ≤ s.fillIndex c s.fillsStlb := by
  by_cases h : s.fillsStlb = true
  · have hset := stlbSet_lt s s.tlbKeyVa
    have hidx : s.fillIndex c s.fillsStlb =
        c.toNat % (s.cfg.stlbWaysMinus1 + 1) * 2 ^ s.cfg.stlbSets + s.stlbSet s.tlbKeyVa := by
      rw [State.fillIndex, if_pos h, State.stlbPs, stlbIdx_eq]
    have hlt : s.fillIndex c s.fillsStlb < stlbEntries s.cfg := by
      rw [hidx, stlbEntries, if_pos ((fillsStlb_iff s).1 h).1]
      calc c.toNat % (s.cfg.stlbWaysMinus1 + 1) * 2 ^ s.cfg.stlbSets + s.stlbSet s.tlbKeyVa
          < (c.toNat % (s.cfg.stlbWaysMinus1 + 1) + 1) * 2 ^ s.cfg.stlbSets := by rw [Nat.add_mul, Nat.one_mul]; omega
        _ ≤ (s.cfg.stlbWaysMinus1 + 1) * 2 ^ s.cfg.stlbSets := Nat.mul_le_mul_right _ (Nat.mod_lt _ (by omega))
    rw [if_pos ((fillsStlb_iff s).1 h)]
    refine ⟨hlt.trans_le (Nat.le_add_right ..), hlt, ?_⟩
    rw [hidx, Nat.mul_add_mod_of_lt hset]
  · have hlt := Nat.mod_lt c.toNat (show 0 < s.cfg.mtlbEntriesMinus1 + 1 by omega)
    have hidx : s.fillIndex c s.fillsStlb = stlbEntries s.cfg + c.toNat % (s.cfg.mtlbEntriesMinus1 + 1) := if_neg h
    rw [if_neg (mt (fillsStlb_iff s).2 h), hidx, tlbEntries]
    omega

end Sys2Proof.Machine
end
section
/-!
TLBSRCH, TLBRD, TLBWR and TLBFILL (R796-R799), each by what the CSRs name.
-/

namespace Sys2Proof.Machine

/-- Going on changes the pc alone. -/
theorem onlyPc_advance (s : State) : OnlyPc s s.advance := (setPc_spec s _).2

/-! ## TLBSRCH -/

section
variable {s : State} (hok : s.TlbOk) (husable : s.StlbUsable)
include hok husable

theorem tlbSearch_none (hnone : ∀ i, ¬s.EntryMatches s.tlbKeyVa i) : ∃ t, s.tlbSearch = .next t ∧ AtNext s t ∧
    OnlyPc { s with mmu := { s.mmu with tlbidx := t.mmu.tlbidx } } t ∧
    t.mmu.tlbidx.getLsbD 31 = true ∧ ∀ j < 31, t.mmu.tlbidx.getLsbD j = s.mmu.tlbidx.getLsbD j := by
  refine ⟨(s.setNe true).advance, ?_, rfl, onlyPc_advance (s.setNe true), putBit_same _ _ (by decide),
    fun j hj => putBit_other _ _ (by omega)⟩
  rw [State.tlbSearch, tlbLookup_none hok husable hnone]
  rfl

theorem tlbSearch_one (hn : s.cfg.tlbidxN ≤ 16) {i : Nat} (hmatch : s.EntryMatches s.tlbKeyVa i)
    (hone : ∀ j, s.EntryMatches s.tlbKeyVa j → j = i) (hi : i < 2 ^ s.cfg.tlbidxN) :
    ∃ t, s.tlbSearch = .next t ∧ AtNext s t ∧ OnlyPc { s with mmu := { s.mmu with tlbidx := t.mmu.tlbidx } } t ∧
      t.mmu.tlbidx.getLsbD 31 = false ∧ t.mmu.tlbidx.toNat % 2 ^ s.cfg.tlbidxN = i ∧
      ∀ j, s.cfg.tlbidxN ≤ j → j < 31 → t.mmu.tlbidx.getLsbD j = s.mmu.tlbidx.getLsbD j := by
  refine ⟨((s.setTlbIndex i).setNe false).advance, ?_, rfl, onlyPc_advance ((s.setTlbIndex i).setNe false),
    foundTlbidx_spec hn hi rfl⟩
  rw [State.tlbSearch, tlbLookup_one hok husable hmatch hone]
  rfl

theorem tlbSearch_two {i j : Nat} (hne : i ≠ j) (hi : s.EntryMatches s.tlbKeyVa i) (hj : s.EntryMatches s.tlbKeyVa j) :
    s.tlbSearch = .fault .multipleTlbHit := by
  rw [State.tlbSearch, tlbLookup_two hok husable hne hi hj]
  rfl

end

theorem tlbSearch_unusable {s : State} (hok : s.TlbOk) (hbad : ¬s.StlbUsable) :
    s.tlbSearch = .refused .pageSizeUnsupported := by
  rw [State.tlbSearch, tlbLookup_unusable hok hbad]
  rfl

/-! ## TLBRD -/

theorem tlbRead_of_lt {s : State} (h : s.tlbIndex < tlbEntries s.cfg) : s.tlbRead =
    (if (s.tlbAt s.tlbIndex).e then s.readValid s.tlbIndex (s.tlbAt s.tlbIndex) else s.readInvalid).skip :=
  if_neg (not_le.2 h)

/-- The page size an entry is used with, as TLBIDX.PS shows it. -/
theorem entryPs_field (s : State) (i : Nat) (e : TlbEntry) : BitVec.ofNat 6 (s.entryPs i e) =
    if i < stlbEntries s.cfg then s.mmu.stlbps.extractLsb' 0 6 else e.ps := by
  rw [State.entryPs, State.stlbPs]
  split <;> rw [BitVec.ofNat_toNat, BitVec.setWidth_eq]

/-- PS and NE written: the rest of TLBIDX stays. -/
theorem readTlbidx_spec (x : BitVec 32) (ps : BitVec 6) (ne : Bool) {y : BitVec 32}
    (hy : y = putBit (putBits x 24 6 ps) 31 ne) : (∀ j, j < 24 ∨ j = 30 → y.getLsbD j = x.getLsbD j) ∧
    y.getLsbD 31 = ne ∧ y.extractLsb' 24 6 = ps := by
  subst hy
  refine ⟨fun j hj => ?_, putBit_same _ _ (by decide), ?_⟩
  · rw [putBit_other _ _ (by omega), putBits_other _ _ (by omega)]
  · rw [putBit, extractLsb'_putBits_other _ _ (by omega), extractLsb'_putBits_same _ _ (by decide)]

theorem vppnField_shift_getLsbD {c : Config} (hv : 14 ≤ c.valen) (hv' : c.valen ≤ 64) (vppn : Word) {j : Nat}
    (hj : j < 64) : (c.vppnField (vppn <<< 13)).getLsbD j = (decide (13 ≤ j) &&
      (if c.la64 then vppn.getLsbD (min j (c.valen - 1) - 13) else decide (j < 32) && vppn.getLsbD (j - 13))) := by
  rw [vppnField_getLsbD hv hv' _ hj]
  by_cases h13 : 13 ≤ j
  · congr 1
    split
    · rw [BitVec.getLsbD_shiftLeft]
      simp [show min j (c.valen - 1) < 64 by omega, show 13 ≤ j ∧ 13 ≤ c.valen - 1 by omega]
    · rw [BitVec.getLsbD_shiftLeft]
      simp [hj, not_lt.2 h13]
  · simp [h13]

theorem readValid_spec (s : State) (i : Nat) (e : TlbEntry) (m : MmuCsr) (hm : m = (s.readValid i e).mmu) :
    (∀ j, j < 24 ∨ j = 30 → m.tlbidx.getLsbD j = s.mmu.tlbidx.getLsbD j) ∧ m.tlbidx.getLsbD 31 = false ∧
    m.tlbidx.extractLsb' 24 6 = (if i < stlbEntries s.cfg then s.mmu.stlbps.extractLsb' 0 6 else e.ps) ∧
    m.asid.extractLsb' 0 10 = e.asid ∧ (∀ j, 10 ≤ j → m.asid.getLsbD j = s.mmu.asid.getLsbD j) ∧
    (14 ≤ s.cfg.valen → s.cfg.valen ≤ 64 → ∀ j < 64, m.tlbehi.getLsbD j = (decide (13 ≤ j) &&
      (if s.cfg.la64 then e.vppn.getLsbD (min j (s.cfg.valen - 1) - 13)
        else decide (j < 32) && e.vppn.getLsbD (j - 13)))) ∧
    ((s.cfg.la64 = true → s.cfg.palen ≤ 60) → (s.cfg.la64 = false → 7 ≤ s.cfg.la32PpnLsb) →
      EloIs s.cfg e.g e.page0 m.tlbelo0 ∧ EloIs s.cfg e.g e.page1 m.tlbelo1) := by
  subst hm
  obtain ⟨hrest, hne, hps⟩ := readTlbidx_spec s.mmu.tlbidx (BitVec.ofNat 6 (s.entryPs i e)) false rfl
  exact ⟨hrest, hne, hps.trans (entryPs_field s i e), extractLsb'_putBits_same _ _ (by decide),
    fun j hj => putBits_other _ _ (by omega), fun hv hv' j hj => vppnField_shift_getLsbD hv hv' _ hj,
    fun hpalen hlsb => ⟨eloIs_eloOfPage hpalen hlsb _ _, eloIs_eloOfPage hpalen hlsb _ _⟩⟩

theorem tlbRead_spec {s : State} (h : s.tlbIndex < tlbEntries s.cfg) (e : TlbEntry) (he : e = s.tlbAt s.tlbIndex) :
    ∃ t, s.tlbRead = .next t ∧ AtNext s t ∧
      OnlyPc { s with mmu := { s.mmu with
        tlbidx := t.mmu.tlbidx, tlbehi := t.mmu.tlbehi, tlbelo0 := t.mmu.tlbelo0, tlbelo1 := t.mmu.tlbelo1,
        asid := t.mmu.asid } } t ∧
      (∀ j, j < 24 ∨ j = 30 → t.mmu.tlbidx.getLsbD j = s.mmu.tlbidx.getLsbD j) ∧
      (e.e = true → t.mmu.tlbidx.getLsbD 31 = false ∧
        t.mmu.tlbidx.extractLsb' 24 6 =
          (if s.tlbIndex < stlbEntries s.cfg then s.mmu.stlbps.extractLsb' 0 6 else e.ps) ∧
        t.mmu.asid.extractLsb' 0 10 = e.asid ∧ (∀ j, 10 ≤ j → t.mmu.asid.getLsbD j = s.mmu.asid.getLsbD j) ∧
        (14 ≤ s.cfg.valen → s.cfg.valen ≤ 64 → ∀ j < 64, t.mmu.tlbehi.getLsbD j = (decide (13 ≤ j) &&
          (if s.cfg.la64 then e.vppn.getLsbD (min j (s.cfg.valen - 1) - 13)
            else decide (j < 32) && e.vppn.getLsbD (j - 13)))) ∧
        ((s.cfg.la64 = true → s.cfg.palen ≤ 60) → (s.cfg.la64 = false → 7 ≤ s.cfg.la32PpnLsb) →
          EloIs s.cfg e.g e.page0 t.mmu.tlbelo0 ∧ EloIs s.cfg e.g e.page1 t.mmu.tlbelo1)) ∧
      (e.e = false → t.mmu.tlbidx.getLsbD 31 = true ∧ t.mmu.tlbidx.extractLsb' 24 6 = 0#6 ∧
        t.mmu.tlbehi = 0#64 ∧ t.mmu.tlbelo0 = 0#64 ∧ t.mmu.tlbelo1 = 0#64 ∧ t.mmu.asid = s.mmu.asid) := by
  have hread := tlbRead_of_lt h
  rw [← he] at hread
  by_cases hvalid : e.e = true
  · rw [if_pos hvalid] at hread
    obtain ⟨hrest, hspec⟩ := readValid_spec s s.tlbIndex e _ rfl
    exact ⟨_, hread, rfl, onlyPc_advance (s.readValid s.tlbIndex e), hrest, fun _ => hspec,
      fun hinvalid => absurd (hvalid.symm.trans hinvalid) (by decide)⟩
  · rw [if_neg hvalid] at hread
    obtain ⟨hrest, hne, hps⟩ := readTlbidx_spec s.mmu.tlbidx 0#6 true rfl
    exact ⟨_, hread, rfl, onlyPc_advance s.readInvalid, hrest, fun hv => absurd hv hvalid,
      fun _ => ⟨hne, hps, rfl, rfl, rfl, rfl⟩⟩

/-! ## TLBWR and TLBFILL -/

/-- The entry of the CSRs put at an index. -/
theorem setTlbNew_spec {s : State} (hok : s.TlbOk) (i : Nat) : ∃ t, (s.setTlb i s.tlbNew).skip = .next t ∧ AtNext s t ∧
    OnlyPc { s with tlb := t.tlb } t ∧ (∀ j, j ≠ i → t.tlbAt j = s.tlbAt j) ∧ s.DescribesEntry (t.tlbAt i) := by
  have hat (j : Nat) : (s.setTlb i s.tlbNew).advance.tlbAt j = if j = i then s.tlbNew else s.tlbAt j :=
    setTlb_tlbAt hok i j _
  refine ⟨_, rfl, rfl, onlyPc_advance (s.setTlb i s.tlbNew), fun j hj => (hat j).trans (if_neg hj), ?_⟩
  rw [hat, if_pos rfl]
  exact describesEntry_tlbNew s

theorem tlbWrite_of_lt {s : State} (h : s.tlbIndex < tlbEntries s.cfg)
    (hfits : stlbEntries s.cfg ≤ s.tlbIndex ∨ s.stlbConflict s.tlbIndex = false ∧ s.stlbSizeBad = false) :
    s.tlbWrite = (s.setTlb s.tlbIndex s.tlbNew).skip := by
  rw [State.tlbWrite, if_neg (not_le.2 h)]
  obtain hmtlb | ⟨hconflict, hsize⟩ := hfits
  · rw [if_neg (not_lt.2 hmtlb)]
  · rw [hconflict, hsize]
    exact ite_self _

theorem tlbWrite_conflict {s : State} (h : s.tlbIndex < tlbEntries s.cfg) (hstlb : s.tlbIndex < stlbEntries s.cfg)
    (hconflict : s.stlbConflict s.tlbIndex = true) : s.tlbWrite = .fault .stlbConflict := by
  rw [State.tlbWrite, if_neg (not_le.2 h), if_pos hstlb, if_pos hconflict]

theorem tlbFill_of {s : State} (h : s.fillsStlb = true → s.stlbSizeBad = false) : s.tlbFill =
    (s.draw.2.setTlb (s.fillIndex s.draw.1 s.fillsStlb) s.tlbNew).skip := by
  rw [State.tlbFill, if_neg]
  rw [Bool.and_eq_true]
  rintro ⟨hfills, hbad⟩
  exact absurd (hbad.symm.trans (h hfills)) (by decide)

/-- Settles O49: each instruction by what the CSRs name. -/
theorem tlbSearchReadWriteFill : Obligations.TlbSearchReadWriteFill := by
  intro s idx key ps hp hpg htype hok hn hidx hkey hps
  obtain rfl : idx = s.tlbIndex := hidx.trans (tlbIndex_eq hn).symm
  obtain rfl : key = s.tlbKeyVa := hkey
  obtain rfl : ps = s.newPs := hps
  have hgate (k : Out) : s.tlbGate k = k := tlbGate_of (hasTlb_of hpg htype) hp k
  have hsrch : exec .tlbsrch s = s.tlbSearch := hgate _
  have hrd : exec .tlbrd s = s.tlbRead := hgate _
  have hwr : exec .tlbwr s = s.tlbWrite := hgate _
  have hfill : exec .tlbfill s = s.tlbFill := hgate _
  rw [hsrch, hrd, hwr, hfill]
  refine ⟨fun husable => ⟨tlbSearch_none hok husable, fun i => tlbSearch_one hok husable hn,
      fun i j => tlbSearch_two hok husable⟩, tlbSearch_unusable hok, fun e he h => tlbRead_spec h e he,
    fun h => ⟨if_pos h, if_pos h⟩, fun h => ⟨fun hfits => ?write, fun hstlb hconflict => ?conflict⟩, fun hsize => ?fill⟩
  case write =>
    rw [tlbWrite_of_lt h]
    · exact setTlbNew_spec hok _
    · refine hfits.imp_right fun ⟨hps, hset, hgood⟩ => ⟨?_, ?_⟩
      · rw [← Bool.not_eq_true, stlbConflict_iff]
        exact not_or.2 ⟨not_not.2 hps, not_not.2 hset⟩
      · rw [← Bool.not_eq_true, stlbSizeBad_iff]
        exact not_not.2 hgood
  case conflict => exact tlbWrite_conflict h hstlb ((stlbConflict_iff s _).2 hconflict)
  case fill =>
    rw [tlbFill_of]
    · obtain ⟨t, ht, hnext, hframe, hother, hat⟩ :=
        setTlbNew_spec (s := s.draw.2) hok (s.fillIndex s.draw.1 s.fillsStlb)
      obtain ⟨hlt, hplace⟩ := fillIndex_spec s s.draw.1
      exact ⟨t, _, ht, hnext, hframe.of_draw (s := { s with tlb := t.tlb }), hlt, hplace, hother, hat⟩
    · intro hfills
      obtain ⟨htype2, hps⟩ := (fillsStlb_iff s).1 hfills
      rw [← Bool.not_eq_true, stlbSizeBad_iff]
      exact not_not.2 (hsize htype2 hps)

end Sys2Proof.Machine
end

section
/-!
The page walk (R807-R809, R312-R317): the read of a table entry, the directory levels, and the two ways LDPTE fills a
half of the refill registers.
-/

namespace Sys2Proof.Machine

/-! ## Reading a table entry -/

theorem walkBytes_eq (c : Config) (pa : Nat) :
    walkBytes c pa = (List.range (walkSize c)).map fun k => (pa + k) % 2 ^ c.palen := by
  rw [walkBytes, physBytes, List.map_map]
  rfl

/-- An address is taken modulo 2^64, which the sizes divide. -/
theorem ofNat_toNat_mod_walkSize (c : Config) (pa : Nat) :
    (BitVec.ofNat 64 pa).toNat % walkSize c = pa % walkSize c := by
  rw [BitVec.toNat_ofNat, walkSize]
  split <;> omega

section
variable {s : State} (hp : s.plv = 0#2) {base : Word} {idx : Nat}
include hp

theorem walkRead_of (halign : s.cfg.alclCoversAll = true ∧ (s.cfg.ual = false ∨ s.csr.misc.getLsbD 12 = true) →
      s.walkAddr base idx % walkSize s.cfg = 0)
    (hmat : s.csr.crmd.extractLsb' 7 2 ≠ 3#2) {as : List Nat}
    (has : as = (List.range (walkSize s.cfg)).map fun k => (s.walkAddr base idx + k) % 2 ^ s.cfg.palen)
    (hbytes : ∀ a ∈ as, byteRefusal s.cfg .load a = none) (k : Word → Out) :
    s.walkRead base idx k = k (BitVec.ofNat 64 (s.bytesAt as)) := by
  rw [← walkBytes_eq] at has
  rw [has] at hbytes ⊢
  rw [State.walkRead, alignGate_of, Check.run_ok (physCheck_of hmat hbytes), readBytes_eq]
  intro hall hchecked
  rw [ofNat_toNat_mod_walkSize]
  exact halign ⟨hall, (alignChecked_iff hp).1 hchecked⟩

theorem walkRead_misaligned (hall : s.cfg.alclCoversAll = true)
    (hchecked : s.cfg.ual = false ∨ s.csr.misc.getLsbD 12 = true) (hmod : s.walkAddr base idx % walkSize s.cfg ≠ 0)
    (k : Word → Out) : ∃ t, s.walkRead base idx k = .next t ∧ GeneralEntry s t 0x9 0x9#6 0#9 ∧
      t.csr.badv = s.vaddr (BitVec.ofNat 64 (s.walkAddr base idx)) ∧ t.csr.badi = s.curInsn := by
  obtain ⟨hentry, hbadi, hbadv, -⟩ := takeExc_spec s false (.ale (BitVec.ofNat 64 (s.walkAddr base idx))) nofun
  refine ⟨_, ?_, hentry, hbadv, hbadi rfl⟩
  rw [State.walkRead, alignGate_not hall ((alignChecked_iff hp).2 hchecked) (by rwa [ofNat_toNat_mod_walkSize])]
  rfl

end

/-! ## LDDIR (R808) -/

/-- The directory levels the page tables have. -/
theorem dirField_iff (s : State) (i8 : BitVec 8) (base width : Nat) : s.dirField i8 = some (base, width) ↔
    (i8.toNat = 1 ∧ base = (s.mmu.pwcl.extractLsb' 10 5).toNat ∧ width = (s.mmu.pwcl.extractLsb' 15 5).toNat) ∨
    (i8.toNat = 2 ∧ base = (s.mmu.pwcl.extractLsb' 20 5).toNat ∧ width = (s.mmu.pwcl.extractLsb' 25 5).toNat) ∨
    (s.cfg.la64 = true ∧ i8.toNat = 3 ∧ base = (s.mmu.pwch.extractLsb' 0 6).toNat ∧
      width = (s.mmu.pwch.extractLsb' 6 6).toNat) ∨
    (s.cfg.la64 = true ∧ i8.toNat = 4 ∧ base = (s.mmu.pwch.extractLsb' 12 6).toNat ∧
      width = (s.mmu.pwch.extractLsb' 18 6).toNat) := by
  rw [State.dirField, eq_comm]
  split
  case h_1 h => simp only [h, Option.some.injEq, Prod.mk.injEq, Nat.reduceEqDiff, true_and, false_and, and_false, or_false]
  case h_2 h =>
    simp only [h, Option.some.injEq, Prod.mk.injEq, Nat.reduceEqDiff, true_and, false_and, and_false, or_false, false_or]
  case h_3 h =>
    cases s.cfg.la64
    · rw [if_neg nofun]
      simp [h]
    · rw [if_pos rfl]
      simp only [h, Option.some.injEq, Prod.mk.injEq, Nat.reduceEqDiff, true_and, false_and, and_false, or_false, false_or]
  case h_4 h =>
    cases s.cfg.la64
    · rw [if_neg nofun]
      simp [h]
    · rw [if_pos rfl]
      simp only [h, Option.some.injEq, Prod.mk.injEq, Nat.reduceEqDiff, true_and, false_and, and_false, false_or]
  case h_5 h1 h2 h3 h4 =>
    refine iff_of_false nofun ?_
    rintro (⟨h, -⟩ | ⟨h, -⟩ | ⟨-, h, -⟩ | ⟨-, h, -⟩)
    · exact h1 h
    · exact h2 h
    · exact h3 h
    · exact h4 h

theorem dirField_none {s : State} {i8 : BitVec 8} (h : ∀ base width, s.dirField i8 ≠ some (base, width)) :
    s.dirField i8 = none := Option.eq_none_iff_forall_ne_some.2 fun f => h f.1 f.2

theorem lddir_huge {s : State} {rj : Reg} (h : (s.getGr rj).getLsbD 6 = true) (rd : Reg) (i8 : BitVec 8) :
    s.lddir rd rj i8 = s.putGr rd (s.getGr rj) := if_pos h

theorem lddir_level {s : State} {rj : Reg} (h : (s.getGr rj).getLsbD 6 = false) {i8 : BitVec 8} {base width : Nat}
    (hfield : s.dirField i8 = some (base, width)) (rd : Reg) : s.lddir rd rj i8 =
      s.walkRead (s.getGr rj) (walkIndex s.walkVa base width) fun x => s.putGr rd x := by
  rw [State.lddir, h, hfield]
  rfl

theorem lddir_noLevel {s : State} {rj : Reg} (h : (s.getGr rj).getLsbD 6 = false) {i8 : BitVec 8}
    (hfield : s.dirField i8 = none) (rd : Reg) : s.lddir rd rj i8 = .refused .lddirLevel := by
  rw [State.lddir, h, hfield]
  rfl

/-! ## LDPTE (R809, R316, R317) -/

/-- What LDPTE leaves: one half of the refill registers and TLBREHI.PS. -/
structure RefillSet (s t : State) (odd : Bool) (elo : Word) (ps : BitVec 6) : Prop where
  next : AtNext s t
  frame : OnlyPc { s with mmu := { s.mmu with
    tlbrehi := t.mmu.tlbrehi, tlbrelo0 := t.mmu.tlbrelo0, tlbrelo1 := t.mmu.tlbrelo1 } } t
  ps : t.mmu.tlbrehi.extractLsb' 0 6 = ps
  ehi : ∀ j, 6 ≤ j → t.mmu.tlbrehi.getLsbD j = s.mmu.tlbrehi.getLsbD j
  elo0 : odd = true → t.mmu.tlbrelo0 = s.mmu.tlbrelo0
  elo1 : odd = false → t.mmu.tlbrelo1 = s.mmu.tlbrelo1
  elo : (if odd then t.mmu.tlbrelo1 else t.mmu.tlbrelo0) = elo

theorem setRefill_spec (s : State) (odd : Bool) (elo : Word) (ps : BitVec 6) :
    RefillSet s (s.setRefill odd elo ps).advance odd elo ps := by
  have hps : (putBits s.mmu.tlbrehi 0 6 ps).extractLsb' 0 6 = ps := extractLsb'_putBits_same _ _ (by decide)
  have hehi (j : Nat) (hj : 6 ≤ j) : (putBits s.mmu.tlbrehi 0 6 ps).getLsbD j = s.mmu.tlbrehi.getLsbD j :=
    putBits_other _ _ (by omega)
  cases odd with
  | false => exact ⟨rfl, onlyPc_advance (s.setRefill false elo ps), hps, hehi, nofun, fun _ => rfl, rfl⟩
  | true => exact ⟨rfl, onlyPc_advance (s.setRefill true elo ps), hps, hehi, fun _ => rfl, nofun, rfl⟩

/-- The count of free values is not spoken of. -/
theorem RefillSet.of_draw {s t : State} {odd : Bool} {elo : Word} {ps : BitVec 6} (h : RefillSet s.draw.2 t odd elo ps) :
    RefillSet s t odd elo ps :=
  { h with
    frame := h.frame.of_draw (s := { s with mmu := { s.mmu with
      tlbrehi := t.mmu.tlbrehi, tlbrelo0 := t.mmu.tlbrelo0, tlbrelo1 := t.mmu.tlbrelo1 } }) }

/-- The fields of an entry that a refill register holds. -/
theorem entryElo_getLsbD (c : Config) (n : Nat) {j : Nat} (hj : j < 64) :
    (BitVec.ofNat 64 n &&& eloMask c).getLsbD j = (eloField c j && n.testBit j) := by
  rw [BitVec.getLsbD_and, eloMask_getLsbD c hj, BitVec.getLsbD_ofNat, decide_eq_true hj, Bool.true_and, Bool.and_comm]

/-- The page number of a half: where it may differ, the bits of PPN. -/
theorem eloField_of_ppnField {c : Config} {j : Nat} (h : ppnField c j = true) : eloField c j = true := by
  simp [eloField, h]

/-- Between G and NR there is PPN and nothing else. -/
theorem eloField_mid {c : Config} {j : Nat} (h7 : 7 ≤ j) (h61 : j < 61) (h : ppnField c j = false) :
    eloField c j = false := by
  simp [eloField, h, not_lt.2 h7, show j ≠ 61 by omega, show j ≠ 62 by omega, show j ≠ 63 by omega]

/-- The bits of a huge-page entry that are not of one half as they stand: bits 6 to 12. -/
theorem hugeHole_getLsbD (j : Nat) : (0x1FC0#64).getLsbD j = (decide (6 ≤ j) && decide (j < 13)) := by
  rw [show 0x1FC0#64 = lowMask 13 &&& ~~~lowMask 6 from rfl, getLsbD_and_not_lowMask, lowMask_getLsbD_eq]
  by_cases hj : j < 13
  · simp [hj, show j < 64 by omega]
  · simp [hj]

/-- The place of address bit `b` in the PPN field that starts at bit `l`. -/
theorem ppnPlace_iff {j b l : Nat} (hpos : 0 < l) (h12 : l ≤ 12) (hlow : l ≤ j) :
    (j = b - (12 - l) ↔ j + 12 = b + l) ∧ (j < b - (12 - l) ↔ ¬b + l ≤ j + 12) := by
  obtain ⟨d, hd⟩ := Nat.exists_eq_add_of_le h12
  rw [hd, Nat.add_sub_cancel_left, Nat.lt_sub_iff_add_lt]
  clear hd h12
  exact ⟨by omega, by omega⟩

/-- Half `odd` of a huge page (R317), bit by bit. -/
theorem hugeElo_getLsbD {c : Config} (hlsb : c.la64 = false → 8 ≤ c.la32PpnLsb ∧ c.la32PpnLsb ≤ 12) (e : Word)
    (hps ps : Nat) (odd : Bool) {j : Nat} (hj : j < 64) : (hugeElo c e hps ps odd).getLsbD j =
      if j = 6 then e.getLsbD 12
      else if ppnField c j then
        (if j + 12 = ps + ppnLsb c then odd else decide (hps + ppnLsb c ≤ j + 12) && e.getLsbD j)
      else eloField c j && e.getLsbD j := by
  obtain ⟨hlsb8, hlsb12⟩ : 8 ≤ ppnLsb c ∧ ppnLsb c ≤ 12 := by
    rw [ppnLsb]
    split
    · omega
    · exact hlsb (Bool.eq_false_iff.2 ‹_›)
  have hhalf : ((1#64 <<< (ps - (12 - ppnLsb c))) &&& eloPpnMask c).getLsbD j =
      (decide (j = ps - (12 - ppnLsb c)) && ppnField c j) := by
    rw [BitVec.getLsbD_and, eloPpnMask_getLsbD c hj, ← BitVec.twoPow_eq, BitVec.getLsbD_twoPow]
    by_cases h : j = ps - (12 - ppnLsb c)
    · simp [← h, hj]
    · simp [h, Ne.symm h]
  have hglobal : ((BitVec.ofBool (e.getLsbD 12)).setWidth 64 <<< 6).getLsbD j = (decide (j = 6) && e.getLsbD 12) := by
    rw [BitVec.getLsbD_shiftLeft, BitVec.getLsbD_setWidth, BitVec.getLsbD_ofBool]
    by_cases h : j = 6
    · simp [h]
    · simp [h]; omega
  simp only [hugeElo]
  generalize (1#64 <<< (ps - (12 - ppnLsb c))) &&& eloPpnMask c = half at hhalf ⊢
  have hodd : (if odd then half else 0#64).getLsbD j = (odd && half.getLsbD j) := by cases odd <;> simp
  simp only [BitVec.getLsbD_and, BitVec.getLsbD_or, BitVec.getLsbD_not, hj, decide_true, Bool.true_and, hodd, hhalf,
    hglobal, eloPpnMask_getLsbD c hj, eloMask_getLsbD c hj, hugeHole_getLsbD, lowMask_getLsbD_eq]
  by_cases h6 : j = 6
  case pos =>
    subst h6
    have hppn : ppnField c 6 = false := Bool.eq_false_iff.2 fun h => by have := ppnLsb_le_of_ppnField h; omega
    have helo : eloField c 6 = true := rfl
    simp [hppn, helo]
  case neg =>
    by_cases hppn : ppnField c j = true
    case pos =>
      have hlow := ppnLsb_le_of_ppnField hppn
      have helo := eloField_of_ppnField hppn
      have hplace := (ppnPlace_iff (b := ps) (by omega) hlsb12 hlow).1
      have hlt := (ppnPlace_iff (b := hps) (by omega) hlsb12 hlow).2
      simp only [h6, hppn, helo, hplace, hlt]
      by_cases hbit : j + 12 = ps + ppnLsb c
      · simp [hbit]
      · by_cases hle : hps + ppnLsb c ≤ j + 12 <;> simp [hbit, hle]
    case neg =>
      have hfield : 6 ≤ j → j < 13 → eloField c j = false := fun h1 h2 =>
        eloField_mid (by omega) (by omega) (Bool.eq_false_iff.2 hppn)
      by_cases hin : 6 ≤ j ∧ j < 13
      · simp [h6, hppn, hfield hin.1 hin.2]
      · have : (decide (6 ≤ j) && decide (j < 13)) = false := by simpa using hin
        simp [h6, hppn, this, Bool.and_comm]

theorem ldpte_entry {s : State} {rj : Reg} (h : (s.getGr rj).getLsbD 6 = false) (seq : BitVec 8) : s.ldpte rj seq =
    s.walkRead (s.getGr rj)
      (s.walkVa.toNat / 2 ^ (s.mmu.pwcl.extractLsb' 0 5).toNat % 2 ^ (s.mmu.pwcl.extractLsb' 5 5).toNat / 2 * 2 +
        (if seq.getLsbD 0 then 1 else 0))
      fun x => (s.setRefill (seq.getLsbD 0) (x &&& eloMask s.cfg)
        (BitVec.ofNat 6 (s.mmu.pwcl.extractLsb' 0 5).toNat)).skip := by
  rw [State.ldpte, h]
  cases seq.getLsbD 0 <;> rfl

/-- A huge-page entry, with the page size of its halves (R317; hps = 0 is log 60). -/
theorem ldpte_huge {s : State} {rj : Reg} (h : (s.getGr rj).getLsbD 6 = true) (seq : BitVec 8) {hps : Nat}
    (hhps : hps = (s.mmu.pwcl.extractLsb' 0 5).toNat + (s.mmu.pwcl.extractLsb' 5 5).toNat) :
    ∃ t ps, s.ldpte rj seq = .next t ∧ (0 < hps → ps = hps - 1) ∧ ps < 64 ∧
      RefillSet s t (seq.getLsbD 0) (hugeElo s.cfg (s.getGr rj) hps ps (seq.getLsbD 0)) (BitVec.ofNat 6 ps) := by
  have hexec : s.ldpte rj seq = (s.ldpteHuge (s.getGr rj) hps (seq.getLsbD 0)).skip := by
    rw [hhps]
    exact if_pos h
  rw [hexec, State.ldpteHuge]
  by_cases h0 : hps = 0
  · subst h0
    rw [if_pos rfl]
    refine ⟨_, (s.draw.1.extractLsb' 0 6).toNat, rfl, fun h => absurd h (by decide), BitVec.isLt _, ?_⟩
    rw [BitVec.ofNat_toNat, BitVec.setWidth_eq]
    exact (setRefill_spec s.draw.2 _ _ _).of_draw
  · have hlt1 := (s.mmu.pwcl.extractLsb' 0 5).isLt
    have hlt2 := (s.mmu.pwcl.extractLsb' 5 5).isLt
    rw [if_neg h0]
    exact ⟨_, hps - 1, rfl, fun _ => rfl, by omega, setRefill_spec s _ _ _⟩

/-- Settles O51: a huge-page entry passes on, an entry of a table is read, or the address of the read is misaligned. -/
theorem pageWalk : Obligations.PageWalk := by
  rintro rd rj i8 seq s va n stride _ hva hn hstride rfl hlspw hp first _ checked _ hfirst rfl hchecked rfl _ rfl
    odd ptBase hps _ rfl rfl hhps rfl
  obtain rfl : va = s.walkVa := hva
  obtain rfl : n = walkSize s.cfg := hn
  obtain rfl : stride = s.entryBytes := hstride
  obtain rfl : first = s.walkAddr (s.getGr rj) := hfirst
  have hgate (k : Out) : s.need s.cfg.hasLspw (s.privileged k) = k := (need_of hlspw _).trans (privileged_of hp k)
  have hlddir : exec (.lddir rd rj i8) s = s.lddir rd rj i8 := hgate _
  have hldpte : exec (.ldpte rj seq) s = s.ldpte rj seq := hgate _
  rw [hlddir, hldpte]
  refine ⟨fun hhuge => ⟨?dirHuge, ?pteHuge⟩,
    fun hentry => ⟨fun base width index hlevel hindex => ?dir, fun hlevel => ?noLevel, fun hreads => ?pte, ?pteAle⟩⟩
  case dirHuge =>
    rw [lddir_huge hhuge]
    exact putGr_spec s rd _
  case pteHuge =>
    obtain ⟨t, ps, ht, hps0, hlt, hset⟩ := ldpte_huge hhuge seq hhps
    refine ⟨t, ps, ht, hset.next, hset.frame, hps0, hlt, hset.ps, hset.ehi, hset.elo0, hset.elo1, fun _ hlsb j hj => ?_⟩
    rw [hset.elo]
    exact hugeElo_getLsbD hlsb _ _ _ _ hj
  case dir =>
    rw [lddir_level hentry ((dirField_iff s i8 base width).2 hlevel)]
    subst hindex
    refine ⟨fun ⟨halign, hmat, hbytes⟩ => ?_, fun hc hmod => ?_⟩
    · rw [walkIndex, walkRead_of hp (fun hc => halign (hchecked.2 hc)) hmat rfl hbytes]
      obtain ⟨t, ht, hgr, hnext, hframe⟩ := putGr_spec s rd (BitVec.ofNat 64 (s.bytesAt _))
      exact ⟨t, ht, hnext, hframe, hgr⟩
    · obtain ⟨hall, hchk⟩ := hchecked.1 hc
      exact walkRead_misaligned hp hall hchk hmod _
  case noLevel =>
    exact lddir_noLevel hentry (dirField_none fun base width h => hlevel base width ((dirField_iff s i8 base width).1 h)) rd
  case pte =>
    obtain ⟨halign, hmat, hbytes⟩ := hreads
    rw [ldpte_entry hentry, walkRead_of hp (fun hc => halign (hchecked.2 hc)) hmat rfl hbytes]
    obtain hset := setRefill_spec s (seq.getLsbD 0) (BitVec.ofNat 64 (s.bytesAt _) &&& eloMask s.cfg)
      (BitVec.ofNat 6 (s.mmu.pwcl.extractLsb' 0 5).toNat)
    refine ⟨_, rfl, hset.next, hset.frame, hset.ps, hset.ehi, hset.elo0, hset.elo1, fun j hj => ?_⟩
    rw [hset.elo]
    exact entryElo_getLsbD _ _ hj
  case pteAle =>
    intro hc hmod
    obtain ⟨hall, hchk⟩ := hchecked.1 hc
    rw [ldpte_entry hentry]
    exact walkRead_misaligned hp hall hchk hmod _

end Sys2Proof.Machine
end

section
/-!
What CSRRD, CSRWR and CSRXCHG deliver (R780-R783): which register each number reads (R80, R83), and the frame of a write.
-/

namespace Sys2Proof.Machine

/-! ## Numbers and registers -/

theorem CsrId.num_injective {id id' : CsrId} (h : id.num = id'.num) : id = id' :=
  Option.some.inj ((csr_at_num id).symm.trans (h ▸ csr_at_num id'))

/-- Whether a number is one of the map can be tested. -/
def decidableDefinedCsr (n : Nat) : Decidable (DefinedCsr n) := instDecidableOr (p := n ≤ 0x8)

/-- The test. -/
def definedCsrTest (n : Nat) : Bool := @decide _ (decidableDefinedCsr n)

theorem definedCsr_of_test {n : Nat} (h : definedCsrTest n = true) : DefinedCsr n :=
  @of_decide_eq_true _ (decidableDefinedCsr n) h

theorem definedCsr_num (id : CsrId) : DefinedCsr id.num := by
  have save : ∀ n : Fin 16, definedCsrTest (0x30 + n) = true := by decide
  have dmw : ∀ n : Fin 4, definedCsrTest (0x180 + n) = true := by decide
  have pmcfg : ∀ n : Fin 32, definedCsrTest (0x200 + 2 * n) = true := by decide
  have pmcnt : ∀ n : Fin 32, definedCsrTest (0x201 + 2 * n) = true := by decide
  have mwp : ∀ (n : Fin 8) (k : Fin 4), definedCsrTest (0x310 + 8 * n + k) = true := by decide
  have fwp : ∀ (n : Fin 8) (k : Fin 4), definedCsrTest (0x390 + 8 * n + k) = true := by decide
  refine definedCsr_of_test ?_
  cases id with
  | save n => exact save n
  | dmw n => exact dmw n
  | pmcfg n => exact pmcfg n
  | pmcnt n => exact pmcnt n
  | mwpCfg n k => exact mwp n k
  | fwpCfg n k => exact fwp n k
  | _ => rfl

theorem CsrId.num_lt (id : CsrId) : id.num < 2 ^ 14 := by
  have save : ∀ n : Fin 16, 0x30 + n.val < 2 ^ 14 := by decide
  have dmw : ∀ n : Fin 4, 0x180 + n.val < 2 ^ 14 := by decide
  have pmcfg : ∀ n : Fin 32, 0x200 + 2 * n.val < 2 ^ 14 := by decide
  have pmcnt : ∀ n : Fin 32, 0x201 + 2 * n.val < 2 ^ 14 := by decide
  have mwp : ∀ (n : Fin 8) (k : Fin 4), 0x310 + 8 * n.val + k.val < 2 ^ 14 := by decide
  have fwp : ∀ (n : Fin 8) (k : Fin 4), 0x390 + 8 * n.val + k.val < 2 ^ 14 := by decide
  cases id with
  | save n => exact save n
  | dmw n => exact dmw n
  | pmcfg n => exact pmcfg n
  | pmcnt n => exact pmcnt n
  | mwpCfg n k => exact mwp n k
  | fwpCfg n k => exact fwp n k
  | _ => decide

theorem csrReadNum_of_some {s : State} {num : BitVec 14} {id : CsrId} (h : csrOfNum s.cfg num = some id) :
    s.csrReadNum num = s.csrRead id := by
  rw [State.csrReadNum, h]

theorem csrReadNum_of_none {s : State} {num : BitVec 14} (h : csrOfNum s.cfg num = none) : s.csrReadNum num = 0#64 := by
  rw [State.csrReadNum, h]

theorem csrOfNum_undefined {num : BitVec 14} (h : ¬DefinedCsr num.toNat) (c : Config) : csrOfNum c num = none :=
  Option.eq_none_iff_forall_ne_some.2 fun id hid => h ((csrOfNum_eq_some_iff.1 hid).1 ▸ definedCsr_num id)

/-- A number reads the register of its row where the core has it, else 0 (R83, D11). -/
theorem csrReadNum_at {s : State} (id : CsrId) {p : Prop} [Decidable p] {n : Nat} (hn : n = id.num)
    (hp : id.implemented s.cfg = true ↔ p) : s.csrReadNum (BitVec.ofNat 14 n) = readIf p (s.csrRead id) := by
  have hnum : (BitVec.ofNat 14 n).toNat = id.num := by rw [hn]; exact Nat.mod_eq_of_lt id.num_lt
  rw [readIf]
  by_cases h : p
  · rw [if_pos h]
    exact csrReadNum_of_some (csrOfNum_eq_some_iff.2 ⟨hnum, hp.2 h⟩)
  · rw [if_neg h]
    refine csrReadNum_of_none (Option.eq_none_iff_forall_ne_some.2 fun id' hid' => h (hp.1 ?_))
    obtain ⟨hnum', himpl⟩ := csrOfNum_eq_some_iff.1 hid'
    rwa [CsrId.num_injective (hnum.symm.trans hnum')]

/-- A register that every core has. -/
theorem csrReadNum_always {s : State} (id : CsrId) {n : Nat} (hn : n = id.num) (h : id.implemented s.cfg = true) :
    s.csrReadNum (BitVec.ofNat 14 n) = s.csrRead id :=
  (csrReadNum_at id hn (iff_true_intro h)).trans (if_pos trivial)

/-- A register of the translation unit. -/
theorem csrReadNum_tlb {s : State} (id : CsrId) {n : Nat} (hn : n = id.num)
    (h : id.implemented s.cfg = (s.cfg.tlbType != 0)) :
    s.csrReadNum (BitVec.ofNat 14 n) = readIf (s.cfg.tlbType ≠ 0) (s.csrRead id) :=
  csrReadNum_at id hn (by rw [h, bne_iff_ne])

/-! ## Words put together from fields -/

theorem setWidth_eq_ofNat {n : Nat} (x : BitVec n) : x.setWidth 32 = BitVec.ofNat 32 x.toNat :=
  BitVec.eq_of_toNat_eq (by simp)

theorem sext32_ofNat {n : Nat} (h : n < 2 ^ 31) : sext32 (BitVec.ofNat 32 n) = BitVec.ofNat 64 n := by
  refine BitVec.eq_of_getLsbD_eq fun i hi => ?_
  rw [sext32_getLsbD _ hi, BitVec.getLsbD_ofNat, BitVec.getLsbD_ofNat, decide_eq_true hi,
    decide_eq_true (show min i 31 < 32 by omega), Bool.true_and, Bool.true_and]
  by_cases hi' : i < 31
  · rw [Nat.min_eq_left (by omega)]
  · rw [Nat.min_eq_right (by omega), Nat.testBit_lt_two_pow h,
      Nat.testBit_lt_two_pow (h.trans_le (Nat.pow_le_pow_right (by decide) (not_lt.1 hi')))]

/-- A field above `k` bits. -/
theorem ofNat_or_shiftLeft {a : Nat} (b : Nat) {k : Nat} (h : a < 2 ^ k) :
    BitVec.ofNat 32 a ||| BitVec.ofNat 32 b <<< k = BitVec.ofNat 32 (a + 2 ^ k * b) := by
  refine BitVec.eq_of_getLsbD_eq fun i hi => ?_
  rw [BitVec.getLsbD_or, BitVec.getLsbD_shiftLeft, BitVec.getLsbD_ofNat, BitVec.getLsbD_ofNat, BitVec.getLsbD_ofNat,
    Nat.add_comm, Nat.testBit_two_pow_mul_add _ h]
  by_cases hik : i < k
  · simp [hi, hik]
  · have ha : a.testBit i = false := Nat.testBit_lt_two_pow (h.trans_le (Nat.pow_le_pow_right (by decide) (not_lt.1 hik)))
    simp [hi, hik, ha, show i - k < 32 by omega]

theorem prcfg1_eq (c : Config) : sext32 (prcfg1 c) = BitVec.ofNat 64
    (c.saveNum % 16 + 2 ^ 4 * ((c.timerBits - 1) % 256) + 2 ^ 12 * c.vMax.toNat) := by
  have hvmax := c.vMax.isLt
  rw [prcfg1, setWidth_eq_ofNat, ofNat_or_shiftLeft _ (by omega), ofNat_or_shiftLeft _ (by omega), sext32_ofNat (by omega)]

theorem prcfg3_eq (c : Config) : sext32 (prcfg3 c) = BitVec.ofNat 64 (c.tlbType % 16 +
    (if c.tlbType = 0 then 0 else 2 ^ 4 * (c.mtlbEntriesMinus1 % 256)) +
    (if c.tlbType = 2 then 2 ^ 12 * (c.stlbWaysMinus1 % 256) + 2 ^ 20 * (c.stlbSets % 64) else 0)) := by
  rw [prcfg3]
  by_cases h0 : c.tlbType = 0
  · simp [h0, sext32_ofNat]
  · rw [if_neg h0, if_neg h0, ofNat_or_shiftLeft _ (by omega)]
    by_cases h2 : c.tlbType = 2
    · rw [if_pos h2, if_pos h2, ← BitVec.or_assoc, ofNat_or_shiftLeft _ (by omega), ofNat_or_shiftLeft _ (by omega),
        sext32_ofNat (by omega), Nat.add_assoc]
    · rw [if_neg h2, if_neg h2, BitVec.or_zero, sext32_ofNat (by omega), Nat.add_zero]

/-! ## The registers that read other state, or more than their field -/

theorem csrRead_misc (s : State) :
    s.csrRead .misc = sext32 (s.csr.misc ||| (if s.cfg.ual then 0#32 else 0xF000#32)) := rfl

theorem csrRead_estat (s : State) : s.csrRead .estat = sext32 (putBits s.csr.estat 0 13 s.isBits) := rfl

theorem csrRead_asid (s : State) : s.csrRead .asid = sext32 (putBits s.mmu.asid 16 8 s.cfg.asidBits) := rfl

theorem csrRead_cpuid (s : State) : s.csrRead .cpuid = sext32 (s.cfg.coreId.setWidth 32) := rfl

theorem csrRead_tcfg (s : State) : s.csrRead .tcfg = s.timer.tcfg := rfl

theorem csrRead_tval (s : State) : s.csrRead .tval = s.timer.timeVal := rfl

theorem csrRead_llbctl (s : State) :
    s.csrRead .llbctl = sext32 (putBit (putBit s.csr.llbctl 0 s.llbit) 1 false) := rfl

theorem csrRead_dbg (s : State) : s.csrRead .dbg = sext32 (putBits s.dbg.dbg 1 7 s.cfg.dRev) := rfl

/-- The address map: each number reads its register (R80, R83). -/
theorem readsCsrs (s : State) : ReadsCsrs s fun n => s.csrReadNum (BitVec.ofNat 14 n) where
  crmd := csrReadNum_always .crmd rfl rfl
  prmd := csrReadNum_always .prmd rfl rfl
  euen := csrReadNum_always .euen rfl rfl
  misc j hj := by
    rw [csrReadNum_always (n := 0x3) .misc rfl rfl, csrRead_misc, sext32_getLsbD _ hj, BitVec.getLsbD_or]
    congr 1
    have hbits : (0xF000#32).getLsbD (min j 31) = decide (12 ≤ j ∧ j < 16) := by
      have : ∀ j < 64, (0xF000#32).getLsbD (min j 31) = decide (12 ≤ j ∧ j < 16) := by decide
      exact this j hj
    cases s.cfg.ual
    · simpa using hbits
    · simp
  ecfg := csrReadNum_always .ecfg rfl rfl
  estat j hj := by
    rw [csrReadNum_always (n := 0x5) .estat rfl rfl, csrRead_estat, sext32_getLsbD _ hj, putBits_get _ _ _ _ _ (by omega)]
    by_cases h : j < 13
    · rw [if_pos (by omega), if_pos h, Nat.min_eq_left (by omega), Nat.sub_zero]
    · rw [if_neg (by omega), if_neg h]
  era := csrReadNum_always .era rfl rfl
  badv := csrReadNum_always .badv rfl rfl
  badi := csrReadNum_always .badi rfl rfl
  eentry := csrReadNum_always .eentry rfl rfl
  tlbidx := csrReadNum_tlb .tlbidx rfl rfl
  tlbehi := csrReadNum_tlb .tlbehi rfl rfl
  tlbelo0 := csrReadNum_tlb .tlbelo0 rfl rfl
  tlbelo1 := csrReadNum_tlb .tlbelo1 rfl rfl
  asid j hj := by
    rw [csrReadNum_tlb (n := 0x18) .asid rfl rfl, csrRead_asid, readIf]
    by_cases h : s.cfg.tlbType ≠ 0
    · rw [if_pos h, decide_eq_true h, Bool.true_and, sext32_getLsbD _ hj, putBits_get _ _ _ _ _ (by omega)]
      by_cases h16 : 16 ≤ j ∧ j < 24
      · rw [if_pos (by omega), if_pos h16, Nat.min_eq_left (by omega)]
      · rw [if_neg (by omega), if_neg h16]
    · rw [if_neg h, decide_eq_false h, Bool.false_and, BitVec.getLsbD_zero]
  pgdl := csrReadNum_tlb .pgdl rfl rfl
  pgdh := csrReadNum_tlb .pgdh rfl rfl
  pgd := by
    rintro _ rfl
    exact csrReadNum_tlb .pgd rfl rfl
  pwcl := csrReadNum_tlb .pwcl rfl rfl
  pwch := csrReadNum_at .pwch rfl (by rw [CsrId.implemented, Bool.and_eq_true, bne_iff_ne])
  stlbps := csrReadNum_tlb .stlbps rfl rfl
  rvacfg := csrReadNum_at .rvacfg rfl Iff.rfl
  cpuid := by
    have hid := s.cfg.coreId.isLt
    refine (csrReadNum_always .cpuid rfl rfl).trans ?_
    rw [csrRead_cpuid, setWidth_eq_ofNat, sext32_ofNat (by omega)]
  prcfg1 := (csrReadNum_always .prcfg1 rfl rfl).trans (prcfg1_eq s.cfg)
  prcfg2 := csrReadNum_always .prcfg2 rfl rfl
  prcfg3 := (csrReadNum_always .prcfg3 rfl rfl).trans (prcfg3_eq s.cfg)
  save n h := csrReadNum_at (.save ⟨n, h⟩) rfl decide_eq_true_iff
  tid := csrReadNum_at .tid rfl Iff.rfl
  tcfg := csrReadNum_at .tcfg rfl Iff.rfl
  tval := csrReadNum_at .tval rfl Iff.rfl
  cntc := csrReadNum_at .cntc rfl Iff.rfl
  ticlr := (csrReadNum_at .ticlr rfl (p := s.cfg.hasLlftp = true) Iff.rfl).trans (ite_self _)
  llbctl j hj := by
    rw [csrReadNum_always (n := 0x60) .llbctl rfl rfl, csrRead_llbctl, sext32_getLsbD _ hj, putBit_get _ _ _ _ (by omega),
      putBit_get _ _ _ _ (by omega)]
    by_cases h0 : j = 0
    · simp [h0]
    · by_cases h1 : j = 1
      · simp [h1]
      · rw [if_neg (by omega), if_neg (by omega), if_neg h0, decide_eq_true h1, Bool.true_and]
  tlbrentry := csrReadNum_tlb .tlbrentry rfl rfl
  tlbrbadv := csrReadNum_tlb .tlbrbadv rfl rfl
  tlbrera := csrReadNum_tlb .tlbrera rfl rfl
  tlbrsave := csrReadNum_tlb .tlbrsave rfl rfl
  tlbrelo0 := csrReadNum_tlb .tlbrelo0 rfl rfl
  tlbrelo1 := csrReadNum_tlb .tlbrelo1 rfl rfl
  tlbrehi := csrReadNum_tlb .tlbrehi rfl rfl
  tlbrprmd := csrReadNum_tlb .tlbrprmd rfl rfl
  merrctl := csrReadNum_always .merrctl rfl rfl
  merrinfo1 := csrReadNum_always .merrinfo1 rfl rfl
  merrinfo2 := csrReadNum_always .merrinfo2 rfl rfl
  merrentry := csrReadNum_always .merrentry rfl rfl
  merrera := csrReadNum_always .merrera rfl rfl
  merrsave := csrReadNum_always .merrsave rfl rfl
  dmw n h := csrReadNum_at (.dmw ⟨n, h⟩) rfl decide_eq_true_iff
  pmcfg n h := csrReadNum_at (.pmcfg ⟨n, h⟩) rfl decide_eq_true_iff
  pmcnt n h := csrReadNum_at (.pmcnt ⟨n, h⟩) rfl decide_eq_true_iff
  mwpc := csrReadNum_always .mwpc rfl rfl
  mwps := csrReadNum_always .mwps rfl rfl
  mwp n h w hw := by
    have read (k : Fin 4) {m : Nat} (hm : m = 0x310 + 8 * n + k) :=
      csrReadNum_at (s := s) (n := m) (.mwpCfg ⟨n, h⟩ k) hm decide_eq_true_iff
    subst hw
    exact ⟨read 0 rfl, read 1 (by simp; omega), read 2 (by simp; omega), read 3 (by simp; omega)⟩
  fwpc := csrReadNum_always .fwpc rfl rfl
  fwps := csrReadNum_always .fwps rfl rfl
  fwp n h w hw := by
    have read (k : Fin 4) {m : Nat} (hm : m = 0x390 + 8 * n + k) :=
      csrReadNum_at (s := s) (n := m) (.fwpCfg ⟨n, h⟩ k) hm decide_eq_true_iff
    subst hw
    exact ⟨read 0 rfl, read 1 (by simp; omega), read 2 (by simp; omega), read 3 (by simp; omega)⟩
  dbg j hj := by
    rw [csrReadNum_always (n := 0x500) .dbg rfl rfl, csrRead_dbg, sext32_getLsbD _ hj, putBits_get _ _ _ _ _ (by omega)]
    by_cases h : 1 ≤ j ∧ j < 8
    · rw [if_pos (by omega), if_pos h, Nat.min_eq_left (by omega)]
    · rw [if_neg (by omega), if_neg h]
  dera := csrReadNum_always .dera rfl rfl
  dsave := csrReadNum_always .dsave rfl rfl
  implementation := ⟨csrReadNum_of_none rfl, csrReadNum_of_none rfl, csrReadNum_of_none rfl⟩

end Sys2Proof.Machine
end

section
/-!
The writes: which are accepted, and their frame.
-/

namespace Sys2Proof.Machine

/-- A field that the mask covers takes part in a write as the whole register would. -/
theorem extractLsb'_mix_mask {n lo w : Nat} (old v m k : BitVec n) (hk : k.extractLsb' lo w = BitVec.allOnes w) :
    (mix old v (m &&& k)).extractLsb' lo w = (mix old v m).extractLsb' lo w :=
  extractLsb'_eq_of_getLsbD fun i hi => by
    have hbit : k.getLsbD (lo + i) = true := by
      have := congrArg (BitVec.getLsbD · i) hk
      simpa [BitVec.getLsbD_extractLsb', BitVec.getLsbD_allOnes, hi] using this
    rw [mix_getLsbD, BitVec.getLsbD_and, hbit, Bool.and_true, BitVec.getLsbD_extractLsb', decide_eq_true hi,
      Bool.true_and, mix_getLsbD]

/-- The core accepts the value (log 18): VS at most VMax, RBits at most its bound. -/
def State.Accepts (s : State) (id : CsrId) (v m : Word) : Prop :=
  (id = .ecfg → (mix s.csr.ecfg (low32 v) (low32 m)).extractLsb' 16 3 ≤ s.cfg.vMax) ∧
  (id = .rvacfg → ((mix s.csr.rvacfg (low32 v) (low32 m)).extractLsb' 0 4).toNat ≤ rbitsMax s.cfg)

theorem csrWrite_accepted {s : State} {id : CsrId} {v m : Word} (h : s.Accepts id v m) :
    ∃ u, s.csrWrite id v m = .ok u := by
  cases id
  case ecfg =>
    refine ⟨_, if_neg ?_⟩
    rw [extractLsb'_mix_mask _ _ _ _ (by decide)]
    exact BitVec.not_lt.2 (h.1 rfl)
  case rvacfg =>
    refine ⟨_, if_neg ?_⟩
    rw [extractLsb'_mix_mask _ _ _ _ (by decide)]
    exact not_lt.2 (h.2 rfl)
  all_goals exact ⟨_, rfl⟩

theorem csrWriteNum_accepted {s : State} {num : BitVec 14} {v m : Word}
    (h : ∀ id, csrOfNum s.cfg num = some id → s.Accepts id v m) : ∃ u, s.csrWriteNum num v m = .ok u := by
  rw [State.csrWriteNum]
  cases hid : csrOfNum s.cfg num with
  | none => exact ⟨s, rfl⟩
  | some id => exact csrWrite_accepted (h id hid)

/-- The conditions on ECFG and RVACFG, by number, are those of the core. -/
theorem accepts_of_num {s : State} {csr : BitVec 14} {v m : Word}
    (hecfg : csr = 0x4#14 → (mix s.csr.ecfg (low32 v) (low32 m)).extractLsb' 16 3 ≤ s.cfg.vMax)
    (hrva : csr = 0x1F#14 → ((mix s.csr.rvacfg (low32 v) (low32 m)).extractLsb' 0 4).toNat ≤ rbitsMax s.cfg)
    (id : CsrId) (hid : csrOfNum s.cfg csr = some id) : s.Accepts id v m := by
  have hnum := (csrOfNum_eq_some_iff.1 hid).1
  exact ⟨fun h => hecfg (BitVec.eq_of_toNat_eq (by rw [hnum, h]; rfl)),
    fun h => hrva (BitVec.eq_of_toNat_eq (by rw [hnum, h]; rfl))⟩

theorem csrWriteNum_rest {s u : State} {num : BitVec 14} {v m : Word} (h : s.csrWriteNum num v m = .ok u) :
    u = { s with
      csr := u.csr, mmu := u.mmu, timer := u.timer, ras := u.ras, pm := u.pm, watch := u.watch, dbg := u.dbg
      llbit := u.llbit } := by
  rw [State.csrWriteNum] at h
  split at h
  · exact csrWrite_rest h
  · cases h
    rfl

/-- CSRWR and CSRXCHG at PLV0, with the mask of either. -/
theorem exec_csrSwap {i : Instr} {m : State → Word} {rd rj : Reg} {csr : BitVec 14}
    (hi : (i = .csrwr rd csr ∧ m = fun _ => BitVec.allOnes 64) ∨ (i = .csrxchg rd rj csr ∧ m = fun s => s.getGr rj))
    {s : State} (hp : s.plv = 0#2) : exec i s = s.csrSwap rd csr (m s) := by
  obtain ⟨rfl, rfl⟩ | ⟨rfl, rfl⟩ := hi
  · exact privileged_of hp _
  · exact privileged_of hp _

theorem csrSwap_of_write {s u : State} {rd : Reg} {num : BitVec 14} {m : Word}
    (h : s.csrWriteNum num (s.getGr rd) m = .ok u) : s.csrSwap rd num m = u.putGr rd (s.csrReadNum num) := by
  rw [State.csrSwap, h]

/-- The old value reaches the register; beside the CSRs and LLbit nothing changes. -/
theorem csrSwap_frame {s u : State} {rd : Reg} {num : BitVec 14} {m : Word}
    (h : s.csrWriteNum num (s.getGr rd) m = .ok u) : ∃ t, s.csrSwap rd num m = .next t ∧
      GrIs s t rd (s.csrReadNum num) ∧ AtNext s t ∧ SameGrBut rd s t ∧ SameFr s t ∧
      SameCf s t ∧ t.fcsr0 = s.fcsr0 ∧ SameMem s t ∧ t.tlb = s.tlb ∧ t.iocsr = s.iocsr ∧ t.lladdr = s.lladdr ∧
      t.idle = s.idle ∧ SameOutside s t := by
  obtain ⟨t, ht, hgr, hnext, hframe⟩ := putGr_spec u rd (s.csrReadNum num)
  refine ⟨t, (csrSwap_of_write h).trans ht, ?_⟩
  have hrest := csrWriteNum_rest h
  rw [hrest] at hgr hnext hframe
  exact ⟨hgr, hnext, hframe.gr, hframe.fr, hframe.cf, hframe.fcsr, hframe.mem, hframe.sys.tlb, hframe.sys.iocsr,
    hframe.sys.lladdr, hframe.sys.idle, { hframe.out with }⟩

/-- An implemented performance counter, below PLV0 (R194). -/
theorem counterReadable_of {s : State} {num : BitVec 14} {n : Fin 32} (hplv : s.plv ≠ 0#2)
    (hmisc : s.csr.misc.getLsbD (8 + s.plv.toNat) = true) (h : csrOfNum s.cfg num = some (.pmcnt n)) :
    s.counterReadable num = true := by
  rw [State.counterReadable, h, hmisc]
  simp [hplv]

/-- Settles O45: reads through the address map, writes by what the core accepts and their frame. -/
theorem csrAccessCompletes : Obligations.CsrAccessCompletes := by
  intro rd rj csr
  refine ⟨writesGr_of fun s hp => if_pos (.inl hp), fun s k hk hplv hmisc hcount hnum => ?counter,
    fun hundef s => ?undefined, fun i m hi s hp hecfg hrva => ?write, readsCsrs⟩
  case counter =>
    have hid : csrOfNum s.cfg csr = some (.pmcnt ⟨k, hk⟩) :=
      csrOfNum_eq_some_iff.2 ⟨hnum, decide_eq_true hcount⟩
    have hread : s.csrReadNum csr = s.pm.pmcnt[k] := csrReadNum_of_some hid
    rw [← hread, show exec (.csrrd rd csr) s = _ from if_pos (.inr (counterReadable_of hplv hmisc hid))]
    exact putGr_spec s rd _
  case undefined =>
    have hnone := csrOfNum_undefined hundef s.cfg
    have hread := csrReadNum_of_none hnone
    have hwrite (v m : Word) : s.csrWriteNum csr v m = .ok s := by rw [State.csrWriteNum, hnone]
    refine ⟨hread, fun hp => ⟨?_, ?_⟩⟩
    · rw [exec_csrSwap (rj := rj) (.inl ⟨rfl, rfl⟩) hp, csrSwap_of_write (hwrite _ _), hread]
      exact putGr_spec s rd _
    · rw [exec_csrSwap (.inr ⟨rfl, rfl⟩) hp, csrSwap_of_write (hwrite _ _), hread]
      exact putGr_spec s rd _
  case write =>
    obtain ⟨u, hu⟩ := csrWriteNum_accepted (accepts_of_num hecfg hrva)
    rw [exec_csrSwap hi hp]
    exact csrSwap_frame hu

end Sys2Proof.Machine
end

section
/-!
What a CSR write leaves to read (R782, R783): the registers beside the written one, the registers that only read, and
the written bits of the others.
-/

namespace Sys2Proof.Machine

/-! ## The registers beside the written one -/

/-- The four configuration registers of a watchpoint. -/
theorem cfgRegister_cases {motive : Fin 4 → Prop} (vaddr : motive 0) (mask : motive 1) (cfg3 : motive 2) (cfg4 : motive 3)
    (k : Fin 4) : motive k :=
  Fin.cases vaddr (Fin.cases mask (Fin.cases cfg3 (Fin.cases cfg4 finZeroElim))) k

theorem Watchpoint.write_cfg_other (w : Watchpoint) (c : Config) (dm : Bool) (m3 : BitVec 32) {k k' : Fin 4}
    (h : k' ≠ k) (v m : Word) : (w.write c dm m3 k v m).cfg k' = w.cfg k' := by
  unfold Watchpoint.write
  split
  · rfl
  · induction k using cfgRegister_cases <;> induction k' using cfgRegister_cases <;> trivial

/-- A register of a group, after a write of another one. -/
theorem getElem_set_fin_ne {α : Type} {n : Nat} (x : Vector α n) (a : α) {i j : Fin n} (h : j ≠ i) :
    (x.set i.val a)[j.val] = x[j.val] :=
  Vector.getElem_set_ne _ _ fun hij => h (Fin.ext hij.symm)

/-- What the other registers read after a write of `id`: each its field, PGD the tables and the bad address, TVAL the
timer, which TCFG starts, and ESTAT the monitors and the timer interrupt. -/
structure ReadsKept (s u : State) (id : CsrId) : Prop where
  pgd : id ∉ [CsrId.badv, .pgdl, .pgdh, .tlbrbadv, .tlbrera] → u.csrRead .pgd = s.csrRead .pgd
  tval : id ≠ .tcfg → u.csrRead .tval = s.csrRead .tval
  estat : id ≠ .estat → id ≠ .ticlr → (∀ n, id ≠ .pmcfg n ∧ id ≠ .pmcnt n) → u.csrRead .estat = s.csrRead .estat
  field : ∀ id', id' ≠ id → id' ≠ .pgd → id' ≠ .estat → id' ≠ .tval → u.csrRead id' = s.csrRead id'

theorem ReadsKept.refl (s : State) (id : CsrId) : ReadsKept s s id :=
  ⟨fun _ => rfl, fun _ => rfl, fun _ _ _ => rfl, fun _ _ _ _ _ => rfl⟩

/-- The registers beside the written one and PGD, ESTAT and TVAL, register by register. -/
theorem csrRead_eq_of_ite {s u : State} {id : CsrId}
    (h : ∀ id', s.csrRead id' = if id' ∈ [id, .pgd, .estat, .tval] then s.csrRead id' else u.csrRead id') (id' : CsrId)
    (hne : id' ≠ id) (hpgd : id' ≠ .pgd) (hestat : id' ≠ .estat) (htval : id' ≠ .tval) :
    u.csrRead id' = s.csrRead id' := by
  have hmem : id' ∉ [id, .pgd, .estat, .tval] := by simp [hne, hpgd, hestat, htval]
  rw [h id', if_neg hmem]

theorem csrWrite_readsKept {s u : State} {id : CsrId} {v m : Word} (h : s.csrWrite id v m = .ok u) :
    ReadsKept s u id := by
  cases id
  case badi | pgd | cpuid | prcfg1 | prcfg2 | prcfg3 | tval | merrinfo1 | merrinfo2 | mwpc | fwpc | dbg =>
    obtain rfl := Except.ok.inj h
    exact .refl _ _
  case crmd | prmd | euen | misc | era | eentry | tlbidx | tlbehi | tlbelo0 | tlbelo1 | asid | pwcl | pwch | stlbps
      | tid | cntc | llbctl | tlbrentry | tlbrsave | tlbrelo0 | tlbrelo1 | tlbrehi | tlbrprmd | merrctl | merrentry
      | merrera | merrsave | mwps | fwps | dera | dsave =>
    obtain rfl := Except.ok.inj h
    exact ⟨fun _ => rfl, fun _ => rfl, fun _ _ _ => rfl, csrRead_eq_of_ite fun id' => by induction id' <;> rfl⟩
  case badv | pgdl | pgdh | tlbrbadv | tlbrera =>
    obtain rfl := Except.ok.inj h
    exact ⟨fun hid => absurd (by decide) hid, fun _ => rfl, fun _ _ _ => rfl, csrRead_eq_of_ite fun id' => by induction id' <;> rfl⟩
  case estat =>
    obtain rfl := Except.ok.inj h
    exact ⟨fun _ => rfl, fun _ => rfl, fun hid => absurd rfl hid, csrRead_eq_of_ite fun id' => by induction id' <;> rfl⟩
  case ecfg | rvacfg =>
    simp only [State.csrWrite] at h
    split at h <;> cases h
    exact ⟨fun _ => rfl, fun _ => rfl, fun _ _ _ => rfl, csrRead_eq_of_ite fun id' => by induction id' <;> rfl⟩
  case ticlr =>
    simp only [State.csrWrite] at h
    split at h <;> cases h
    · exact ⟨fun _ => rfl, fun _ => rfl, fun _ hid => absurd rfl hid, csrRead_eq_of_ite fun id' => by induction id' <;> rfl⟩
    · exact .refl _ _
  case tcfg =>
    simp only [State.csrWrite, TimerState.writeTcfg] at h
    split at h <;> cases h
    all_goals
      exact ⟨fun _ => rfl, fun hid => absurd rfl hid, fun _ _ _ => rfl, csrRead_eq_of_ite fun id' => by induction id' <;> rfl⟩
  case save n =>
    obtain rfl := Except.ok.inj h
    refine ⟨fun _ => rfl, fun _ => rfl, fun _ _ _ => rfl, fun id' hne _ _ _ => ?_⟩
    induction id' with
    | save k => exact getElem_set_fin_ne _ _ fun hk => hne (congrArg _ hk)
    | _ => rfl
  case dmw n =>
    obtain rfl := Except.ok.inj h
    refine ⟨fun _ => rfl, fun _ => rfl, fun _ _ _ => rfl, fun id' hne _ _ _ => ?_⟩
    induction id' with
    | dmw k => exact getElem_set_fin_ne _ _ fun hk => hne (congrArg _ hk)
    | _ => rfl
  case pmcfg n =>
    obtain rfl := Except.ok.inj h
    refine ⟨fun _ => rfl, fun _ => rfl, fun _ _ hid => absurd rfl (hid n).1, fun id' hne _ _ _ => ?_⟩
    induction id' with
    | pmcfg k => exact congrArg sext32 (getElem_set_fin_ne _ _ fun hk => hne (congrArg _ hk))
    | _ => trivial
  case pmcnt n =>
    obtain rfl := Except.ok.inj h
    refine ⟨fun _ => rfl, fun _ => rfl, fun _ _ hid => absurd rfl (hid n).2, fun id' hne _ _ _ => ?_⟩
    induction id' with
    | pmcnt k => exact getElem_set_fin_ne _ _ fun hk => hne (congrArg _ hk)
    | _ => trivial
  case mwpCfg n k =>
    obtain rfl := Except.ok.inj h
    refine ⟨fun _ => rfl, fun _ => rfl, fun _ _ _ => rfl, fun id' hne _ _ _ => ?_⟩
    induction id' with
    | mwpCfg n' k' =>
      by_cases hn : n' = n
      · subst hn
        refine (congrArg (Watchpoint.cfg · k') (Vector.getElem_set_self _)).trans ?_
        exact Watchpoint.write_cfg_other _ _ _ _ (fun hk => hne (by rw [hk])) v m
      · exact congrArg (Watchpoint.cfg · k') (getElem_set_fin_ne _ _ hn)
    | _ => rfl
  case fwpCfg n k =>
    obtain rfl := Except.ok.inj h
    refine ⟨fun _ => rfl, fun _ => rfl, fun _ _ _ => rfl, fun id' hne _ _ _ => ?_⟩
    induction id' with
    | fwpCfg n' k' =>
      by_cases hn : n' = n
      · subst hn
        refine (congrArg (Watchpoint.cfg · k') (Vector.getElem_set_self _)).trans ?_
        exact Watchpoint.write_cfg_other _ _ _ _ (fun hk => hne (by rw [hk])) v m
      · exact congrArg (Watchpoint.cfg · k') (getElem_set_fin_ne _ _ hn)
    | _ => rfl

end Sys2Proof.Machine
end

section
/-!
What the written register reads back.
-/

namespace Sys2Proof.Machine

/-! ## Masks of the mode registers -/

theorem hasWatch_eq (c : Config) : c.hasWatch = decide (0 < c.mwpNum + c.fwpNum) := by
  rw [Config.hasWatch, Bool.eq_iff_iff, bne_iff_ne, decide_eq_true_iff, Nat.pos_iff_ne_zero]

/-- WE is a bit of the mask where there are watchpoints. -/
theorem weMask_getLsbD (c : Config) {i : Nat} (m : BitVec 32) {j : Nat} (hj : j < 32) :
    (weMask c i m).getLsbD j = (m.getLsbD j && (decide (j ≠ i) || decide (0 < c.mwpNum + c.fwpNum))) := by
  rw [weMask, hasWatch_eq]
  by_cases hw : 0 < c.mwpNum + c.fwpNum
  · simp [hw]
  · rw [decide_eq_false hw, if_neg (by decide), putBit_get _ _ _ _ hj]
    by_cases hji : j = i <;> simp [hji]

/-! ## One register -/

/-- The bits `w` of the register take part in the write, and a register of 32 bits reads sign-extended. -/
def ReadsBack (s u : State) (id : CsrId) (v m : Word) (b32 : Bool) (w : Nat → Bool) : Prop :=
  (∀ j < (if b32 = true then 32 else 64), (u.csrRead id).getLsbD j = exchanged (w j) (s.csrRead id) v m j) ∧
  (b32 = true → ∀ j, 32 ≤ j → j < 64 → (u.csrRead id).getLsbD j = (u.csrRead id).getLsbD 31)

theorem exchanged_eq (w : Bool) (old new mask : Word) (j : Nat) :
    exchanged w old new mask j = if w && mask.getLsbD j then new.getLsbD j else old.getLsbD j := rfl

section
variable {s u : State} {id : CsrId} {v m : Word} {w : Nat → Bool}

/-- A register of 64 bits. -/
theorem readsBack_word {x mask : Word} (hs : s.csrRead id = x) (hu : u.csrRead id = mix x v (m &&& mask))
    (hmask : ∀ j < 64, mask.getLsbD j = w j) : ReadsBack s u id v m false w := by
  refine ⟨fun j hj => ?_, nofun⟩
  rw [if_neg (by decide)] at hj
  rw [hu, hs, mix_getLsbD, BitVec.getLsbD_and, hmask j hj, Bool.and_comm, exchanged_eq]

/-- A register of 32 bits reads sign-extended. -/
theorem readsBack_signed {x : BitVec 32} (hu : u.csrRead id = sext32 x)
    (hbits : ∀ j < 32, x.getLsbD j = exchanged (w j) (s.csrRead id) v m j) : ReadsBack s u id v m true w := by
  refine ⟨fun j hj => ?_, fun _ j h32 h64 => ?_⟩
  · rw [if_pos rfl] at hj
    rw [hu, sext32_getLsbD _ (by omega), Nat.min_eq_left (by omega), hbits j hj]
  · rw [hu, sext32_getLsbD _ h64, sext32_getLsbD _ (by omega), Nat.min_eq_right (by omega), Nat.min_self]

/-- One bit of a register of 32 bits after the exchange. -/
theorem mix_low32_getLsbD (x mask : BitVec 32) (v m : Word) {j : Nat} (hj : j < 32) :
    (mix x (low32 v) (low32 m &&& mask)).getLsbD j = exchanged (mask.getLsbD j) (sext32 x) v m j := by
  rw [mix_getLsbD, BitVec.getLsbD_and, low32_getLsbD, low32_getLsbD, exchanged_eq, sext32_getLsbD _ (by omega),
    Nat.min_eq_left (by omega), decide_eq_true hj, Bool.true_and, Bool.true_and, Bool.and_comm]

theorem readsBack_low {x mask : BitVec 32} (hs : s.csrRead id = sext32 x)
    (hu : u.csrRead id = sext32 (mix x (low32 v) (low32 m &&& mask))) (hmask : ∀ j < 32, mask.getLsbD j = w j) :
    ReadsBack s u id v m true w :=
  readsBack_signed hu fun j hj => by rw [mix_low32_getLsbD _ _ _ _ hj, hmask j hj, hs]

end

/-- A register of which every bit is written: no mask. -/
theorem readsBack_all {s u : State} {id : CsrId} {v m : Word} {x : BitVec 32} (hs : s.csrRead id = sext32 x)
    (hu : u.csrRead id = sext32 (mix x (low32 v) (low32 m))) : ReadsBack s u id v m true fun _ => true :=
  readsBack_low (mask := BitVec.allOnes 32) hs (by rwa [BitVec.and_allOnes]) fun j hj => by
    rw [BitVec.getLsbD_allOnes, decide_eq_true hj]

end Sys2Proof.Machine
end

section
/-!
The registers whose writable bits take what is written, in the order of `plainCsrs`.
-/

namespace Sys2Proof.Machine

/-! ## One entry of the list -/

/-- The register of the entry reads back what the entry says. -/
def EntryReadsBack (s : State) (e : Nat × Bool × (Nat → Bool)) : Prop :=
  ∀ (id : CsrId) (v m : Word) (u : State), id.num = e.1 → s.csrWrite id v m = .ok u → ReadsBack s u id v m e.2.1 e.2.2

section
variable {s : State} {n : Nat} {w : Nat → Bool}

theorem entry_of (id : CsrId) {b32 : Bool} (hn : id.num = n)
    (h : ∀ v m u, s.csrWrite id v m = .ok u → ReadsBack s u id v m b32 w) : EntryReadsBack s (n, b32, w) := by
  intro id' v m u hid hu
  obtain rfl := CsrId.num_injective (hid.trans hn.symm)
  exact h v m u hu

variable {write : Word → Word → State}

theorem entry_word (id : CsrId) (hn : id.num = n) (hw : ∀ v m, s.csrWrite id v m = .ok (write v m)) {x mask : Word}
    (hs : s.csrRead id = x) (hu : ∀ v m, (write v m).csrRead id = mix x v (m &&& mask))
    (hmask : ∀ j < 64, mask.getLsbD j = w j) : EntryReadsBack s (n, false, w) :=
  entry_of id hn fun v m u h => by
    obtain rfl : write v m = u := Except.ok.inj ((hw v m).symm.trans h)
    exact readsBack_word hs (hu v m) hmask

theorem entry_low (id : CsrId) (hn : id.num = n) (hw : ∀ v m, s.csrWrite id v m = .ok (write v m)) {x mask : BitVec 32}
    (hs : s.csrRead id = sext32 x) (hu : ∀ v m, (write v m).csrRead id = sext32 (mix x (low32 v) (low32 m &&& mask)))
    (hmask : ∀ j < 32, mask.getLsbD j = w j) : EntryReadsBack s (n, true, w) :=
  entry_of id hn fun v m u h => by
    obtain rfl : write v m = u := Except.ok.inj ((hw v m).symm.trans h)
    exact readsBack_low hs (hu v m) hmask

theorem entry_all (id : CsrId) (hn : id.num = n) (hw : ∀ v m, s.csrWrite id v m = .ok (write v m)) {x : BitVec 32}
    (hs : s.csrRead id = sext32 x) (hu : ∀ v m, (write v m).csrRead id = sext32 (mix x (low32 v) (low32 m))) :
    EntryReadsBack s (n, true, fun _ => true) :=
  entry_of id hn fun v m u h => by
    obtain rfl : write v m = u := Except.ok.inj ((hw v m).symm.trans h)
    exact readsBack_all hs (hu v m)

/-- A page address: the low 12 bits stay 0. -/
theorem entry_page (id : CsrId) (hn : id.num = n) (hw : ∀ v m, s.csrWrite id v m = .ok (write v m)) {x : Word}
    (hs : s.csrRead id = x) (hu : ∀ v m, (write v m).csrRead id = mix x v (m &&& grMask s.cfg &&& ~~~0xFFF#64)) :
    EntryReadsBack s (n, false, fun j => grField s.cfg j && decide (12 ≤ j)) :=
  entry_word id hn hw hs (fun v m => by rw [hu, BitVec.and_assoc]) fun j _ => by
    rw [getLsbD_and_not_page, grMask_getLsbD, Bool.and_comm]

end

/-! ## The registers with a view or a side effect -/

theorem ite_getLsbD {n : Nat} (b : Bool) (x : BitVec n) (j : Nat) :
    (if b then x else 0#n).getLsbD j = (b && x.getLsbD j) := by
  cases b <;> simp

section
variable (s : State)

theorem entry_misc : EntryReadsBack s (0x3, true, fun j => (0x00070EE0#32).getLsbD j ||
    (s.cfg.la64 && (0xE#32).getLsbD j) || (s.cfg.ual && (0xF000#32).getLsbD j)) :=
  entry_of .misc rfl fun v m u h => by
    obtain rfl := Except.ok.inj h
    refine readsBack_signed rfl fun j hj => ?_
    have hmask : (miscMask s.cfg).getLsbD j = ((0x00070EE0#32).getLsbD j ||
        (s.cfg.la64 && (0xE#32).getLsbD j) || (s.cfg.ual && (0xF000#32).getLsbD j)) := by
      rw [miscMask, BitVec.getLsbD_or, BitVec.getLsbD_or, ite_getLsbD, ite_getLsbD]
    have hdisjoint : (0xF000#32).getLsbD j = true → (0x00070EE0#32).getLsbD j = false ∧ (0xE#32).getLsbD j = false := by
      have : ∀ j < 32, (0xF000#32).getLsbD j = true →
          (0x00070EE0#32).getLsbD j = false ∧ (0xE#32).getLsbD j = false := by decide
      exact this j hj
    rw [BitVec.getLsbD_or, mix_low32_getLsbD _ _ _ _ hj, hmask, exchanged_eq, exchanged_eq, csrRead_misc,
      sext32_getLsbD _ (by omega), sext32_getLsbD _ (by omega), Nat.min_eq_left (by omega), BitVec.getLsbD_or]
    cases s.cfg.ual with
    | true => simp
    | false =>
      by_cases h4 : (0xF000#32).getLsbD j = true
      · obtain ⟨h1, h2⟩ := hdisjoint h4
        simp only [h1, h2, h4]
        simp
      · simp only [Bool.not_eq_true] at h4
        simp [h4]

theorem entry_ecfg : EntryReadsBack s (0x4, true, (0x00071FFF#32).getLsbD) :=
  entry_of .ecfg rfl fun v m u h => by
    simp only [State.csrWrite] at h
    split at h <;> cases h
    exact readsBack_low rfl rfl fun _ _ => rfl

theorem entry_rvacfg : EntryReadsBack s (0x1F, true, fun j => decide (j < 4)) :=
  entry_of .rvacfg rfl fun v m u h => by
    simp only [State.csrWrite] at h
    split at h <;> cases h
    exact readsBack_low rfl rfl (by decide)

/-- The pending bits of the hardware. -/
theorem isBits_hardware (s : State) {j : Nat} (h : 2 ≤ j) : s.isBits.getLsbD j =
    (s.extIrq.extractLsb' 8 1 ++ BitVec.ofBool s.timer.ti ++ BitVec.ofBool s.pmi ++
      s.extIrq.extractLsb' 0 8).getLsbD (j - 2) := by
  rw [State.isBits, BitVec.getLsbD_append, if_neg (by omega)]

/-- ESTAT as it reads: its own bits, and the pending bits of the hardware. -/
theorem csrRead_estat_getLsbD (s : State) {j : Nat} (hj : j < 32) : (s.csrRead .estat).getLsbD j =
    if 2 ≤ j ∧ j < 13 then s.isBits.getLsbD j else s.csr.estat.getLsbD j := by
  obtain ⟨h0, h1, -⟩ := isBits_getLsbD s
  rw [csrRead_estat, sext32_getLsbD _ (by omega), Nat.min_eq_left (by omega), putBits_get _ _ _ _ _ hj, Nat.sub_zero]
  by_cases h : 2 ≤ j ∧ j < 13
  · rw [if_pos (by omega), if_pos h]
  · rw [if_neg h]
    split
    · obtain rfl | rfl : j = 0 ∨ j = 1 := by omega
      · exact h0
      · exact h1
    · rfl

/-- The two software interrupt bits. -/
theorem entry_estat : EntryReadsBack s (0x5, true, fun j => decide (j < 2)) :=
  entry_of .estat rfl fun v m u h => by
    obtain rfl := Except.ok.inj h
    refine readsBack_signed rfl fun j hj => ?_
    have hmask : (3#32).getLsbD j = decide (j < 2) := by
      have : ∀ j < 32, (3#32).getLsbD j = decide (j < 2) := by decide
      exact this j hj
    have hread := csrRead_estat_getLsbD
      { s with csr := { s.csr with estat := mix s.csr.estat (low32 v) (low32 m &&& 3#32) } } hj
    rw [csrRead_estat, sext32_getLsbD _ (by omega), Nat.min_eq_left (by omega)] at hread
    rw [hread, exchanged_eq, csrRead_estat_getLsbD s hj]
    by_cases hin : 2 ≤ j ∧ j < 13
    · rw [if_pos hin, if_pos hin, decide_eq_false (by omega), Bool.false_and, if_neg (by decide),
        isBits_hardware _ hin.1, isBits_hardware _ hin.1]
      rfl
    · rw [if_neg hin, if_neg hin, mix_low32_getLsbD _ _ _ _ hj, hmask, exchanged_eq, sext32_getLsbD _ (by omega),
        Nat.min_eq_left (by omega)]

theorem entry_asid : EntryReadsBack s (0x18, true, fun j => decide (j < 10)) :=
  entry_of .asid rfl fun v m u h => by
    obtain rfl := Except.ok.inj h
    refine readsBack_signed rfl fun j hj => ?_
    have hmask : (0x3FF#32).getLsbD j = decide (j < 10) := by
      have : ∀ j < 32, (0x3FF#32).getLsbD j = decide (j < 10) := by decide
      exact this j hj
    rw [putBits_get _ _ _ _ _ hj, mix_low32_getLsbD _ _ _ _ hj, hmask, exchanged_eq, exchanged_eq, csrRead_asid,
      sext32_getLsbD _ (by omega), sext32_getLsbD _ (by omega), Nat.min_eq_left (by omega), putBits_get _ _ _ _ _ hj]
    by_cases h16 : 16 ≤ j ∧ j < 16 + 8
    · rw [if_pos h16, if_pos h16, decide_eq_false (by omega), Bool.false_and, if_neg (by decide)]
    · rw [if_neg h16, if_neg h16]

theorem writeTcfg_tcfg (t : TimerState) (c : Config) (v m : Word) :
    (t.writeTcfg c v m).tcfg = mix t.tcfg v (m &&& grMask c &&& lowMask c.timerBits) := by
  simp only [TimerState.writeTcfg]
  split <;> rfl

theorem entry_tcfg : EntryReadsBack s (0x41, false, fun j => grField s.cfg j && decide (j < s.cfg.timerBits)) :=
  entry_word .tcfg rfl (fun _ _ => rfl) (x := s.timer.tcfg) (mask := grMask s.cfg &&& lowMask s.cfg.timerBits) rfl
    (fun v m => (writeTcfg_tcfg _ _ v m).trans (by rw [BitVec.and_assoc])) fun j hj => by
    rw [BitVec.getLsbD_and, grMask_getLsbD, lowMask_getLsbD _ _ hj]

end

/-! ## The watchpoints (R203-R206, R212-R215) -/

/-- A configuration register of a watchpoint after a write. -/
theorem watchpoint_readsBack {s u : State} {id : CsrId} {v m : Word} (w : Watchpoint) (k : Fin 4) (mask m3 : BitVec 32)
    (hs : s.csrRead id = w.cfg k) (hu : u.csrRead id = (w.write s.cfg (s.dbg.dbg.getLsbD 0) mask k v m).cfg k)
    (hmask : ∀ (dm : Bool), ∀ j < 32,
      (if dm then mask else mask &&& ~~~1#32).getLsbD j = (m3.getLsbD j || (j == 0 && dm))) :
    ReadsBack s u id v m (decide (2 ≤ k.val)) (Watchpoint.field s w m3 k.val) := by
  unfold Watchpoint.write at hu
  by_cases hlock : (w.cfg3.getLsbD 0 && !s.dbg.dbg.getLsbD 0) = true
  case pos =>
    rw [if_pos hlock, ← hs] at hu
    have hfield (j : Nat) : Watchpoint.field s w m3 k.val j = false := by rw [Watchpoint.field, hlock]; rfl
    refine ⟨fun j _ => by rw [hu, hfield]; rfl, fun h2 j h32 h64 => ?_⟩
    have hsigned : ∃ x, s.csrRead id = sext32 x := by
      rw [hs]
      induction k using cfgRegister_cases with
      | vaddr | mask => exact absurd h2 (by decide)
      | cfg3 | cfg4 => exact ⟨_, rfl⟩
    obtain ⟨x, hx⟩ := hsigned
    rw [hu, hx, sext32_getLsbD _ h64, sext32_getLsbD _ (by omega), Nat.min_eq_right (by omega), Nat.min_self]
  case neg =>
    rw [if_neg hlock] at hu
    have hopen (j : Nat) : Watchpoint.field s w m3 k.val j = (if k.val < 2 then grField s.cfg j
        else if k.val = 2 then m3.getLsbD j || (j == 0 && s.dbg.dbg.getLsbD 0) else decide (j < 10)) := by
      rw [Watchpoint.field, Bool.eq_false_iff.2 hlock]
      rfl
    induction k using cfgRegister_cases with
    | vaddr | mask => exact readsBack_word hs hu fun j _ => (grMask_getLsbD s.cfg j).trans (hopen j).symm
    | cfg3 => exact readsBack_low hs hu fun j hj => (hmask _ j hj).trans (hopen j).symm
    | cfg4 =>
      have : ∀ j < 32, (0x3FF#32).getLsbD j = decide (j < 10) := by decide
      exact readsBack_low hs hu fun j hj => (this j hj).trans (hopen j).symm

end Sys2Proof.Machine
end

section
/-!
The list of the plain registers, entry by entry; the registers of VPPN, LLbit and the watchpoint status; and the whole
exchange.
-/

namespace Sys2Proof.Machine

/-! ## Masks as sets of bits -/

/-- A mode register with WE at bit `i`, where `j + d` is compared with the 9 of CRMD. -/
theorem modeMask_getLsbD (c : Config) (i d : Nat) (h : i + d = 9) (mask : BitVec 32) (rest : Nat → Bool)
    (hrest : ∀ j < 32, mask.getLsbD j = (rest j || decide (j = i)) ∧ (j = i → rest j = false)) {j : Nat}
    (hj : j < 32) : (weMask c i mask).getLsbD j =
      (rest j || (decide (j + d = 9) && decide (0 < c.mwpNum + c.fwpNum))) := by
  obtain ⟨hmask, hat⟩ := hrest j hj
  rw [weMask_getLsbD c mask hj, hmask]
  by_cases hji : j = i
  · rw [hat hji]
    simp [hji, h]
  · simp [hji, show ¬j + d = 9 by omega]

theorem tlbidxMask_getLsbD (c : Config) {j : Nat} (hj : j < 32) :
    (tlbidxMask c).getLsbD j = ((0xBF000000#32).getLsbD j || decide (j < c.tlbidxN)) := by
  rw [tlbidxMask, BitVec.getLsbD_or, low32_getLsbD, lowMask_getLsbD _ _ (by omega), decide_eq_true hj, Bool.true_and]

theorem euenMask_getLsbD (c : Config) {j : Nat} (hj : j < 32) : (euenMask c).getLsbD j = (decide (j = 0) && c.hasFp) := by
  have hbit : (1#32).getLsbD j = decide (j = 0) := by
    have : ∀ j < 32, (1#32).getLsbD j = decide (j = 0) := by decide
    exact this j hj
  rw [euenMask, ite_getLsbD, hbit, Bool.and_comm]

theorem tlbreraMask_getLsbD (c : Config) {j : Nat} (hj : j < 64) :
    (grMask c &&& ~~~2#64).getLsbD j = (grField c j && decide (j ≠ 1)) := by
  have hbit : (~~~2#64).getLsbD j = decide (j ≠ 1) := by
    have : ∀ j < 64, (~~~2#64).getLsbD j = decide (j ≠ 1) := by decide
    exact this j hj
  rw [BitVec.getLsbD_and, grMask_getLsbD, hbit]

/-- The bits of a watchpoint's third register but DMOnly, which debug mode opens. -/
theorem watchMask_getLsbD {mask m3 : BitVec 32} (h : ∀ j < 32, m3.getLsbD j = (mask.getLsbD j && decide (j ≠ 0)))
    (h0 : mask.getLsbD 0 = true) (dm : Bool) {j : Nat} (hj : j < 32) :
    (if dm then mask else mask &&& ~~~1#32).getLsbD j = (m3.getLsbD j || (j == 0 && dm)) := by
  have hnot : (~~~1#32).getLsbD j = decide (j ≠ 0) := by
    have : ∀ j < 32, (~~~1#32).getLsbD j = decide (j ≠ 0) := by decide
    exact this j hj
  cases dm with
  | true =>
    by_cases hj0 : j = 0
    · subst hj0
      rw [if_pos rfl, h0]
      simp
    · rw [if_pos rfl, h j hj]
      simp [hj0]
  | false => rw [if_neg (by decide), BitVec.getLsbD_and, hnot, h j hj, Bool.and_false, Bool.or_false]

theorem getD_eq_getElem {α : Type} {n : Nat} (x : Vector α n) (d : α) {i : Nat} (h : i < n) : x.getD i d = x[i] := by
  rw [Vector.getD, Array.getD, dif_pos (by simpa using h)]
  rfl

/-! ## The list -/

theorem plainCsrs_readBack (s : State) : ∀ e ∈ plainCsrs s, EntryReadsBack s e := by
  have bits5 : ∀ j < 32, (0x3F#32).getLsbD j = decide (j < 6) := by decide
  have bits24 : ∀ j < 32, (0x00FFFFFF#32).getLsbD j = decide (j < 24) := by decide
  have gr (j : Nat) (_ : j < 64) : (grMask s.cfg).getLsbD j = grField s.cfg j := grMask_getLsbD s.cfg j
  have elo (j : Nat) (hj : j < 64) := eloMask_getLsbD s.cfg hj
  have ppn (j : Nat) (hj : j < 64) := ppnMask_getLsbD s.cfg hj
  simp only [plainCsrs, List.forall_mem_append, List.forall_mem_cons, List.forall_mem_map, List.mem_range]
  refine ⟨⟨⟨⟨⟨⟨⟨?crmd, ?prmd, ?euen, entry_misc s, entry_ecfg s, entry_estat s, ?era, ?badv, ?eentry, ?tlbidx, ?tlbelo0,
    ?tlbelo1, entry_asid s, ?pgdl, ?pgdh, ?pwcl, ?pwch, ?stlbps, entry_rvacfg s, ?tid, entry_tcfg s, ?cntc, ?tlbrentry,
    ?tlbrbadv, ?tlbrera, ?tlbrsave, ?tlbrelo0, ?tlbrelo1, ?tlbrprmd, ?merrctl, ?merrentry, ?merrera, ?merrsave, ?dera,
    ?dsave, nofun⟩, ?save⟩, ?dmw⟩, ?pmcfg⟩, ?pmcnt⟩, ?mwp⟩, ?fwp⟩
  case crmd => exact entry_low .crmd rfl (fun _ _ => rfl) rfl (fun _ _ => rfl) fun j hj =>
    modeMask_getLsbD s.cfg 9 0 rfl 0x3FF#32 (fun j => decide (j < 9)) (by decide) hj
  case prmd => exact entry_low .prmd rfl (fun _ _ => rfl) rfl (fun _ _ => rfl) fun j hj =>
    modeMask_getLsbD s.cfg 3 6 rfl 0xF#32 (fun j => decide (j < 3)) (by decide) hj
  case tlbrprmd => exact entry_low .tlbrprmd rfl (fun _ _ => rfl) rfl (fun _ _ => rfl) fun j hj =>
    modeMask_getLsbD s.cfg 4 5 rfl 0x17#32 (fun j => decide (j < 3)) (by decide) hj
  case merrctl => exact entry_low .merrctl rfl (fun _ _ => rfl) rfl (fun _ _ => rfl) fun j hj =>
    modeMask_getLsbD s.cfg 6 3 rfl 0x1FDE#32 (0x1F9E#32).getLsbD (by decide) hj
  case euen => exact entry_low .euen rfl (fun _ _ => rfl) rfl (fun _ _ => rfl) fun j hj => euenMask_getLsbD s.cfg hj
  case tlbidx => exact entry_low .tlbidx rfl (fun _ _ => rfl) rfl (fun _ _ => rfl) fun j hj => tlbidxMask_getLsbD s.cfg hj
  case era => exact entry_word .era rfl (fun _ _ => rfl) rfl (fun _ _ => rfl) gr
  case badv => exact entry_word .badv rfl (fun _ _ => rfl) rfl (fun _ _ => rfl) gr
  case cntc => exact entry_word .cntc rfl (fun _ _ => rfl) rfl (fun _ _ => rfl) gr
  case tlbrbadv => exact entry_word .tlbrbadv rfl (fun _ _ => rfl) rfl (fun _ _ => rfl) gr
  case tlbrsave => exact entry_word .tlbrsave rfl (fun _ _ => rfl) rfl (fun _ _ => rfl) gr
  case merrera => exact entry_word .merrera rfl (fun _ _ => rfl) rfl (fun _ _ => rfl) gr
  case merrsave => exact entry_word .merrsave rfl (fun _ _ => rfl) rfl (fun _ _ => rfl) gr
  case dera => exact entry_word .dera rfl (fun _ _ => rfl) rfl (fun _ _ => rfl) gr
  case dsave => exact entry_word .dsave rfl (fun _ _ => rfl) rfl (fun _ _ => rfl) gr
  case eentry => exact entry_page .eentry rfl (fun _ _ => rfl) rfl (fun _ _ => rfl)
  case pgdl => exact entry_page .pgdl rfl (fun _ _ => rfl) rfl (fun _ _ => rfl)
  case pgdh => exact entry_page .pgdh rfl (fun _ _ => rfl) rfl (fun _ _ => rfl)
  case tlbelo0 => exact entry_word .tlbelo0 rfl (fun _ _ => rfl) rfl (fun _ _ => rfl) elo
  case tlbelo1 => exact entry_word .tlbelo1 rfl (fun _ _ => rfl) rfl (fun _ _ => rfl) elo
  case tlbrelo0 => exact entry_word .tlbrelo0 rfl (fun _ _ => rfl) rfl (fun _ _ => rfl) elo
  case tlbrelo1 => exact entry_word .tlbrelo1 rfl (fun _ _ => rfl) rfl (fun _ _ => rfl) elo
  case tlbrentry => exact entry_word .tlbrentry rfl (fun _ _ => rfl) rfl (fun _ _ => rfl) ppn
  case merrentry => exact entry_word .merrentry rfl (fun _ _ => rfl) rfl (fun _ _ => rfl) ppn
  case tlbrera =>
    exact entry_word .tlbrera rfl (fun _ _ => rfl) (x := s.mmu.tlbrera) (mask := grMask s.cfg &&& ~~~2#64) rfl
      (fun v m => by rw [← BitVec.and_assoc]; rfl) fun j hj => tlbreraMask_getLsbD s.cfg hj
  case pwcl => exact entry_all .pwcl rfl (fun _ _ => rfl) rfl fun _ _ => rfl
  case tid => exact entry_all .tid rfl (fun _ _ => rfl) rfl fun _ _ => rfl
  case pwch => exact entry_low .pwch rfl (fun _ _ => rfl) rfl (fun _ _ => rfl) bits24
  case stlbps => exact entry_low .stlbps rfl (fun _ _ => rfl) rfl (fun _ _ => rfl) bits5
  case save =>
    exact fun k hk => entry_word (.save ⟨k, hk⟩) rfl (fun _ _ => rfl) rfl (fun _ _ => Vector.getElem_set_self _) gr
  case dmw =>
    exact fun k hk => entry_word (.dmw ⟨k, hk⟩) rfl (fun _ _ => rfl) rfl (fun _ _ => Vector.getElem_set_self _)
      fun _ _ => rfl
  case pmcfg =>
    exact fun k hk => entry_low (.pmcfg ⟨k, hk⟩) rfl (fun _ _ => rfl) rfl
      (fun _ _ => congrArg sext32 (Vector.getElem_set_self _)) fun _ _ => rfl
  case pmcnt =>
    exact fun k hk => entry_word (.pmcnt ⟨k, hk⟩) rfl (fun _ _ => rfl) rfl (fun _ _ => Vector.getElem_set_self _) gr
  case mwp =>
    intro k hk
    rw [getD_eq_getElem _ _ (show k / 4 < 8 by omega)]
    refine entry_of (.mwpCfg ⟨k / 4, by omega⟩ ⟨k % 4, by omega⟩) rfl fun v m u h => ?_
    obtain rfl := Except.ok.inj h
    exact watchpoint_readsBack _ ⟨k % 4, by omega⟩ 0xF9F#32 0xF9E#32 rfl
      (congrArg (Watchpoint.cfg · _) (Vector.getElem_set_self _)) fun dm j hj => watchMask_getLsbD (by decide) rfl dm hj
  case fwp =>
    intro k hk
    rw [getD_eq_getElem _ _ (show k / 4 < 8 by omega)]
    refine entry_of (.fwpCfg ⟨k / 4, by omega⟩ ⟨k % 4, by omega⟩) rfl fun v m u h => ?_
    obtain rfl := Except.ok.inj h
    exact watchpoint_readsBack _ ⟨k % 4, by omega⟩ 0x9F#32 0x9E#32 rfl
      (congrArg (Watchpoint.cfg · _) (Vector.getElem_set_self _)) fun dm j hj => watchMask_getLsbD (by decide) rfl dm hj

/-! ## The registers of VPPN, LLbit and the watchpoint status -/

theorem exchanged_true (old new mask : Word) (j : Nat) : exchanged true old new mask j = (mix old new mask).getLsbD j := by
  rw [mix_getLsbD, exchanged_eq, Bool.true_and]

/-- TLBEHI keeps VPPN, TLBREHI PS too. -/
theorem vppnWrite_getLsbD {c : Config} (hv : 14 ≤ c.valen) (hv' : c.valen ≤ 64) (ps : Bool) (old v m : Word) {j : Nat}
    (hj : j < 64) : (c.vppnField (mix old v m) ||| (if ps then mix old v m &&& 0x3F#64 else 0#64)).getLsbD j =
      if j < 6 then ps && exchanged true old v m j
      else decide (13 ≤ j) && (if c.la64 then exchanged true old v m (min j (c.valen - 1)) else decide
        (j < 32) && exchanged true old v m j) := by
  have hps : (mix old v m &&& 0x3F#64).getLsbD j = (decide (j < 6) && (mix old v m).getLsbD j) := by
    rw [BitVec.getLsbD_and, show 0x3F#64 = lowMask 6 from rfl, lowMask_getLsbD _ _ hj, Bool.and_comm]
  rw [BitVec.getLsbD_or, ite_getLsbD, hps, vppnField_getLsbD hv hv' _ hj]
  simp only [exchanged_true]
  by_cases h6 : j < 6
  · simp [h6, show ¬13 ≤ j by omega]
  · simp [h6]

theorem writeWps_getLsbD (num : Nat) (old : BitVec 32) (v m : Word) {j : Nat} (hj : j < 32) :
    (writeWps num old (low32 v) (low32 m)).getLsbD j = if j = 16 then exchanged true (sext32 old) v m j
      else old.getLsbD j && !(decide (j < num) && m.getLsbD j && v.getLsbD j) := by
  have hmix : (mix old (low32 v) (low32 m)).getLsbD 16 = exchanged true (sext32 old) v m 16 := by
    rw [mix_getLsbD, low32_getLsbD, low32_getLsbD, exchanged_eq, sext32_getLsbD _ (by decide)]
    rfl
  rw [writeWps, putBit_get _ _ _ _ hj, hmix]
  by_cases h16 : j = 16
  · rw [if_pos h16, if_pos h16, h16]
  · rw [if_neg h16, if_neg h16, BitVec.getLsbD_and, BitVec.getLsbD_not, BitVec.getLsbD_and, BitVec.getLsbD_and,
      low32_getLsbD, low32_getLsbD, low32_getLsbD, lowMask_getLsbD _ _ (by omega), decide_eq_true hj]
    cases v.getLsbD j <;> cases m.getLsbD j <;> simp

/-! ## The view of the interrupts -/

/-- ESTAT reads alike at a bit where its own bits and the pending bits agree. -/
theorem csrRead_estat_congr {s u : State} (h : u.csr.estat = s.csr.estat) {j : Nat} (hj : j < 64)
    (hbits : 2 ≤ j → j < 13 → u.isBits.getLsbD j = s.isBits.getLsbD j) :
    (u.csrRead .estat).getLsbD j = (s.csrRead .estat).getLsbD j := by
  by_cases h32 : j < 32
  · rw [csrRead_estat_getLsbD u h32, csrRead_estat_getLsbD s h32, h]
    split
    · exact hbits (by omega) (by omega)
    · rfl
  · have high (s : State) : (s.csrRead .estat).getLsbD j = s.csr.estat.getLsbD 31 := by
      rw [csrRead_estat, sext32_getLsbD _ hj, Nat.min_eq_right (by omega), putBits_other _ _ (by omega)]
    rw [high, high, h]

/-- The pending bits, but PMI and TI, are those of the lines. -/
theorem isBits_congr {s u : State} (h : u.extIrq = s.extIrq) {j : Nat} (h2 : 2 ≤ j) (h13 : j < 13)
    (hpmi : j = 10 → u.pmi = s.pmi) (hti : j = 11 → u.timer.ti = s.timer.ti) :
    u.isBits.getLsbD j = s.isBits.getLsbD j := by
  obtain ⟨-, -, hline, h10, h11, h12⟩ := isBits_getLsbD u
  obtain ⟨-, -, hline', h10', h11', h12'⟩ := isBits_getLsbD s
  by_cases h8 : j < 10
  · obtain ⟨k, rfl⟩ := Nat.exists_eq_add_of_le h2
    rw [hline k (by omega), hline' k (by omega), h]
  · obtain rfl | rfl | rfl : j = 10 ∨ j = 11 ∨ j = 12 := by omega
    · rw [h10, h10', hpmi rfl]
    · rw [h11, h11', hti rfl]
    · rw [h12, h12', h]

/-! ## By number -/

/-- Writing the register does not change what reading delivers. -/
theorem csrReadNum_setGr_advance (u : State) (rd : Reg) (x : Word) (n : BitVec 14) :
    (u.setGr rd x).advance.csrReadNum n = u.csrReadNum n := by
  rw [State.setGr]
  split <;> rfl

/-- The registers that only read. -/
def readOnlyCsrs : List CsrId :=
  [.badi, .pgd, .cpuid, .prcfg1, .prcfg2, .prcfg3, .tval, .merrinfo1, .merrinfo2, .mwpc, .fwpc, .dbg]

theorem csrWrite_readOnly {s : State} {id : CsrId} (h : id ∈ readOnlyCsrs) (v m : Word) : s.csrWrite id v m = .ok s := by
  simp only [readOnlyCsrs, List.mem_cons, List.not_mem_nil, or_false] at h
  obtain rfl | rfl | rfl | rfl | rfl | rfl | rfl | rfl | rfl | rfl | rfl | rfl := h <;> rfl

section
variable {s u : State} {id : CsrId} {csr : BitVec 14} {v m : Word} (hid : csrOfNum s.cfg csr = some id)
  (hu : s.csrWrite id v m = .ok u)

include hid in
theorem csrId_eq (id' : CsrId) (h : csr = BitVec.ofNat 14 id'.num) : id = id' := by
  refine CsrId.num_injective ((csrOfNum_eq_some_iff.1 hid).1.symm.trans ?_)
  rw [h]
  exact Nat.mod_eq_of_lt id'.num_lt

include hid in
theorem num_eq (id' : CsrId) (h : id = id') : csr = BitVec.ofNat 14 id'.num :=
  BitVec.eq_of_toNat_eq (by
    rw [(csrOfNum_eq_some_iff.1 hid).1, h]
    exact (Nat.mod_eq_of_lt id'.num_lt).symm)

include hid hu in
theorem csrReadNum_readOnly (h : csr ∈ readOnlyCsrs.map fun id => BitVec.ofNat 14 id.num) :
    u.csrReadNum csr = s.csrReadNum csr := by
  obtain ⟨id', hid', hnum⟩ := List.mem_map.1 h
  rw [← csrId_eq hid id' hnum.symm] at hid'
  rw [Except.ok.inj (hu.symm.trans (csrWrite_readOnly hid' v m))]

include hu in
theorem csrWrite_cfg : u.cfg = s.cfg := by rw [csrWrite_rest hu]

include hid hu in
theorem csrReadNum_other {n : BitVec 14} (hne : n ≠ csr)
    (hpgd : n = 0x1B#14 → csr ∉ [0x7#14, 0x19#14, 0x1A#14, 0x89#14, 0x8A#14])
    (hestat : n = 0x5#14 → csr ≠ 0x44#14 ∧ (csr.toNat < 0x200 ∨ 0x240 ≤ csr.toNat))
    (htval : n = 0x42#14 → csr ≠ 0x41#14) : u.csrReadNum n = s.csrReadNum n := by
  have hcfg := csrWrite_cfg hu
  cases hn : csrOfNum s.cfg n with
  | none => rw [csrReadNum_of_none hn, csrReadNum_of_none (hcfg ▸ hn)]
  | some id' =>
    have hne' : id' ≠ id := fun h => hne (by rw [num_eq hn id h, num_eq hid id rfl])
    rw [csrReadNum_of_some hn, csrReadNum_of_some (hcfg ▸ hn)]
    by_cases h1 : id' = .pgd
    case pos =>
      subst h1
      refine (csrWrite_readsKept hu).pgd fun hmem => hpgd (num_eq hn .pgd rfl) ?_
      rw [num_eq hid id rfl]
      exact List.mem_map_of_mem (f := fun id : CsrId => BitVec.ofNat 14 id.num) hmem
    by_cases h2 : id' = .estat
    case pos =>
      subst h2
      obtain ⟨hticlr, hpm⟩ := hestat (num_eq hn .estat rfl)
      have hnum := (csrOfNum_eq_some_iff.1 hid).1
      refine (csrWrite_readsKept hu).estat hne'.symm (fun h => hticlr (num_eq hid .ticlr h)) fun k =>
        ⟨fun h => ?_, fun h => ?_⟩
      · have hval : csr.toNat = 0x200 + 2 * k := hnum.trans (congrArg CsrId.num h)
        omega
      · have hval : csr.toNat = 0x201 + 2 * k := hnum.trans (congrArg CsrId.num h)
        omega
    by_cases h3 : id' = .tval
    case pos =>
      subst h3
      exact (csrWrite_readsKept hu).tval fun h => htval (num_eq hn .tval rfl) (num_eq hid .tcfg h)
    exact (csrWrite_readsKept hu).field id' hne' h1 h2 h3

end

end Sys2Proof.Machine
end

section
/-!
The exchange of CSRWR and CSRXCHG, register by register.
-/

namespace Sys2Proof.Machine

section
variable {s u : State} {id : CsrId} {csr : BitVec 14} {v m : Word} (hid : csrOfNum s.cfg csr = some id)
  (hu : s.csrWrite id v m = .ok u)

include hid in
theorem csrReadNum_before : s.csrReadNum csr = s.csrRead id := csrReadNum_of_some hid

include hid hu in
theorem csrReadNum_after : u.csrReadNum csr = u.csrRead id := csrReadNum_of_some (csrWrite_cfg hu ▸ hid)

include hid hu in
/-- TVAL after a write of TCFG: the timer starts at the written count where En is 1 (R161, R876). -/
theorem tval_after_tcfg (h : csr = 0x41#14) : u.csrReadNum 0x42#14 =
    if (u.csrReadNum 0x41#14).getLsbD 0 then u.csrReadNum 0x41#14 &&& ~~~3#64 else s.csrReadNum 0x42#14 := by
  obtain rfl := csrId_eq hid .tcfg h
  have hcfg := csrWrite_cfg hu
  have htval : csrOfNum s.cfg 0x42#14 = some .tval :=
    csrOfNum_eq_some_iff.2 ⟨rfl, (csrOfNum_eq_some_iff.1 hid).2⟩
  rw [csrReadNum_of_some htval, csrReadNum_of_some (hcfg ▸ htval), ← h, csrReadNum_after hid hu]
  cases hu
  simp only [csrRead_tcfg, csrRead_tval, TimerState.writeTcfg]
  split <;> rfl

theorem estat_always (s : State) : s.csrReadNum 0x5#14 = s.csrRead .estat := csrReadNum_always (n := 0x5) .estat rfl rfl

include hid hu in
/-- TICLR reads 0 and clears the timer interrupt (R164). -/
theorem estat_after_ticlr (h : csr = 0x44#14) : u.csrReadNum csr = 0#64 ∧ ∀ j < 64,
    (u.csrReadNum 0x5#14).getLsbD j =
      ((s.csrReadNum 0x5#14).getLsbD j && !(decide (j = 11) && m.getLsbD 0 && v.getLsbD 0)) := by
  obtain rfl := csrId_eq hid .ticlr h
  refine ⟨csrReadNum_after hid hu, fun j hj => ?_⟩
  have hbit : (low32 v &&& low32 m).getLsbD 0 = (m.getLsbD 0 && v.getLsbD 0) := by
    rw [BitVec.getLsbD_and, low32_getLsbD, low32_getLsbD, Bool.and_comm]
    rfl
  rw [State.csrWrite, hbit] at hu
  obtain rfl := Except.ok.inj hu
  rw [estat_always, estat_always, Bool.and_assoc]
  by_cases hclear : (m.getLsbD 0 && v.getLsbD 0) = true
  case neg =>
    rw [if_neg hclear, Bool.eq_false_iff.2 hclear, Bool.and_false, Bool.not_false, Bool.and_true]
  rw [if_pos hclear, hclear, Bool.and_true]
  by_cases h11 : j = 11
  case neg =>
    rw [decide_eq_false h11, Bool.not_false, Bool.and_true]
    refine csrRead_estat_congr ?_ hj fun h2 h13 => isBits_congr ?_ h2 h13 (fun _ => ?_) fun h => absurd h h11
    all_goals rfl
  subst h11
  obtain ⟨-, -, -, -, hti, -⟩ := isBits_getLsbD { s with timer := { s.timer with ti := false } }
  rw [csrRead_estat_getLsbD _ (by decide), if_pos (by decide), hti]
  exact (Bool.and_false _).symm

/-- The numbers of the monitors. -/
theorem csrId_monitor {id : CsrId} (h : 0x200 ≤ id.num) (h' : id.num < 0x240) :
    ∃ k, id = .pmcfg k ∨ id = .pmcnt k := by
  refine ⟨⟨(id.num - 0x200) / 2, by omega⟩, ?_⟩
  obtain heven | hodd := Nat.mod_two_eq_zero_or_one id.num
  · exact .inl (CsrId.num_injective (show id.num = 0x200 + 2 * ((id.num - 0x200) / 2) by omega))
  · exact .inr (CsrId.num_injective (show id.num = 0x201 + 2 * ((id.num - 0x200) / 2) by omega))

include hid hu in
/-- A write of a monitor is seen in ESTAT at PMI alone. -/
theorem estat_after_monitor (h : 0x200 ≤ csr.toNat) (h' : csr.toNat < 0x240) {j : Nat} (hj : j < 64) (h10 : j ≠ 10) :
    (u.csrReadNum 0x5#14).getLsbD j = (s.csrReadNum 0x5#14).getLsbD j := by
  have hnum := (csrOfNum_eq_some_iff.1 hid).1
  rw [hnum] at h h'
  rw [estat_always, estat_always]
  obtain ⟨k, rfl | rfl⟩ := csrId_monitor h h'
  all_goals
    obtain rfl := Except.ok.inj hu
    refine csrRead_estat_congr ?_ hj fun h2 h13 => isBits_congr ?_ h2 h13 (fun h => absurd h h10) fun _ => ?_
    all_goals rfl

include hid hu in
/-- TLBEHI and TLBREHI keep VPPN, sign-extended, and TLBREHI its page size. -/
theorem vppn_after (h : csr = 0x11#14 ∨ csr = 0x8E#14) (hv : 14 ≤ s.cfg.valen) (hv' : s.cfg.valen ≤ 64) {j : Nat}
    (hj : j < 64) : (u.csrReadNum csr).getLsbD j =
      if j < 6 then csr == 0x8E#14 && exchanged true (s.csrReadNum csr) v m j
      else decide (13 ≤ j) && (if s.cfg.la64 then exchanged true (s.csrReadNum csr) v m (min j (s.cfg.valen - 1))
        else decide (j < 32) && exchanged true (s.csrReadNum csr) v m j) := by
  rw [csrReadNum_after hid hu, csrReadNum_before hid]
  obtain rfl | rfl := h
  · obtain rfl := csrId_eq hid .tlbehi rfl
    cases hu
    have hbit := vppnWrite_getLsbD hv hv' false s.mmu.tlbehi v m hj
    rw [if_neg (by decide), BitVec.or_zero] at hbit
    exact hbit
  · obtain rfl := csrId_eq hid .tlbrehi rfl
    cases hu
    exact vppnWrite_getLsbD hv hv' true s.mmu.tlbrehi v m hj

include hid hu in
/-- LLBCTL: WCLLB clears LLbit, KLO takes what is written, ROLLB shows LLbit (R42). -/
theorem llbctl_after (h : csr = 0x60#14) : u.llbit = (s.llbit && !(m.getLsbD 1 && v.getLsbD 1)) ∧
    ∀ j < 32, (u.csrReadNum csr).getLsbD j =
      if j = 0 then u.llbit else if j = 1 then false else exchanged (decide (j = 2)) (s.csrReadNum csr) v m j := by
  obtain rfl := csrId_eq hid .llbctl h
  rw [csrReadNum_after hid hu, csrReadNum_before hid]
  obtain rfl := Except.ok.inj hu
  refine ⟨?_, fun j hj => ?_⟩
  · rw [BitVec.getLsbD_and, low32_getLsbD, low32_getLsbD, Bool.and_comm (m.getLsbD 1)]
    rfl
  have hmask : (4#32).getLsbD j = decide (j = 2) := by
    have : ∀ j < 32, (4#32).getLsbD j = decide (j = 2) := by decide
    exact this j hj
  rw [csrRead_llbctl, csrRead_llbctl, sext32_getLsbD _ (by omega), Nat.min_eq_left (by omega), putBit_get _ _ _ _ hj,
    putBit_get _ _ _ _ hj]
  by_cases h0 : j = 0
  · rw [if_neg (by omega), if_pos h0, if_pos h0]
  by_cases h1 : j = 1
  · rw [if_pos h1, if_neg h0, if_pos h1]
  rw [if_neg h1, if_neg h0, if_neg h0, if_neg h1, mix_low32_getLsbD _ _ _ _ hj, hmask, exchanged_eq, exchanged_eq,
    sext32_getLsbD _ (by omega), sext32_getLsbD _ (by omega), Nat.min_eq_left (by omega), putBit_get _ _ _ _ hj,
    putBit_get _ _ _ _ hj, if_neg h1, if_neg h0]

include hid hu in
/-- MWPS and FWPS: a 1 clears a status bit, Skip takes what is written (R202, R211). -/
theorem wps_after {num : Nat}
    (h : (csr = 0x301#14 ∧ num = s.cfg.mwpNum) ∨ (csr = 0x381#14 ∧ num = s.cfg.fwpNum)) {j : Nat} (hj : j < 32) :
    (u.csrReadNum csr).getLsbD j = if j = 16 then exchanged true (s.csrReadNum csr) v m j
      else (s.csrReadNum csr).getLsbD j && !(decide (j < num) && m.getLsbD j && v.getLsbD j) := by
  have read (num : Nat) (old : BitVec 32) (hb : u.csrRead id = sext32 (writeWps num old (low32 v) (low32 m)))
      (ha : s.csrRead id = sext32 old) : (u.csrRead id).getLsbD j = if j = 16 then exchanged true (s.csrRead id) v m j
        else (s.csrRead id).getLsbD j && !(decide (j < num) && m.getLsbD j && v.getLsbD j) := by
    rw [hb, ha, sext32_getLsbD _ (by omega), sext32_getLsbD _ (by omega), Nat.min_eq_left (by omega),
      writeWps_getLsbD _ _ _ _ hj]
  rw [csrReadNum_after hid hu, csrReadNum_before hid]
  obtain ⟨rfl, rfl⟩ | ⟨rfl, rfl⟩ := h
  · obtain rfl := csrId_eq hid .mwps rfl
    cases hu
    exact read _ _ rfl rfl
  · obtain rfl := csrId_eq hid .fwps rfl
    cases hu
    exact read _ _ rfl rfl

end

/-- Settles O46: the exchange completes, and each clause is read off the write of its register. -/
theorem csrExchangeReadsBack : Obligations.CsrExchangeReadsBack := by
  intro rd rj csr i m hi s hp himpl hecfg hrva
  obtain ⟨id, hid⟩ := Option.isSome_iff_exists.1 himpl
  obtain ⟨u, hu⟩ := csrWrite_accepted (accepts_of_num hecfg hrva id hid)
  have hwrite : s.csrWriteNum csr (s.getGr rd) (m s) = .ok u := by
    rw [State.csrWriteNum, hid]
    exact hu
  obtain ⟨t, ht, hgr, -⟩ := csrSwap_frame hwrite
  obtain rfl : (u.setGr rd (s.csrReadNum csr)).advance = t :=
    Host.Outcome.next.inj ((csrSwap_of_write hwrite).symm.trans ht)
  have hllbit : (u.setGr rd (s.csrReadNum csr)).advance.llbit = u.llbit := by simp
  refine ⟨_, (exec_csrSwap hi hp).trans ht, hgr, ?_⟩
  simp only [csrReadNum_setGr_advance, hllbit]
  refine ⟨csrReadNum_readOnly hid hu, fun n => csrReadNum_other hid hu, tval_after_tcfg hid hu, ?ticlr,
    fun h h' j hj => estat_after_monitor hid hu h h' hj, ?_⟩
  case ticlr =>
    intro h
    subst h
    exact estat_after_ticlr hid hu rfl
  rintro _ rfl
  refine ⟨fun b32 w hmem => ?plain, fun h hv hv' j hj => vppn_after hid hu h hv hv' hj, llbctl_after hid hu,
    fun num h j hj => wps_after hid hu h hj⟩
  rw [csrReadNum_after hid hu, csrReadNum_before hid]
  exact plainCsrs_readBack s _ hmem id _ _ u (csrOfNum_eq_some_iff.1 hid).1.symm hu

end Sys2Proof.Machine
end

section
/-!
Rounding a magnitude to a multiple of a power of two (R647, R714): what `Exact.roundAt` delivers, as a relation between
a number of an ordered field and a natural number, and the conversions to integers.
-/

namespace Sys2Proof.Machine

/-! ## The rounding of a magnitude -/

section
variable {K : Type} [Field K] [LinearOrder K] [IsStrictOrderedRing K]

/-- `n` is the integer not above `y`, next to it. -/
def TruncatesTo (y : K) (n : Nat) : Prop := (n : K) ≤ y ∧ y < n + 1

/-- `n` is the integer not below `y`, next to it. -/
def AwayTo (y : K) (n : Nat) : Prop := y ≤ n ∧ (n : K) < y + 1

/-- `n` is the rounding of the magnitude `y` of a number of sign `neg`. -/
def RoundsMag (rm : Rounding) (neg : Bool) (y : K) (n : Nat) : Prop :=
  match rm with
  | .even => |(n : K) - y| ≤ 1 / 2 ∧ (|(n : K) - y| = 1 / 2 → n % 2 = 0)
  | .zero => TruncatesTo y n
  | .up => if neg then TruncatesTo y n else AwayTo y n
  | .down => if neg then AwayTo y n else TruncatesTo y n

/-- The magnitude `Q` is the one that `x` stands for. -/
def Exact.Is (x : Exact) (Q : K) : Prop :=
  if x.sticky then (x.m : K) * 2 ^ x.e < Q ∧ Q < (x.m + 1) * 2 ^ x.e else Q = x.m * 2 ^ x.e

theorem roundsMag_exact (rm : Rounding) (neg : Bool) (n : Nat) : RoundsMag rm neg (n : K) n := by
  have htrunc : TruncatesTo (n : K) n := ⟨le_rfl, lt_add_one _⟩
  have haway : AwayTo (n : K) n := ⟨le_rfl, lt_add_one _⟩
  cases rm with
  | even => simp [RoundsMag]
  | zero => exact htrunc
  | up => cases neg <;> assumption
  | down => cases neg <;> assumption

theorem RoundsMag.bounds {rm : Rounding} {neg : Bool} {y : K} {n : Nat} (h : RoundsMag rm neg y n) :
    (n : K) - 1 < y ∧ y < n + 1 := by
  have htrunc (h : TruncatesTo y n) : (n : K) - 1 < y ∧ y < n + 1 := ⟨by linarith [h.1], h.2⟩
  have haway (h : AwayTo y n) : (n : K) - 1 < y ∧ y < n + 1 := ⟨by linarith [h.2], by linarith [h.1]⟩
  cases rm with
  | even =>
    obtain ⟨hlow, hhigh⟩ := abs_le.1 h.1
    constructor <;> linarith
  | zero => exact htrunc h
  | up => cases neg with
    | false => exact haway h
    | true => exact htrunc h
  | down => cases neg with
    | false => exact htrunc h
    | true => exact haway h

/-- Rounding does not pass an integer. -/
theorem RoundsMag.le_of_le {rm : Rounding} {neg : Bool} {y : K} {n k : Nat} (h : RoundsMag rm neg y n)
    (hk : (k : K) ≤ y) : k ≤ n := by
  have := h.bounds.2
  exact Nat.lt_succ_iff.1 (by exact_mod_cast hk.trans_lt this)

theorem RoundsMag.le_of_ge {rm : Rounding} {neg : Bool} {y : K} {n k : Nat} (h : RoundsMag rm neg y n)
    (hk : y ≤ k) : n ≤ k := by
  have hlt : (n : K) < k + 1 := by linarith [h.bounds.1]
  exact Nat.lt_succ_iff.1 (by exact_mod_cast hlt)

/-- A cut of `y` at the integer `n`: `rest` compares with 0 and with `unit` as the part cut off does with 0 and a
half. -/
structure CutAt (y : K) (n rest unit : Nat) : Prop where
  low : (n : K) ≤ y
  high : y < n + 1
  gt_half : unit < rest ↔ 1 / 2 < y - n
  half : rest = unit ↔ y - n = 1 / 2
  zero : rest = 0 ↔ y = n

section
variable {y : K} {n rest unit : Nat} (h : CutAt y n rest unit) (rm : Rounding) (neg : Bool)
include h

omit [IsStrictOrderedRing K] in
theorem CutAt.trunc : TruncatesTo y n := ⟨h.low, h.high⟩

/-- Away from zero unless nothing is cut off. -/
theorem CutAt.away : AwayTo y (if rest != 0 then n + 1 else n) := by
  by_cases hz : rest = 0
  · simp [hz, AwayTo, h.zero.1 hz]
  · have hne : y ≠ n := fun hy => hz (h.zero.2 hy)
    have hlt : (n : K) < y := lt_of_le_of_ne h.low hne.symm
    rw [if_pos (by simpa using hz)]
    refine ⟨?_, ?_⟩ <;> push_cast <;> linarith [h.high]

theorem CutAt.rounds : RoundsMag rm neg y (if roundsAway rm neg (n % 2 == 1) rest unit then n + 1 else n) := by
  have hlow := h.low
  have hhigh := h.high
  cases rm with
  | zero => exact h.trunc
  | up => cases neg with
    | true => simpa [RoundsMag, roundsAway] using h.trunc
    | false => simpa [RoundsMag, roundsAway] using h.away
  | down => cases neg with
    | true => simpa [RoundsMag, roundsAway] using h.away
    | false => simpa [RoundsMag, roundsAway] using h.trunc
  | even =>
    obtain hlt | heq | hgt := lt_trichotomy (y - n) (1 / 2)
    · have hunit : roundsAway .even neg (n % 2 == 1) rest unit = false := by
        simp [roundsAway, mt h.gt_half.1 hlt.not_gt, mt h.half.1 hlt.ne]
      have habs : |(n : K) - y| < 1 / 2 := abs_lt.2 ⟨by linarith, by linarith⟩
      rw [hunit]
      exact ⟨habs.le, fun he => absurd he habs.ne⟩
    · have hunit : roundsAway .even neg (n % 2 == 1) rest unit = (n % 2 == 1) := by
        simp [roundsAway, h.half.2 heq]
      rw [hunit]
      by_cases hodd : n % 2 = 1
      · rw [if_pos (by simpa using hodd)]
        have habs : |((n + 1 : Nat) : K) - y| = 1 / 2 := by
          rw [abs_of_nonneg] <;> push_cast <;> linarith
        exact ⟨habs.le, fun _ => by omega⟩
      · rw [if_neg (by simpa using hodd)]
        have habs : |(n : K) - y| = 1 / 2 := by rw [abs_of_nonpos] <;> linarith
        exact ⟨habs.le, fun _ => by omega⟩
    · have hunit : roundsAway .even neg (n % 2 == 1) rest unit = true := by simp [roundsAway, h.gt_half.2 hgt]
      have habs : |((n + 1 : Nat) : K) - y| < 1 / 2 := abs_lt.2 (by push_cast; constructor <;> linarith)
      rw [hunit]
      exact ⟨habs.le, fun he => absurd he habs.ne⟩

/-- The result differs from the number exactly when something is cut off. -/
theorem CutAt.inexact (hunit : 0 < unit) :
    rest ≠ 0 ↔ ((if roundsAway rm neg (n % 2 == 1) rest unit then n + 1 else n : Nat) : K) ≠ y := by
  by_cases hz : rest = 0
  · have hstay : roundsAway rm neg (n % 2 == 1) rest unit = false := by
      cases rm <;> simp [roundsAway, hz, hunit.ne]
    simp [← hz, hstay, h.zero.1 hz]
  · have hne : y ≠ n := fun hy => hz (h.zero.2 hy)
    refine iff_of_true hz ?_
    split
    · exact fun he => by push_cast at he; linarith [h.high]
    · exact hne.symm

end

/-- Cutting at a multiple of `u` times the unit. -/
theorem cutAt_of {z y : K} {m u : Nat} {sticky : Bool} (hu : 0 < u) (heven : u % 2 = 0) (hy : y * u = z)
    (hz : if sticky then (m : K) < z ∧ z < m + 1 else z = m) :
    CutAt y (m / u) (2 * (m % u) + if sticky then 1 else 0) u := by
  have hu' : (0 : K) < u := by exact_mod_cast hu
  have hm : (m : K) = u * (m / u : Nat) + (m % u : Nat) := by exact_mod_cast (Nat.div_add_mod m u).symm
  have hlt : m % u < u := Nat.mod_lt _ hu
  have hlt' : ((m % u : Nat) : K) + 1 ≤ u := by exact_mod_cast hlt
  have hrest : (0 : K) ≤ ((m % u : Nat) : K) := Nat.cast_nonneg _
  generalize hρ : m % u = ρ at *
  generalize m / u = n at *
  have hcut : z - u * n = (y - n) * u := by rw [sub_mul, hy, mul_comm]
  have hgt : 1 / 2 < y - n ↔ (u : K) < 2 * (z - u * n) := by
    rw [hcut, ← mul_assoc, lt_mul_iff_one_lt_left hu', div_lt_iff₀' two_pos]
  have heq : y - n = 1 / 2 ↔ (u : K) = 2 * (z - u * n) := by
    rw [hcut, ← mul_assoc, right_eq_mul₀ hu'.ne', eq_div_iff two_ne_zero, mul_comm]
  have hlow : n ≤ y ↔ 0 ≤ z - u * n := by rw [hcut, mul_nonneg_iff_of_pos_right hu', sub_nonneg]
  have hhigh : y < n + 1 ↔ z - u * n < u := by rw [hcut, mul_lt_iff_lt_one_left hu', sub_lt_iff_lt_add']
  have hzero : y = n ↔ z - u * n = 0 := by rw [hcut, mul_eq_zero_iff_right hu'.ne', sub_eq_zero]
  cases sticky with
  | false =>
    have hz' : z - u * n = ρ := by rw [if_neg (by decide)] at hz; rw [hz, hm]; ring
    rw [hz'] at hgt heq hlow hhigh hzero
    refine ⟨hlow.2 hrest, hhigh.2 (by linarith), ?_, ?_, ?_⟩
    · rw [hgt]; simp only [Bool.false_eq_true, if_false, add_zero]; exact_mod_cast Iff.rfl
    · rw [heq]; simp only [Bool.false_eq_true, if_false, add_zero, eq_comm (b := u)]; exact_mod_cast Iff.rfl
    · rw [hzero]; simp
  | true =>
    rw [if_pos rfl] at hz
    have h1 : (ρ : K) < z - u * n := by linarith [hz.1]
    have h2 : z - u * n < ρ + 1 := by linarith [hz.2]
    have hpos : (0 : K) < z - u * n := hrest.trans_lt h1
    refine ⟨hlow.2 hpos.le, hhigh.2 (h2.trans_le hlt'), ?_, ?_, (iff_of_false (Nat.succ_ne_zero _) (mt hzero.1 hpos.ne'))⟩
    all_goals obtain hle | hle : u ≤ 2 * ρ ∨ 2 * ρ + 2 ≤ u := by omega
    · have hle' : (u : K) ≤ 2 * ρ := by exact_mod_cast hle
      exact iff_of_true (Nat.lt_succ_of_le hle) (hgt.2 (by linarith))
    · have hle' : 2 * (ρ : K) + 2 ≤ u := by exact_mod_cast hle
      exact iff_of_false (Nat.not_lt.2 (Nat.le_of_succ_le hle)) fun h => by linarith [hgt.1 h]
    · have hle' : (u : K) ≤ 2 * ρ := by exact_mod_cast hle
      exact iff_of_false (Nat.lt_succ_of_le hle).ne' fun h => by linarith [heq.1 h]
    · have hle' : 2 * (ρ : K) + 2 ≤ u := by exact_mod_cast hle
      exact iff_of_false (Nat.lt_of_succ_le hle).ne fun h => by linarith [heq.1 h]

theorem two_zpow_pos (e : Int) : (0 : K) < 2 ^ e := by positivity

/-- Rounding to a multiple of `2^q`, where what is cut off stands below `q`. -/
theorem roundAt_spec {x : Exact} {Q : K} (h : x.Is Q) (rm : Rounding) {q : Int} (hq : x.sticky = true → x.e < q) :
    RoundsMag rm x.neg (Q / 2 ^ q) (x.roundAt rm q).1 ∧
      ((x.roundAt rm q).2 = true ↔ ((x.roundAt rm q).1 : K) ≠ Q / 2 ^ q) := by
  unfold Exact.Is at h
  by_cases hle : q ≤ x.e
  · have hs : x.sticky = false := by
      rw [Bool.eq_false_iff]
      exact fun hs => absurd (hq hs) (by omega)
    rw [hs, if_neg (by decide)] at h
    have hy : Q / 2 ^ q = ((x.m * 2 ^ (x.e - q).toNat : Nat) : K) := by
      rw [h, mul_div_assoc, ← zpow_sub₀ two_ne_zero]
      push_cast
      rw [← zpow_natCast, Int.toNat_of_nonneg (by omega)]
    have hr : x.roundAt rm q = (x.m * 2 ^ (x.e - q).toNat, false) := by rw [Exact.roundAt, if_pos hle, hs]
    rw [hr, hy]
    exact ⟨roundsMag_exact _ _ _, by simp⟩
  · obtain ⟨d, hd⟩ : ∃ d : Nat, (q - x.e).toNat = d + 1 := ⟨(q - x.e).toNat - 1, by omega⟩
    have hpow : (2 : K) ^ q = 2 ^ x.e * ((2 ^ (d + 1) : Nat) : K) := by
      push_cast
      rw [← zpow_natCast, ← zpow_add₀ two_ne_zero]
      congr 1
      push_cast
      omega
    have hpos : (0 : K) < 2 ^ x.e := two_zpow_pos _
    have hu : (0 : K) < ((2 ^ (d + 1) : Nat) : K) := by positivity
    have hcut : CutAt (Q / 2 ^ q) (x.m / 2 ^ (d + 1)) (2 * (x.m % 2 ^ (d + 1)) + if x.sticky then 1 else 0)
        (2 ^ (d + 1)) := by
      refine cutAt_of (z := Q / 2 ^ x.e) (by positivity) (by rw [pow_succ]; omega) ?_ ?_
      · rw [hpow]
        field_simp
      · cases hs : x.sticky with
        | false =>
          rw [hs, if_neg (by decide)] at h
          rw [if_neg (by decide), h]
          field_simp
        | true =>
          rw [hs, if_pos rfl] at h
          rw [if_pos rfl, lt_div_iff₀ hpos, div_lt_iff₀ hpos]
          exact h
    have hr : x.roundAt rm q = (if roundsAway rm x.neg (x.m / 2 ^ (d + 1) % 2 == 1)
        (2 * (x.m % 2 ^ (d + 1)) + if x.sticky then 1 else 0) (2 ^ (d + 1)) then x.m / 2 ^ (d + 1) + 1
        else x.m / 2 ^ (d + 1), (2 * (x.m % 2 ^ (d + 1)) + if x.sticky then 1 else 0) != 0) := by
      rw [Exact.roundAt, if_neg hle, hd]
    rw [hr]
    exact ⟨hcut.rounds rm x.neg, bne_iff_ne.trans (hcut.inexact rm x.neg (by positivity))⟩

end

/-! ## Rounding to an integer -/

theorem integerOf_even {q : ℚ} {k : Int} (h : |(k : ℚ) - q| ≤ 1 / 2) (htie : |(k : ℚ) - q| = 1 / 2 → k % 2 = 0) :
    integerOf .even q = k := by
  obtain ⟨hlow, hhigh⟩ := abs_le.1 h
  have hdef : integerOf .even q = if q - ⌊q⌋ < 1 / 2 then ⌊q⌋ else if 1 / 2 < q - ⌊q⌋ then ⌊q⌋ + 1
      else if ⌊q⌋ % 2 = 0 then ⌊q⌋ else ⌊q⌋ + 1 := rfl
  rw [hdef]
  obtain hkq | hkq := le_or_gt (k : ℚ) q
  · have hfloor : ⌊q⌋ = k := Int.floor_eq_iff.2 ⟨hkq, by linarith⟩
    rw [hfloor]
    by_cases hlt : q - k < 1 / 2
    · rw [if_pos hlt]
    · have habs : |(k : ℚ) - q| = 1 / 2 := by rw [abs_of_nonpos] <;> linarith
      rw [if_neg hlt, if_neg (by linarith), if_pos (htie habs)]
  · have hfloor : ⌊q⌋ = k - 1 := Int.floor_eq_iff.2 (by push_cast; constructor <;> linarith)
    rw [hfloor]
    push_cast
    rw [if_neg (by linarith)]
    by_cases hgt : 1 / 2 < q - (k - 1)
    · rw [if_pos hgt, Int.sub_add_cancel]
    · have habs : |(k : ℚ) - q| = 1 / 2 := by rw [abs_of_pos] <;> linarith
      have := htie habs
      rw [if_neg hgt, if_neg (by omega), Int.sub_add_cancel]

theorem floor_of_truncatesTo {y : ℚ} {n : Nat} (h : TruncatesTo y n) : ⌊y⌋ = (n : Int) :=
  Int.floor_eq_iff.2 ⟨by exact_mod_cast h.1, by exact_mod_cast h.2⟩

theorem ceil_of_awayTo {y : ℚ} {n : Nat} (h : AwayTo y n) : ⌈y⌉ = (n : Int) :=
  Int.ceil_eq_iff.2 ⟨by push_cast; linarith [h.2], by exact_mod_cast h.1⟩

/-- A number of sign `neg`. -/
def signed (neg : Bool) (y : ℚ) : ℚ := if neg then -y else y

/-- The rounding of a number is the rounding of its magnitude, with its sign. -/
theorem integerOf_signed {rm : Rounding} {neg : Bool} {y : ℚ} {n : Nat} (hy : 0 ≤ y) (h : RoundsMag rm neg y n) :
    integerOf rm (signed neg y) = if neg then -(n : Int) else n := by
  cases rm with
  | even =>
    have habs : |(((if neg then -(n : Int) else n : Int) : ℚ)) - signed neg y| = |(n : ℚ) - y| := by
      cases neg with
      | false => simp [signed]
      | true =>
        rw [signed, if_pos rfl, if_pos rfl]
        push_cast
        rw [neg_sub_neg, abs_sub_comm]
    refine integerOf_even (habs.trans_le h.1) fun htie => ?_
    have := h.2 (habs.symm.trans htie)
    split <;> omega
  | zero =>
    have hfloor := floor_of_truncatesTo h
    cases neg with
    | false => simpa [integerOf, signed, hy.not_gt] using hfloor
    | true =>
      by_cases h0 : y = 0
      · simp [integerOf, signed, h0] at hfloor ⊢
        exact_mod_cast hfloor.symm
      · have hpos : 0 < y := lt_of_le_of_ne hy (Ne.symm h0)
        simp [integerOf, signed, hpos, Int.ceil_neg, hfloor]
  | up =>
    cases neg with
    | false => simpa [integerOf, signed] using ceil_of_awayTo h
    | true => simp [integerOf, signed, Int.ceil_neg, floor_of_truncatesTo h]
  | down =>
    cases neg with
    | false => simpa [integerOf, signed] using floor_of_truncatesTo h
    | true => simp [integerOf, signed, Int.floor_neg, ceil_of_awayTo h]

end Sys2Proof.Machine
end

section
/-!
The conversions to integers (R710-R730).
-/

namespace Sys2Proof.Machine

/-! ## Conversion to an integer -/

section
variable (f : Fmt) (x : Word)

/-- A finite datum as a number to round. -/
def Fmt.exactOf : Exact := ⟨f.sign x, f.sig x, f.expo x, false⟩

theorem exactOf_is : (f.exactOf x).Is ((f.sig x : ℚ) * 2 ^ f.expo x) := rfl

theorem value_eq_signed : f.value x = signed (f.sign x) ((f.sig x : ℚ) * 2 ^ f.expo x) := by
  rw [Fmt.value, signed]
  cases f.sign x
  · simp
  · simp

theorem isNaN_of_finite {f : Fmt} {x : Word} (h : f.Finite x) : f.isNaN x = false ∧ f.isInf x = false := by
  rw [Fmt.Finite] at h
  simp [Fmt.isNaN, Fmt.isInf, h]

/-- The integer a datum is rounded to, and whether it differs from the value. -/
theorem toInt_spec (rm : Rounding) : (f.toInt rm x).1 = integerOf rm (f.value x) ∧
    (f.toInt rm x).2 = decide ((integerOf rm (f.value x) : ℚ) ≠ f.value x) := by
  obtain ⟨hround, hflag⟩ := roundAt_spec (exactOf_is f x) rm (q := 0) nofun
  rw [zpow_zero, div_one] at hround hflag
  have hint := integerOf_signed (by positivity) hround
  have hdef : f.toInt rm x = (if f.sign x then -(((f.exactOf x).roundAt rm 0).1 : Int)
      else ((f.exactOf x).roundAt rm 0).1, ((f.exactOf x).roundAt rm 0).2) := rfl
  rw [hdef, value_eq_signed, show f.sign x = (f.exactOf x).neg from rfl, hint]
  refine ⟨rfl, Bool.eq_iff_iff.2 (hflag.trans ?_)⟩
  rw [decide_eq_true_iff, signed]
  split
  · push_cast
    rw [Ne, Ne, neg_inj]
  · push_cast
    rfl

/-- The integer has the sign of the datum. -/
theorem integerOf_value_sign (rm : Rounding) :
    ∃ k : Nat, integerOf rm (f.value x) = if f.sign x then -(k : Int) else k :=
  ⟨_, (toInt_spec f x rm).1.symm⟩

end

section
variable {f : Fmt} {sat : Bool} {n : Nat} {x : Word}

theorem invalidInt_nan (h : f.isNaN x = true) : f.invalidInt sat n x = f.invalidIs n sat x 0#64 := by
  rw [Fmt.invalidInt, Fmt.invalidIs, h]
  cases sat <;> rfl

/-- The extreme of the sign. -/
def intExtreme (neg : Bool) (n : Nat) : Int := if neg then -2 ^ (n - 1) else 2 ^ (n - 1) - 1

theorem invalidInt_extreme (h : f.isNaN x = false) :
    f.invalidInt sat n x = f.invalidIs n sat x (BitVec.ofInt 64 (intExtreme (f.sign x) n)) := by
  have hlow : -((2 ^ (n - 1) : Nat) : Int) = intExtreme true n := by rw [intExtreme, if_pos rfl]; norm_cast
  have hhigh : ((2 ^ (n - 1) - 1 : Nat) : Int) = intExtreme false n := by
    rw [intExtreme, if_neg (by decide), Nat.cast_sub Nat.one_le_two_pow]
    norm_cast
  rw [Fmt.invalidInt, Fmt.invalidIs, h, hlow, ← BitVec.ofInt_natCast _ (2 ^ (n - 1) - 1), hhigh]
  cases sat
  · rfl
  · cases f.sign x <;> rfl

/-- The conversion delivers the rounded value, or the invalid result. -/
theorem convert_toInteger (rm : Rounding) (n : Nat) (report sat : Bool) (x : Word) :
    f.ToInteger rm n report sat x (f.convert rm report sat n x) := by
  have hpow : ((2 ^ (n - 1) : Nat) : Int) = 2 ^ (n - 1) := by norm_cast
  have hpos : (0 : Int) < 2 ^ (n - 1) := by positivity
  refine ⟨fun h => ?nan, fun h => ?inf, fun h => ?finite⟩
  case nan => rw [Fmt.convert, h, Bool.true_or, if_pos rfl, invalidInt_nan h]
  case inf => rw [Fmt.convert, h, Bool.or_true, if_pos rfl, invalidInt_extreme (isNaN_of_isInf h)]; rfl
  case finite =>
    obtain ⟨hnan, hinf⟩ := isNaN_of_finite h
    obtain ⟨hint, hflag⟩ := toInt_spec f x rm
    have hdef : f.convert rm report sat n x =
        if integerOf rm (f.value x) < -2 ^ (n - 1) ∨ 2 ^ (n - 1) ≤ integerOf rm (f.value x) then
          f.invalidInt sat n x
        else ⟨BitVec.ofInt 64 (integerOf rm (f.value x)),
          excI (decide ((integerOf rm (f.value x) : ℚ) ≠ f.value x) && report)⟩ := by
      rw [Fmt.convert, hnan, hinf, ← hflag, ← hint, ← hpow]
      rfl
    obtain ⟨k, hk⟩ := integerOf_value_sign f x rm
    rw [hdef]
    refine ⟨fun hlow => ?_, fun hhigh => ?_, fun hlow hhigh => ?_⟩
    · have hs : f.sign x = true := by
        by_contra hs
        rw [if_neg hs] at hk
        omega
      rw [if_pos (.inl hlow), invalidInt_extreme hnan, hs]
      rfl
    · have hs : f.sign x = false := by
        by_contra hs
        rw [Bool.not_eq_false] at hs
        rw [if_pos hs] at hk
        omega
      rw [if_pos (.inr hhigh), invalidInt_extreme hnan, hs]
      rfl
    · rw [if_neg (by omega)]
      exact ⟨rfl, by rw [Bool.and_comm]⟩

end

/-- A form whose result is a conversion completes, traps where an enabled exception is signalled, and delivers the
rounded value. -/
theorem convertForm {i : Instr} {P : State → Prop} {f g : Fmt} {fd fj : Reg} {rm : State → Rounding} {n : Nat}
    (h : ∀ s, P s → exec i s =
      s.fpDone g fd (f.convert (rm s) s.reportInexact s.cfg.ftintInvalidSaturates n (s.getFmt f fj))) :
    ∃ r : State → FpRes, DeliversFp i P g fd r ∧ TrapsFpe i P (fun s => (r s).exc) ∧
      ∀ s, f.ToInteger (rm s) n (s.fcsr0.getLsbD 0 || s.cfg.ftintInexactAlways) s.cfg.ftintInvalidSaturates
        (s.getFmt f fj) (r s) :=
  ⟨_, deliversFp_of h, trapsFpe_of h, fun _ => convert_toInteger _ _ _ _ _⟩

/-- Settles O39: each form is a conversion. -/
theorem conversionsToIntegerRoundTheValue : Obligations.ConversionsToIntegerRoundTheValue := by
  intro fd fj
  refine ⟨?_, ?_, ?_, ?_, ?_, ?_, ?_, ?_, ?_, ?_, ?_, ?_, ?_, ?_, ?_, ?_, ?_, ?_, ?_, ?_⟩
  all_goals exact convertForm fun _ hs => fpGate_of hs _

end Sys2Proof.Machine
end

section
/-!
Correct rounding to a format (R647, R653, R654): what `Fmt.round` delivers for a positive magnitude, over the encodings
as one strictly increasing sequence of values.
-/

namespace Sys2Proof.Machine

section
variable {K : Type} [Field K] [LinearOrder K] [IsStrictOrderedRing K]

/-! ## The rounding of a magnitude to a datum -/

/-- `m` is the largest encoding not above the magnitude `Q`. -/
def Fmt.TruncatesTo (f : Fmt) (Q : K) (m : Nat) : Prop :=
  (f.magValue m : K) ≤ Q ∧ ∀ k, (f.magValue k : K) ≤ Q → k ≤ m

/-- `m` is the least encoding not below the magnitude `Q`. -/
def Fmt.AwayTo (f : Fmt) (Q : K) (m : Nat) : Prop :=
  Q ≤ (f.magValue m : K) ∧ ∀ k, Q ≤ (f.magValue k : K) → m ≤ k

/-- `m` is the nearest encoding, a tie going to an even one. -/
def Fmt.NearestTo (f : Fmt) (Q : K) (m : Nat) : Prop :=
  ∀ k, |(f.magValue m : K) - Q| ≤ |(f.magValue k : K) - Q| ∧
    (|(f.magValue m : K) - Q| = |(f.magValue k : K) - Q| → k ≠ m → m % 2 = 0)

/-- `m` is the encoding, without its sign, that the magnitude `Q` of a number of sign `neg` is rounded to. -/
def Fmt.RoundsMagTo (f : Fmt) (rm : Rounding) (neg : Bool) (Q : K) (m : Nat) : Prop :=
  match rm with
  | .even => f.NearestTo Q m
  | .zero => f.TruncatesTo Q m
  | .up => if neg then f.TruncatesTo Q m else f.AwayTo Q m
  | .down => if neg then f.AwayTo Q m else f.TruncatesTo Q m

/-- From exponent `emin + j` on the values are multiples of one unit. -/
theorem magValue_grid (f : Fmt) (j m : Nat) : (∃ N : Nat, f.magValue m = N * 2 ^ (f.emin - f.frac + j)) ∨
    (0 < j ∧ f.magValue m < 2 ^ (f.emin + j)) := by
  by_cases hj : j ≤ m / 2 ^ f.frac - 1
  · obtain ⟨d, hd⟩ := Nat.exists_eq_add_of_le hj
    left
    refine ⟨(if m / 2 ^ f.frac = 0 then m % 2 ^ f.frac else 2 ^ f.frac + m % 2 ^ f.frac) * 2 ^ d, ?_⟩
    rw [Fmt.magValue, hd, Nat.cast_add, ← add_assoc, zpow_add₀ two_ne_zero _ (d : Int), zpow_natCast]
    push_cast
    ring
  · right
    refine ⟨by omega, ?_⟩
    have hpos : 0 < 2 ^ f.frac := by positivity
    have hlt : m < j * 2 ^ f.frac + 2 ^ f.frac := by
      rw [← Nat.succ_mul]
      exact (Nat.div_lt_iff_lt_mul hpos).1 (by omega)
    refine (magValue_strictMono f hlt).trans_eq ?_
    rw [magValue_normal f le_rfl (Nat.pow_le_pow_right (by decide) (Nat.le_succ _))]
    push_cast
    rw [← zpow_natCast, ← zpow_add₀ two_ne_zero]
    congr 1
    ring

/-- The value of the encoding that counts `n` units from exponent `emin + j` on. -/
theorem magValue_unit (f : Fmt) {j n : Nat} (hj : 0 < j → 2 ^ f.frac ≤ n) (hn : n ≤ 2 ^ (f.frac + 1)) :
    f.magValue (j * 2 ^ f.frac + n) = n * 2 ^ (f.emin - f.frac + j) := by
  by_cases hlow : 2 ^ f.frac ≤ n
  · exact magValue_normal f hlow hn
  · obtain rfl : j = 0 := by
      by_contra h
      exact hlow (hj (Nat.pos_of_ne_zero h))
    simpa using magValue_subnormal f (le_of_not_ge hlow)

section
variable {f : Fmt} {rm : Rounding} {neg : Bool} {Q : K} {j n : Nat}

theorem unit_mul_frac (f : Fmt) (j : Nat) :
    (2 : K) ^ (f.emin + j) = (2 ^ f.frac : Nat) * 2 ^ (f.emin - f.frac + j) := by
  push_cast
  rw [← zpow_natCast, ← zpow_add₀ two_ne_zero]
  congr 1
  ring

/-- The encoding `m` stands for `n` units `u`, and the values are multiples of the unit, but for some below `B` units,
which `Q` reaches. -/
structure Fmt.OnGrid (f : Fmt) (Q u : K) (m n B : Nat) : Prop where
  pos : 0 < u
  value : (f.magValue m : K) = n * u
  grid : ∀ k, (∃ N : Nat, (f.magValue k : K) = N * u) ∨ ((f.magValue k : K) < B * u ∧ B * u ≤ Q)
  even : m % 2 = n % 2

theorem onGrid_of (hj : 0 < j → 2 ^ (f.emin + j) ≤ Q) (hlow : 0 < j → 2 ^ f.frac ≤ n) (hn : n ≤ 2 ^ (f.frac + 1)) :
    f.OnGrid Q (2 ^ (f.emin - f.frac + j)) (j * 2 ^ f.frac + n) n (2 ^ f.frac) where
  pos := two_zpow_pos _
  value := by
    rw [magValue_unit f hlow hn]
    push_cast
    rfl
  grid k := by
    obtain ⟨N, hN⟩ | ⟨hj', hlt⟩ := magValue_grid f j k
    · exact .inl ⟨N, by rw [hN]; push_cast; rfl⟩
    · rw [← unit_mul_frac]
      refine .inr ⟨?_, hj hj'⟩
      rw [show (2 : K) ^ (f.emin + j) = ((2 ^ (f.emin + j) : ℚ) : K) by push_cast; rfl]
      exact_mod_cast hlt
  even := by
    obtain ⟨d, hd⟩ : ∃ d, f.frac = d + 1 := by cases f <;> exact ⟨_, rfl⟩
    rw [hd, pow_succ, ← mul_assoc]
    omega

theorem le_of_magValue_le {a b : Nat} (h : (f.magValue a : K) ≤ f.magValue b) : a ≤ b :=
  (magValue_strictMono f).le_iff_le.1 (by exact_mod_cast h)

/-- A multiple of the unit other than the nearest one. -/
theorem far_of_ne {y : K} {N : Nat} (hN : N ≠ n) : 1 - |(n : K) - y| ≤ |(N : K) - y| := by
  have h1 : (1 : K) ≤ |(N : K) - n| := by
    have : (1 : Int) ≤ |(N : Int) - n| := Int.one_le_abs (by omega)
    exact_mod_cast this
  have h2 := abs_sub_le (N : K) y n
  rw [abs_sub_comm y] at h2
  linarith

section
variable {u : K} {m B : Nat} (g : f.OnGrid Q u m n B)
include g

theorem Fmt.OnGrid.le_iff (k : Nat) : (k : K) * u ≤ Q ↔ (k : K) ≤ Q / u := (le_div_iff₀ g.pos).symm

theorem Fmt.OnGrid.ge_iff (k : Nat) : Q ≤ (k : K) * u ↔ Q / u ≤ (k : K) := (div_le_iff₀ g.pos).symm

theorem Fmt.OnGrid.mul_le {k l : Nat} (h : k ≤ l) : (k : K) * u ≤ l * u :=
  mul_le_mul_of_nonneg_right (by exact_mod_cast h) g.pos.le

theorem Fmt.OnGrid.truncatesTo (h : RoundsMag rm neg (Q / u) n) (ht : Machine.TruncatesTo (Q / u) n) :
    f.TruncatesTo Q m := by
  refine ⟨by rw [g.value, g.le_iff]; exact ht.1, fun k hk => le_of_magValue_le (K := K) (f := f) ?_⟩
  rw [g.value]
  obtain ⟨N, hN⟩ | ⟨hlt, hB⟩ := g.grid k
  · rw [hN] at hk ⊢
    exact g.mul_le (h.le_of_le ((g.le_iff N).1 hk))
  · exact hlt.le.trans (g.mul_le (h.le_of_le ((g.le_iff B).1 hB)))

theorem Fmt.OnGrid.awayTo (h : RoundsMag rm neg (Q / u) n) (ha : Machine.AwayTo (Q / u) n) : f.AwayTo Q m := by
  refine ⟨by rw [g.value, g.ge_iff]; exact ha.1, fun k hk => le_of_magValue_le (K := K) (f := f) ?_⟩
  rw [g.value]
  obtain ⟨N, hN⟩ | ⟨hlt, hB⟩ := g.grid k
  · rw [hN] at hk ⊢
    exact g.mul_le (h.le_of_ge ((g.ge_iff N).1 hk))
  · exact absurd (hlt.trans_le hB) hk.not_gt

theorem Fmt.OnGrid.dist (N : Nat) : |(N : K) * u - Q| = |(N : K) - Q / u| * u := by
  rw [← abs_of_pos g.pos, ← abs_mul, abs_of_pos g.pos, sub_mul, div_mul_cancel₀ _ g.pos.ne']

theorem Fmt.OnGrid.nearestTo (h : RoundsMag .even neg (Q / u) n) : f.NearestTo Q m := by
  obtain ⟨hhalf, htie⟩ := h
  have near (N : Nat) : |(n : K) - Q / u| ≤ |(N : K) - Q / u| := by
    by_cases hN : N = n
    · rw [hN]
    · linarith [far_of_ne (y := Q / u) hN]
  intro k
  rw [g.value, g.dist, g.even]
  obtain ⟨N, hN⟩ | ⟨hlt, hB⟩ := g.grid k
  · rw [hN, g.dist]
    refine ⟨mul_le_mul_of_nonneg_right (near N) g.pos.le, fun heq hk => htie ?_⟩
    have hne : N ≠ n := by
      rintro rfl
      have hkm := hN.trans g.value.symm
      exact hk (le_antisymm (le_of_magValue_le hkm.le) (le_of_magValue_le hkm.ge))
    linarith [far_of_ne (y := Q / u) hne, mul_right_cancel₀ g.pos.ne' heq]
  · have hstrict : |(n : K) - Q / u| * u < |(f.magValue k : K) - Q| := by
      refine (mul_le_mul_of_nonneg_right (near B) g.pos.le).trans_lt ?_
      rw [← g.dist, abs_of_nonpos (by linarith), abs_of_neg (by linarith)]
      linarith
    exact ⟨hstrict.le, fun heq _ => absurd heq hstrict.ne⟩

end

/-- Rounding to a multiple of the unit is rounding to a datum. -/
theorem roundsMagTo_of (h : RoundsMag rm neg (Q / 2 ^ (f.emin - f.frac + j)) n)
    (hj : 0 < j → 2 ^ (f.emin + j) ≤ Q) (hn : n ≤ 2 ^ (f.frac + 1)) :
    f.RoundsMagTo rm neg Q (j * 2 ^ f.frac + n) := by
  have hlow (hj' : 0 < j) : 2 ^ f.frac ≤ n := by
    refine h.le_of_le ?_
    rw [le_div_iff₀ (two_zpow_pos _), ← unit_mul_frac]
    exact hj hj'
  have g := onGrid_of hj hlow hn
  cases rm with
  | even => exact g.nearestTo h
  | zero => exact g.truncatesTo h h
  | up => cases neg with
    | true => exact g.truncatesTo h h
    | false => exact g.awayTo h h
  | down => cases neg with
    | true => exact g.awayTo h h
    | false => exact g.truncatesTo h h

end

end

end Sys2Proof.Machine
end


section
/-!
`Fmt.round`: overflow, tininess, the datum and the exceptions (R647, R653, R654).
-/

namespace Sys2Proof.Machine

section
variable {K : Type} [Field K] [LinearOrder K] [IsStrictOrderedRing K]

/-! ## Overflow and tininess -/

/-- The rounding of the magnitude `Q` with unbounded exponent reaches `2^(k+1)`. -/
def Fmt.Reaches (f : Fmt) (rm : Rounding) (neg : Bool) (k : Int) (Q : K) : Prop :=
  match rm with
  | .even => 2 ^ (k + 1) - 2 ^ (k - f.frac) / 2 ≤ Q
  | .zero => 2 ^ (k + 1) ≤ Q
  | .up => if neg then 2 ^ (k + 1) ≤ Q else 2 ^ (k + 1) - 2 ^ (k - f.frac) < Q
  | .down => if neg then 2 ^ (k + 1) - 2 ^ (k - f.frac) < Q else 2 ^ (k + 1) ≤ Q

section
variable {f : Fmt} {rm : Rounding} {neg : Bool} {k top : Int} {Q : K}

theorem reaches_of_le (h : 2 ^ (k + 1) ≤ Q) : f.Reaches rm neg k Q := by
  have hpos : (0 : K) < 2 ^ (k - f.frac) := two_zpow_pos _
  have haway : 2 ^ (k + 1) - 2 ^ (k - f.frac) < Q := by linarith
  cases rm with
  | even => exact (by linarith : 2 ^ (k + 1) - 2 ^ (k - f.frac) / 2 ≤ Q)
  | zero => exact h
  | up => cases neg <;> assumption
  | down => cases neg <;> assumption

theorem not_reaches_of_lt (h : Q < 2 ^ k) : ¬f.Reaches rm neg k Q := by
  have hle : (2 : K) ^ (k - f.frac) ≤ 2 ^ k := zpow_le_zpow_right₀ one_le_two (by omega)
  have hpos : (0 : K) < 2 ^ k := two_zpow_pos _
  have hdouble : (2 : K) ^ (k + 1) = 2 * 2 ^ k := by rw [zpow_add_one₀ two_ne_zero, mul_comm]
  cases rm with
  | even => exact not_le.2 (by linarith)
  | zero => exact not_le.2 (by linarith)
  | up => cases neg with
    | true => exact not_le.2 (by linarith)
    | false => exact not_lt.2 (by linarith)
  | down => cases neg with
    | true => exact not_lt.2 (by linarith)
    | false => exact not_le.2 (by linarith)

/-- Rounding to an integer reaches the even integer `P` from below exactly from its threshold on. -/
theorem roundsMag_eq_iff {y : K} {r P : Nat} (h : RoundsMag rm neg y r) (hy : y < P) (hr : r ≤ P) (hP : P % 2 = 0) :
    r = P ↔ match rm with
      | .even => (P : K) - 1 / 2 ≤ y
      | .zero => (P : K) ≤ y
      | .up => if neg then (P : K) ≤ y else (P : K) - 1 < y
      | .down => if neg then (P : K) - 1 < y else (P : K) ≤ y := by
  have trunc (ht : TruncatesTo y r) : r = P ↔ (P : K) ≤ y :=
    iff_of_false (fun hrP => absurd ht.1 (not_le.2 (hrP ▸ hy))) (not_le.2 hy)
  have cast_lt (hne : r ≠ P) : (r : K) + 1 ≤ P := by exact_mod_cast Nat.lt_of_le_of_ne hr hne
  have away (ha : AwayTo y r) : r = P ↔ (P : K) - 1 < y := by
    constructor
    · rintro rfl
      linarith [ha.2]
    · intro hlt
      by_contra hne
      linarith [ha.1, cast_lt hne]
  cases rm with
  | zero => exact trunc h
  | up => cases neg with
    | true => exact trunc h
    | false => exact away h
  | down => cases neg with
    | true => exact away h
    | false => exact trunc h
  | even =>
    obtain ⟨hhalf, htie⟩ := h
    obtain ⟨hlow, hhigh⟩ := abs_le.1 hhalf
    constructor
    · rintro rfl
      linarith
    · intro hle
      by_contra hne
      have hlt := cast_lt hne
      have habs : |(r : K) - y| = 1 / 2 := by
        rw [abs_of_nonpos (by linarith)]
        linarith
      have hr1 : (r : K) + 1 = P := by linarith
      have : r + 1 = P := by exact_mod_cast hr1
      have := htie habs
      omega

/-- The exponent after rounding to `p` bits passes `k` where the rounding reaches `2^(k+1)`. -/
theorem lt_carry_iff {r : Nat} (hlow : 2 ^ top ≤ Q) (hhigh : Q < 2 ^ (top + 1))
    (h : RoundsMag rm neg (Q / 2 ^ (top - f.frac)) r) :
    k < (if r = 2 ^ (f.frac + 1) then top + 1 else top) ↔ f.Reaches rm neg k Q := by
  obtain hlt | rfl | hgt := lt_trichotomy k top
  · refine iff_of_true (by split <;> omega) (reaches_of_le (le_trans ?_ hlow))
    exact zpow_le_zpow_right₀ one_le_two (by omega)
  · have hu : (0 : K) < 2 ^ (k - f.frac) := two_zpow_pos _
    have hP : (2 : K) ^ (k + 1) = (2 ^ (f.frac + 1) : Nat) * 2 ^ (k - f.frac) := by
      push_cast
      rw [← zpow_natCast, ← zpow_add₀ two_ne_zero]
      congr 1
      push_cast
      ring
    have hy : Q / 2 ^ (k - f.frac) < (2 ^ (f.frac + 1) : Nat) := by rwa [div_lt_iff₀ hu, ← hP]
    have hiff := roundsMag_eq_iff h hy (h.le_of_ge hy.le) (by rw [pow_succ]; omega)
    have hk : k < (if r = 2 ^ (f.frac + 1) then k + 1 else k) ↔ r = 2 ^ (f.frac + 1) := by split <;> omega
    have hle : ((2 ^ (f.frac + 1) : Nat) : K) ≤ Q / 2 ^ (k - f.frac) ↔ 2 ^ (k + 1) ≤ Q := by
      rw [le_div_iff₀ hu, ← hP]
    have hlt : ((2 ^ (f.frac + 1) : Nat) : K) - 1 < Q / 2 ^ (k - f.frac) ↔ 2 ^ (k + 1) - 2 ^ (k - f.frac) < Q := by
      rw [lt_div_iff₀ hu, sub_mul, ← hP, one_mul]
    rw [hk, hiff]
    cases rm with
    | even =>
      refine Iff.trans ?_ (Iff.rfl : 2 ^ (k + 1) - 2 ^ (k - f.frac) / 2 ≤ Q ↔ _)
      rw [le_div_iff₀ hu, sub_mul, ← hP]
      ring_nf
    | zero => exact hle
    | up => cases neg with
      | true => exact hle
      | false => exact hlt
    | down => cases neg with
      | true => exact hlt
      | false => exact hle
  · refine iff_of_false (by split <;> omega) (not_reaches_of_lt (hhigh.trans_le ?_))
    exact zpow_le_zpow_right₀ one_le_two (by omega)

/-- A rounding that is twice an integer is one for twice the unit. -/
theorem RoundsMag.half {y : K} {n : Nat} (h : RoundsMag rm neg (2 * y) (2 * n)) : RoundsMag rm neg y n := by
  have trunc (h : TruncatesTo (2 * y) (2 * n)) : TruncatesTo y n := by
    obtain ⟨h1, h2⟩ := h
    push_cast at h1 h2
    exact ⟨by linarith, by linarith⟩
  have away (h : AwayTo (2 * y) (2 * n)) : AwayTo y n := by
    obtain ⟨h1, h2⟩ := h
    push_cast at h1 h2
    exact ⟨by linarith, by linarith⟩
  cases rm with
  | zero => exact trunc h
  | up => cases neg with
    | true => exact trunc h
    | false => exact away h
  | down => cases neg with
    | true => exact away h
    | false => exact trunc h
  | even =>
    obtain ⟨hlow, hhigh⟩ := abs_le.1 h.1
    push_cast at hlow hhigh
    have habs : |(n : K) - y| < 1 / 2 := abs_lt.2 ⟨by linarith, by linarith⟩
    exact ⟨habs.le, fun he => absurd he habs.ne⟩

end

/-! ## The magnitude of a number to round -/

/-- The exponent of the leading bit. -/
def Exact.top (x : Exact) : Int := x.e + Nat.log2 x.m

theorem Exact.Is.bounds {x : Exact} {Q : K} (h : x.Is Q) (hm : x.m ≠ 0) : 2 ^ x.top ≤ Q ∧ Q < 2 ^ (x.top + 1) := by
  have hlow : 2 ^ Nat.log2 x.m ≤ x.m := Nat.log2_self_le hm
  have hhigh : x.m + 1 ≤ 2 ^ (Nat.log2 x.m + 1) := Nat.lt_log2_self
  have hlow' : ((2 : K) ^ Nat.log2 x.m) ≤ x.m := by exact_mod_cast hlow
  have hhigh' : (x.m : K) + 1 ≤ 2 ^ (Nat.log2 x.m + 1) := by exact_mod_cast hhigh
  have hpos : (0 : K) < 2 ^ x.e := two_zpow_pos _
  have htop : (2 : K) ^ x.top = 2 ^ Nat.log2 x.m * 2 ^ x.e := by
    rw [Exact.top, zpow_add₀ two_ne_zero, zpow_natCast, mul_comm]
  have htop' : (2 : K) ^ (x.top + 1) = 2 ^ (Nat.log2 x.m + 1) * 2 ^ x.e := by
    rw [zpow_add_one₀ two_ne_zero, htop, pow_succ]
    ring
  have h1 := mul_le_mul_of_nonneg_right hlow' hpos.le
  have h2 := mul_le_mul_of_nonneg_right hhigh' hpos.le
  unfold Exact.Is at h
  rw [htop, htop']
  split at h
  · exact ⟨h1.trans h.1.le, h.2.trans_le h2⟩
  · rw [h]
    exact ⟨h1, lt_of_lt_of_le (by linarith) h2⟩

end

end Sys2Proof.Machine
end


section
/-!
The datum and the exceptions of `Fmt.round`.
-/

namespace Sys2Proof.Machine

section
variable {K : Type} [Field K] [LinearOrder K] [IsStrictOrderedRing K]

/-- The exponent of `x` after rounding to `p` bits. -/
def Fmt.carryExp (f : Fmt) (c : FpCtl) (x : Exact) : Int :=
  if (x.roundAt c.rm (x.top - f.frac)).1 = 2 ^ (f.frac + 1) then x.top + 1 else x.top

theorem round_overflow {f : Fmt} {c : FpCtl} {x : Exact} (h : (f.bias : Int) < f.carryExp c x) :
    f.round c x = f.overflow c.rm x.neg := by
  unfold Fmt.carryExp at h
  rw [Fmt.round]
  simp only [beq_iff_eq]
  exact if_pos h

theorem round_tiny {f : Fmt} {c : FpCtl} {x : Exact} (h : ¬(f.bias : Int) < f.carryExp c x)
    (h' : f.carryExp c x < f.emin) {t : Nat × Bool} (ht : x.roundAt c.rm (f.emin - f.frac) = t) :
    f.round c x = ⟨f.pack x.neg t.1, 0#3 ++ BitVec.ofBool (t.2 || c.trapU) ++ BitVec.ofBool t.2⟩ := by
  subst ht
  unfold Fmt.carryExp at h h'
  rw [Fmt.round]
  simp only [beq_iff_eq]
  exact (if_neg h).trans (if_pos h')

theorem round_normal {f : Fmt} {c : FpCtl} {x : Exact} (h : ¬(f.bias : Int) < f.carryExp c x)
    (h' : ¬f.carryExp c x < f.emin) {r : Nat × Bool} (hr : x.roundAt c.rm (x.top - f.frac) = r) :
    f.round c x = ⟨f.pack x.neg ((f.carryExp c x + f.bias - 1).toNat * 2 ^ f.frac +
      (if r.1 = 2 ^ (f.frac + 1) then 2 ^ f.frac else r.1)), excI r.2⟩ := by
  subst hr
  unfold Fmt.carryExp at h h' ⊢
  rw [Fmt.round]
  simp only [beq_iff_eq]
  exact (if_neg h).trans (if_neg h')

/-- The result `r` is the rounding `m` of the magnitude `Q` with the sign `neg` and signals what follows. -/
structure Fmt.DeliversMag (f : Fmt) (c : FpCtl) (neg : Bool) (Q : K) (r : FpRes) (m : Nat) : Prop where
  finite : m < f.infMag
  bits : r.bits = f.pack neg m
  rounds : f.RoundsMagTo c.rm neg Q m
  inexact : r.exc.getLsbD 0 = true ↔ (f.magValue m : K) ≠ Q
  underflow : r.exc.getLsbD 1 = true ↔ ¬f.Reaches c.rm neg (f.emin - 1) Q ∧ (c.trapU = true ∨ (f.magValue m : K) ≠ Q)
  overflow : r.exc.getLsbD 2 = false
  divByZero : r.exc.getLsbD 3 = false
  invalid : r.exc.getLsbD 4 = false

/-! ## The exceptions -/

theorem tinyExc_inexact (u i : Bool) : (0#3 ++ BitVec.ofBool u ++ BitVec.ofBool i).getLsbD 0 = i := by
  cases u <;> cases i <;> rfl

theorem tinyExc_underflow (u i : Bool) : (0#3 ++ BitVec.ofBool u ++ BitVec.ofBool i).getLsbD 1 = u := by
  cases u <;> cases i <;> rfl

theorem tinyExc_high (u i : Bool) (k : Nat) (hk : 2 ≤ k) :
    (0#3 ++ BitVec.ofBool u ++ BitVec.ofBool i).getLsbD k = false := by
  rw [BitVec.getLsbD_append, if_neg (by omega), BitVec.getLsbD_append, if_neg (by omega), BitVec.getLsbD_zero]

theorem excI_inexact (i : Bool) : (excI i).getLsbD 0 = i := by cases i <;> rfl

theorem excI_high (i : Bool) (k : Nat) (hk : 1 ≤ k) : (excI i).getLsbD k = false := by
  rw [excI, BitVec.getLsbD_append, if_neg (by omega), BitVec.getLsbD_zero]

/-! ## The formats -/

theorem emin_eq (f : Fmt) : f.emin = 1 - f.bias := rfl

theorem expMax_eq (f : Fmt) : f.expMax = 2 * f.bias + 1 := by cases f <;> rfl

section
variable {f : Fmt} {c : FpCtl} {x : Exact} {Q : K} (h : x.Is Q) (hm : x.m ≠ 0)
  (hs : x.sticky = true → f.frac < Nat.log2 x.m)
include h hs

/-- The first rounding, to `p` bits. -/
theorem round_bits : RoundsMag c.rm x.neg (Q / 2 ^ (x.top - f.frac)) (x.roundAt c.rm (x.top - f.frac)).1 ∧
    ((x.roundAt c.rm (x.top - f.frac)).2 = true ↔
      ((x.roundAt c.rm (x.top - f.frac)).1 : K) ≠ Q / 2 ^ (x.top - f.frac)) :=
  roundAt_spec h c.rm fun hst => by
    have := hs hst
    rw [Exact.top]
    omega

include hm

theorem lt_carryExp_iff (k : Int) : k < f.carryExp c x ↔ f.Reaches c.rm x.neg k Q := by
  obtain ⟨hlow, hhigh⟩ := h.bounds hm
  exact lt_carry_iff hlow hhigh (round_bits h hs).1

/-- Below `p` bits and one, above `p - 1` bits. -/
theorem roundBits_bounds : 2 ^ f.frac ≤ (x.roundAt c.rm (x.top - f.frac)).1 ∧
    (x.roundAt c.rm (x.top - f.frac)).1 ≤ 2 ^ (f.frac + 1) := by
  obtain ⟨hlow, hhigh⟩ := h.bounds hm
  have hu : (0 : K) < 2 ^ (x.top - f.frac) := two_zpow_pos _
  have hround := (round_bits (c := c) h hs).1
  refine ⟨hround.le_of_le ?_, hround.le_of_ge ?_⟩
  · rw [le_div_iff₀ hu]
    push_cast
    rwa [← zpow_natCast, ← zpow_add₀ two_ne_zero, add_sub_cancel]
  · rw [div_le_iff₀ hu]
    push_cast
    rw [← zpow_natCast, ← zpow_add₀ two_ne_zero]
    refine hhigh.le.trans_eq (congrArg _ ?_)
    push_cast
    ring

/-- A tiny number is rounded to a multiple of the least subnormal. -/
theorem round_tiny_delivers (hover : ¬(f.bias : Int) < f.carryExp c x) (htiny : f.carryExp c x < f.emin) :
    ∃ m, f.DeliversMag c x.neg Q (f.round c x) m := by
  have htop : x.top < f.emin := by
    unfold Fmt.carryExp at htiny
    split at htiny <;> omega
  obtain ⟨hround, hflag⟩ := roundAt_spec h c.rm (q := f.emin - f.frac) fun hst => by
    have := hs hst
    rw [Exact.top] at htop
    omega
  obtain ⟨hlow, hhigh⟩ := h.bounds hm
  have hu : (0 : K) < 2 ^ (f.emin - f.frac) := two_zpow_pos _
  generalize ht : x.roundAt c.rm (f.emin - f.frac) = t at *
  have hfrac : t.1 ≤ 2 ^ f.frac := by
    refine hround.le_of_ge ?_
    rw [div_le_iff₀ hu]
    push_cast
    rw [← zpow_natCast, ← zpow_add₀ two_ne_zero, add_sub_cancel]
    exact hhigh.le.trans (zpow_le_zpow_right₀ one_le_two (by omega))
  have hvalue : (f.magValue t.1 : K) = t.1 * 2 ^ (f.emin - f.frac) := by
    rw [magValue_subnormal f hfrac]
    push_cast
    rfl
  have hexact : (t.1 : K) ≠ Q / 2 ^ (f.emin - f.frac) ↔ (f.magValue t.1 : K) ≠ Q := by
    rw [hvalue, Ne, Ne, eq_div_iff hu.ne']
  have hreach : ¬f.Reaches c.rm x.neg (f.emin - 1) Q := fun hr => by
    have := (lt_carryExp_iff h hm hs _).2 hr
    omega
  rw [round_tiny hover htiny ht]
  refine ⟨t.1, ⟨?_, rfl, ?_, ?_, ?_, tinyExc_high _ _ _ (by decide), tinyExc_high _ _ _ (by decide),
    tinyExc_high _ _ _ (by decide)⟩⟩
  · rw [Fmt.infMag]
    refine hfrac.trans_lt (lt_mul_of_one_lt_left (by positivity) ?_)
    cases f <;> decide
  · simpa using roundsMagTo_of (j := 0) (by simpa using hround) nofun (hfrac.trans (Nat.pow_le_pow_right (by decide)
      (Nat.le_succ _)))
  · rw [← hexact, ← hflag, tinyExc_inexact]
  · rw [← hexact, ← hflag, and_iff_right hreach, tinyExc_underflow, Bool.or_eq_true, or_comm]

/-- Where the rounded number is normal, it is `n` units of the grid from exponent `emin + j` on. -/
theorem round_units (htiny : ¬f.carryExp c x < f.emin) {r : Nat × Bool}
    (hr : x.roundAt c.rm (x.top - f.frac) = r) : ∃ j n : Nat,
      (f.carryExp c x + f.bias - 1).toNat * 2 ^ f.frac + (if r.1 = 2 ^ (f.frac + 1) then 2 ^ f.frac else r.1) =
        j * 2 ^ f.frac + n ∧ RoundsMag c.rm x.neg (Q / 2 ^ (f.emin - f.frac + j)) n ∧
      (0 < j → 2 ^ (f.emin + j) ≤ Q) ∧ 2 ^ f.frac ≤ n ∧ n ≤ 2 ^ (f.frac + 1) ∧
      (n : K) * 2 ^ (f.emin - f.frac + j) = r.1 * 2 ^ (x.top - f.frac) := by
  have hround := (round_bits (c := c) h hs).1
  obtain ⟨hlow, hhigh⟩ := roundBits_bounds (c := c) h hm hs
  have hexp : f.carryExp c x = if r.1 = 2 ^ (f.frac + 1) then x.top + 1 else x.top := by rw [Fmt.carryExp, hr]
  have hemin := emin_eq f
  rw [hr] at hround hlow hhigh
  rw [hexp] at htiny ⊢
  by_cases hcase : f.emin ≤ x.top
  case pos =>
    obtain ⟨j, hj⟩ := Int.eq_ofNat_of_zero_le (sub_nonneg.2 hcase)
    have hunit : f.emin - f.frac + j = x.top - f.frac := by omega
    rw [← hunit] at hround
    refine ⟨j, r.1, ?_, hround, fun _ => ?_, hlow, hhigh, by rw [hunit]⟩
    · split
      · rename_i hcarry
        rw [show (x.top + 1 + f.bias - 1).toNat = j + 1 by omega, hcarry]
        ring
      · rw [show (x.top + f.bias - 1).toNat = j by omega]
    · rw [show f.emin + j = x.top by omega]
      exact (h.bounds hm).1
  case neg =>
    have hcarry : r.1 = 2 ^ (f.frac + 1) := by
      by_contra hne
      rw [if_neg hne] at htiny
      exact hcase (not_lt.1 htiny)
    rw [if_pos hcarry] at htiny
    have htop : x.top + 1 = f.emin := by omega
    have hunit : (2 : K) ^ (f.emin - f.frac) = 2 * 2 ^ (x.top - f.frac) := by
      rw [show f.emin - f.frac = x.top - f.frac + 1 by omega, zpow_add_one₀ two_ne_zero, mul_comm]
    have hpos : (0 : K) < 2 ^ (x.top - f.frac) := two_zpow_pos _
    refine ⟨0, 2 ^ f.frac, ?_, ?_, nofun, le_rfl, Nat.pow_le_pow_right (by decide) (Nat.le_succ _), ?_⟩
    · rw [if_pos hcarry, if_pos hcarry, show (x.top + 1 + f.bias - 1).toNat = 0 by omega]
    · rw [Nat.cast_zero, add_zero, hunit]
      refine RoundsMag.half ?_
      rw [← mul_div_assoc, mul_div_mul_left _ _ two_ne_zero, ← pow_succ', ← hcarry]
      exact hround
    · rw [Nat.cast_zero, add_zero, hunit, hcarry]
      push_cast
      ring

/-- The encoding of a number that does not overflow is that of a finite datum. -/
theorem normal_lt_infMag (hover : ¬(f.bias : Int) < f.carryExp c x) (htiny : ¬f.carryExp c x < f.emin) :
    (f.carryExp c x + f.bias - 1).toNat * 2 ^ f.frac + (if (x.roundAt c.rm (x.top - f.frac)).1 = 2 ^ (f.frac + 1) then
      2 ^ f.frac else (x.roundAt c.rm (x.top - f.frac)).1) < f.infMag := by
  have hhigh := (roundBits_bounds (c := c) h hm hs).2
  have hemin := emin_eq f
  have hexp : (f.carryExp c x + f.bias - 1).toNat + 2 ≤ f.expMax := by
    rw [expMax_eq]
    omega
  have hlt : (if (x.roundAt c.rm (x.top - f.frac)).1 = 2 ^ (f.frac + 1) then 2 ^ f.frac else
      (x.roundAt c.rm (x.top - f.frac)).1) < 2 * 2 ^ f.frac := by
    rw [← pow_succ']
    split
    · exact Nat.pow_lt_pow_right (by decide) (Nat.lt_succ_self _)
    · omega
  rw [Fmt.infMag]
  calc _ < (f.carryExp c x + f.bias - 1).toNat * 2 ^ f.frac + 2 * 2 ^ f.frac := Nat.add_lt_add_left hlt _
    _ = ((f.carryExp c x + f.bias - 1).toNat + 2) * 2 ^ f.frac := by ring
    _ ≤ f.expMax * 2 ^ f.frac := Nat.mul_le_mul_right _ hexp

/-- A number of the normal range is delivered as it was rounded to `p` bits. -/
theorem round_normal_delivers (hover : ¬(f.bias : Int) < f.carryExp c x) (htiny : ¬f.carryExp c x < f.emin) :
    ∃ m, f.DeliversMag c x.neg Q (f.round c x) m := by
  have hflag := (round_bits (c := c) h hs).2
  have hreach : f.Reaches c.rm x.neg (f.emin - 1) Q := (lt_carryExp_iff h hm hs _).1 (by omega)
  have hu : (0 : K) < 2 ^ (x.top - f.frac) := two_zpow_pos _
  have hfinite := normal_lt_infMag h hm hs hover htiny
  generalize hr : x.roundAt c.rm (x.top - f.frac) = r at hflag hfinite
  obtain ⟨j, n, hbits, hround, hbig, hlow, hhigh, hval⟩ := round_units h hm hs htiny hr
  have hvalue : (f.magValue (j * 2 ^ f.frac + n) : K) = r.1 * 2 ^ (x.top - f.frac) := by
    rw [magValue_normal f hlow hhigh, ← hval]
    push_cast
    rfl
  have hexact : (r.1 : K) ≠ Q / 2 ^ (x.top - f.frac) ↔ (f.magValue (j * 2 ^ f.frac + n) : K) ≠ Q := by
    rw [hvalue, Ne, Ne, eq_div_iff hu.ne']
  rw [round_normal hover htiny hr, hbits]
  rw [hbits] at hfinite
  refine ⟨_, hfinite, rfl, roundsMagTo_of hround hbig hhigh, ?_, ?_, excI_high _ _ (by decide),
    excI_high _ _ (by decide), excI_high _ _ (by decide)⟩
  · rw [← hexact, ← hflag, excI_inexact]
  · rw [excI_high _ _ le_rfl]
    exact iff_of_false nofun fun hn => hn.1 hreach

/-- What `round` delivers for a positive magnitude. -/
theorem round_delivers : (f.Reaches c.rm x.neg f.bias Q → f.round c x = f.overflow c.rm x.neg) ∧
    (¬f.Reaches c.rm x.neg f.bias Q → ∃ m, f.DeliversMag c x.neg Q (f.round c x) m) := by
  have hiff := lt_carryExp_iff (c := c) h hm hs f.bias
  refine ⟨fun hr => round_overflow (hiff.2 hr), fun hr => ?_⟩
  by_cases htiny : f.carryExp c x < f.emin
  · exact round_tiny_delivers h hm hs (mt hiff.1 hr) htiny
  · exact round_normal_delivers h hm hs (mt hiff.1 hr) htiny

end

end

end Sys2Proof.Machine
end


section
/-!
From magnitudes to numbers: `Fmt.Delivers` (R647, R653, R654).
-/

namespace Sys2Proof.Machine

/-! ## Signed numbers -/

theorem abs_signed (neg : Bool) {y : ℚ} (hy : 0 ≤ y) : |signed neg y| = y := by
  cases neg
  · exact abs_of_nonneg hy
  · exact (abs_neg y).trans (abs_of_nonneg hy)

theorem signed_abs (q : ℚ) : signed (decide (q < 0)) |q| = q := by
  by_cases h : q < 0
  · simp [signed, h, abs_of_neg h]
  · simp [signed, h, abs_of_nonneg (not_lt.1 h)]

theorem abs_signed_sub_same (neg : Bool) (a b : ℚ) : |signed neg a - signed neg b| = |a - b| := by
  cases neg
  · rfl
  · exact (congrArg _ (neg_sub_neg a b)).trans (abs_sub_comm b a)

theorem abs_signed_sub_other {s neg : Bool} (h : s ≠ neg) {a b : ℚ} (ha : 0 ≤ a) (hb : 0 ≤ b) :
    |signed s a - signed neg b| = a + b := by
  cases s <;> cases neg
  case false.true => exact (congrArg _ (sub_neg_eq_add a b)).trans (abs_of_nonneg (add_nonneg ha hb))
  case true.false =>
    rw [signed, signed, if_pos rfl, if_neg (by decide), ← neg_add', abs_neg, abs_of_nonneg (add_nonneg ha hb)]
  all_goals exact absurd rfl h

theorem value_eq_signed_mag (f : Fmt) (x : Word) : f.value x = signed (f.sign x) (f.magValue (f.mag x)) := by
  rw [value_eq, signed]
  split <;> simp

/-! ## Packed data -/

section
variable (f : Fmt) (neg : Bool) {m : Nat}

theorem infMag_lt : f.infMag < 2 ^ f.signPos := by cases f <;> decide

theorem mag_pack (hm : m < 2 ^ f.signPos) : f.mag (f.pack neg m) = m := by
  rw [Fmt.mag, pack_toNat f neg hm]
  split
  · rw [Nat.add_mod_left, Nat.mod_eq_of_lt hm]
  · rw [Nat.zero_add, Nat.mod_eq_of_lt hm]

theorem sign_pack (hm : m < 2 ^ f.signPos) : f.sign (f.pack neg m) = neg := by
  rw [Fmt.sign, ← BitVec.testBit_toNat, pack_toNat f neg hm]
  cases neg
  · simpa using Nat.testBit_lt_two_pow hm
  · simp [Nat.testBit_two_pow_add_eq, Nat.testBit_lt_two_pow hm]

theorem value_pack (hm : m < 2 ^ f.signPos) : f.value (f.pack neg m) = signed neg (f.magValue m) := by
  rw [value_eq_signed_mag, mag_pack f neg hm, sign_pack f neg hm]

theorem finite_pack (hm : m < f.infMag) : f.Finite (f.pack neg m) := by
  rw [finite_iff, mag_pack f neg (hm.trans (infMag_lt f))]
  exact hm

theorem pack_even (hm : m < 2 ^ f.signPos) (h : m % 2 = 0) : (f.pack neg m).getLsbD 0 = false := by
  have hpow : 2 ^ f.signPos % 2 = 0 := by cases f <;> rfl
  have hmod : (f.pack neg m).toNat % 2 = 0 := by
    rw [pack_toNat f neg hm]
    split <;> omega
  rw [← BitVec.testBit_toNat, Nat.testBit_zero, hmod]
  rfl

end

/-! ## Rounding a signed number -/

section
variable {f : Fmt} {Q : ℚ} {m : Nat}

theorem Fmt.TruncatesTo.values (h : f.TruncatesTo Q m) :
    f.magValue m ≤ Q ∧ ∀ k, f.magValue k ≤ Q → f.magValue k ≤ f.magValue m := by
  simp only [Fmt.TruncatesTo, Rat.cast_id] at h
  exact ⟨h.1, fun k hk => (magValue_strictMono f).monotone (h.2 k hk)⟩

theorem Fmt.AwayTo.values (h : f.AwayTo Q m) :
    Q ≤ f.magValue m ∧ ∀ k, Q ≤ f.magValue k → f.magValue m ≤ f.magValue k := by
  simp only [Fmt.AwayTo, Rat.cast_id] at h
  exact ⟨h.1, fun k hk => (magValue_strictMono f).monotone (h.2 k hk)⟩

/-- The datum of the rounded magnitude, with the sign, is the rounding toward zero. -/
theorem truncated_signed (h : f.TruncatesTo Q m) (y : Word) :
    (f.value y ≤ Q → f.value y ≤ f.magValue m) ∧ (-Q ≤ f.value y → -f.magValue m ≤ f.value y) := by
  obtain ⟨-, hmax⟩ := h.values
  have hV := magValue_nonneg f m
  have hW := magValue_nonneg f (f.mag y)
  have hmag := hmax (f.mag y)
  rw [value_eq_signed_mag, signed]
  cases f.sign y with
  | false =>
    rw [if_neg (by decide)]
    exact ⟨hmag, fun _ => by linarith⟩
  | true =>
    rw [if_pos rfl]
    exact ⟨fun _ => by linarith, fun hle => by linarith [hmag (by linarith)]⟩

/-- The datum of the rounded magnitude, with the sign, is the rounding away from zero. -/
theorem away_signed (hQ : 0 < Q) (h : f.AwayTo Q m) (y : Word) :
    (Q ≤ f.value y → f.magValue m ≤ f.value y) ∧ (f.value y ≤ -Q → f.value y ≤ -f.magValue m) := by
  obtain ⟨-, hmin⟩ := h.values
  have hW := magValue_nonneg f (f.mag y)
  have hmag := hmin (f.mag y)
  rw [value_eq_signed_mag, signed]
  cases f.sign y with
  | false =>
    rw [if_neg (by decide)]
    exact ⟨hmag, fun hle => by linarith⟩
  | true =>
    rw [if_pos rfl]
    exact ⟨fun hle => by linarith, fun hle => by linarith [hmag (by linarith)]⟩

variable {neg : Bool} (hQ : 0 < Q) (hm : m < f.infMag)
include hQ hm

/-- A datum of the other sign is no nearer than zero is. -/
theorem nearest_signed (h : f.NearestTo Q m) (y : Word) :
    |f.value (f.pack neg m) - signed neg Q| ≤ |f.value y - signed neg Q| ∧
      (|f.value (f.pack neg m) - signed neg Q| = |f.value y - signed neg Q| → f.value y ≠ f.value (f.pack neg m) →
        (f.pack neg m).getLsbD 0 = false) := by
  have hpos := hm.trans (infMag_lt f)
  have hV := magValue_nonneg f m
  have hW := magValue_nonneg f (f.mag y)
  simp only [Fmt.NearestTo, Rat.cast_id] at h
  rw [value_pack f _ hpos, value_eq_signed_mag f y, abs_signed_sub_same]
  by_cases hs : f.sign y = neg
  · rw [hs, abs_signed_sub_same]
    obtain ⟨hle, htie⟩ := h (f.mag y)
    exact ⟨hle, fun heq hne => pack_even f neg hpos (htie heq fun hk => hne (by rw [hk]))⟩
  · rw [abs_signed_sub_other hs hW hQ.le]
    obtain ⟨hle, htie⟩ := h 0
    rw [magValue_zero, zero_sub, abs_neg, abs_of_pos hQ] at hle htie
    refine ⟨by linarith, fun heq hne => pack_even f neg hpos (htie (by linarith) fun h0 => hne ?_)⟩
    rw [← h0, magValue_zero, show f.magValue (f.mag y) = 0 by linarith]
    simp [signed]

/-- The datum of the rounded magnitude, with the sign, is the rounding of the number. -/
theorem rounds_of_mag {rm : Rounding} (h : f.RoundsMagTo rm neg Q m) : f.Rounds rm (signed neg Q) (f.pack neg m) := by
  have hpos := hm.trans (infMag_lt f)
  have hV := magValue_nonneg f m
  have down (ht : f.TruncatesTo Q m) : f.Rounds .down Q (f.pack false m) := by
    refine ⟨finite_pack f _ hm, ?_⟩
    rw [value_pack f _ hpos]
    exact ⟨ht.values.1, fun y _ => (truncated_signed ht y).1⟩
  have upNeg (ht : f.TruncatesTo Q m) : f.Rounds .up (-Q) (f.pack true m) := by
    refine ⟨finite_pack f _ hm, ?_⟩
    rw [value_pack f _ hpos]
    exact ⟨neg_le_neg ht.values.1, fun y _ => (truncated_signed ht y).2⟩
  have up (ha : f.AwayTo Q m) : f.Rounds .up Q (f.pack false m) := by
    refine ⟨finite_pack f _ hm, ?_⟩
    rw [value_pack f _ hpos]
    exact ⟨ha.values.1, fun y _ => (away_signed hQ ha y).1⟩
  have downNeg (ha : f.AwayTo Q m) : f.Rounds .down (-Q) (f.pack true m) := by
    refine ⟨finite_pack f _ hm, ?_⟩
    rw [value_pack f _ hpos]
    exact ⟨neg_le_neg ha.values.1, fun y _ => (away_signed hQ ha y).2⟩
  cases rm with
  | even => exact ⟨finite_pack f _ hm, fun y _ => nearest_signed hQ hm h y⟩
  | zero =>
    obtain ⟨hle, hmax⟩ := Fmt.TruncatesTo.values h
    refine ⟨finite_pack f _ hm, ?_⟩
    rw [value_pack f _ hpos]
    refine ⟨by rwa [abs_signed _ hV, abs_signed _ hQ.le], ?_, fun y _ => ?_⟩
    · cases neg
      · exact mul_nonneg hV hQ.le
      · exact mul_nonneg_of_nonpos_of_nonpos (neg_nonpos.2 hV) (neg_nonpos.2 hQ.le)
    · rw [value_eq_signed_mag f y, abs_signed _ hV, abs_signed _ hQ.le, abs_signed _ (magValue_nonneg f _)]
      exact fun hle _ => hmax _ hle
  | up => cases neg with
    | true => exact upNeg h
    | false => exact up h
  | down => cases neg with
    | true => exact downNeg h
    | false => exact down h

end

end Sys2Proof.Machine
end


section
/-!
Overflow and tininess of a signed number, and the rounding of exact results.
-/

namespace Sys2Proof.Machine

section
variable {f : Fmt} {rm : Rounding} {q : ℚ}

theorem unit_lt_top (f : Fmt) (k : Int) : (2 : ℚ) ^ (k - f.frac) < 2 ^ (k + 1) :=
  zpow_lt_zpow_right₀ one_lt_two (by omega)

/-- The thresholds of a signed number. -/
theorem reaches_signed (f : Fmt) (rm : Rounding) (k : Int) (q : ℚ) {U D : ℚ} (hU : 2 ^ (k + 1) = U)
    (hD : 2 ^ (k - f.frac) = D) : f.Reaches rm (decide (q < 0)) k |q| ↔
      match rm with
      | .even => U - D / 2 ≤ |q|
      | .zero => U ≤ |q|
      | .up => U - D < q ∨ q ≤ -U
      | .down => q < D - U ∨ U ≤ q := by
  have hlt := unit_lt_top f k
  have hpos : (0 : ℚ) < 2 ^ (k - f.frac) := two_zpow_pos _
  rw [hU, hD] at hlt
  rw [hD] at hpos
  by_cases h : q < 0
  · cases rm with
    | even | zero => simp only [Fmt.Reaches, hU, hD]
    | up =>
      simp only [Fmt.Reaches, hU, h, abs_of_neg h, decide_true, if_true]
      exact ⟨fun hle => .inr (by linarith), fun hor => by obtain h1 | h1 := hor <;> linarith⟩
    | down =>
      simp only [Fmt.Reaches, hU, hD, h, abs_of_neg h, decide_true, if_true]
      exact ⟨fun hle => .inl (by linarith), fun hor => by obtain h1 | h1 := hor <;> linarith⟩
  · have hq := not_lt.1 h
    cases rm with
    | even | zero => simp only [Fmt.Reaches, hU, hD]
    | up =>
      simp only [Fmt.Reaches, hU, hD, h, abs_of_nonneg hq, decide_false, Bool.false_eq_true, if_false]
      exact ⟨.inl, fun hor => by obtain h1 | h1 := hor <;> linarith⟩
    | down =>
      simp only [Fmt.Reaches, hU, h, abs_of_nonneg hq, decide_false, Bool.false_eq_true, if_false]
      exact ⟨.inr, fun hor => by obtain h1 | h1 := hor <;> linarith⟩

theorem overflows_iff : f.Overflows rm q ↔ f.Reaches rm (decide (q < 0)) f.bias |q| := by
  have hU : (2 : ℚ) ^ ((f.bias : Int) + 1) = 2 ^ (f.bias + 1) := by
    rw [← zpow_natCast]
    push_cast
    rfl
  have hM : (2 - (2 : ℚ) ^ (-(f.frac : Int))) * 2 ^ f.bias = 2 ^ (f.bias + 1) - 2 ^ ((f.bias : Int) - f.frac) := by
    rw [sub_mul, ← zpow_natCast, ← zpow_add₀ two_ne_zero, zpow_natCast, pow_succ', neg_add_eq_sub]
  rw [reaches_signed f rm f.bias q hU rfl]
  simp only [Fmt.Overflows, hM, forall_eq_apply_imp_iff, forall_eq]
  generalize (2 : ℚ) ^ (f.bias + 1) = U
  generalize (2 : ℚ) ^ ((f.bias : Int) - f.frac) = D
  cases rm with
  | even => constructor <;> intro h <;> linarith
  | zero => rfl
  | up => rfl
  | down => simp only [neg_sub]

theorem tiny_iff (hq : q ≠ 0) : f.Tiny rm q ↔ ¬f.Reaches rm (decide (q < 0)) (f.emin - 1) |q| := by
  rw [reaches_signed f rm (f.emin - 1) q (congrArg _ (sub_add_cancel f.emin 1))
    (congrArg _ (sub_right_comm f.emin 1 f.frac))]
  simp only [Fmt.Tiny, forall_eq_apply_imp_iff, forall_eq, ne_eq, hq, not_false_eq_true, true_and]
  cases rm with
  | even => exact not_le.symm
  | zero => exact not_le.symm
  | up => rw [not_or, not_lt, not_le, and_comm]
  | down => rw [not_or, not_lt, not_le]

/-! ## Delivering a number -/

theorem overflow_eq (f : Fmt) (rm : Rounding) (neg : Bool) :
    f.overflow rm neg = ⟨f.overflowBits rm neg, 0b00101#5⟩ := by
  cases rm <;> cases neg <;> rfl

/-- `round` delivers the rounding of a nonzero number. -/
theorem delivers_round {c : FpCtl} {x : Exact} (hq : q ≠ 0) (hneg : x.neg = decide (q < 0)) (h : x.Is |q|)
    (hs : x.sticky = true → f.frac < Nat.log2 x.m) : f.Delivers c q (f.round c x) := by
  have hQ : 0 < |q| := abs_pos.2 hq
  have hm : x.m ≠ 0 := by
    intro h0
    have hst : x.sticky = false := by
      rw [Bool.eq_false_iff]
      intro hst
      have := hs hst
      rw [h0] at this
      simp at this
    rw [Exact.Is, hst, if_neg (by decide), h0, Nat.cast_zero, zero_mul] at h
    exact hQ.ne' h
  obtain ⟨hover, hfinite⟩ := round_delivers (c := c) h hm hs
  rw [hneg] at hover hfinite
  rw [← overflows_iff] at hover hfinite
  by_cases hov : f.Overflows c.rm q
  · rw [hover hov, overflow_eq]
    exact ⟨by dsimp only; decide, by dsimp only; decide, fun _ => rfl, fun hnot => absurd hov hnot⟩
  · obtain ⟨m, hmag⟩ := hfinite hov
    have hpos := hmag.finite.trans (infMag_lt f)
    have hvalue : f.value (f.round c x).bits ≠ q ↔ f.magValue m ≠ |q| := by
      rw [hmag.bits, value_pack f _ hpos]
      nth_rw 3 [← signed_abs q]
      rw [signed, signed]
      split
      · rw [Ne, Ne, neg_inj]
      · rfl
    refine ⟨hmag.invalid, hmag.divByZero, fun h => absurd h hov, fun _ => ⟨hmag.overflow, ?_, ?_, ?_, fun _ => ?_⟩⟩
    · have := rounds_of_mag hQ hmag.finite hmag.rounds
      rwa [signed_abs, ← hmag.bits] at this
    · rw [hvalue, hmag.inexact, Rat.cast_id]
    · rw [hvalue, hmag.underflow, tiny_iff hq, Rat.cast_id]
    · rw [hmag.bits, sign_pack f _ hpos]

/-- A zero delivered as it is. -/
theorem delivers_zero {f : Fmt} {x : Word} (c : FpCtl) (hx : f.isZero x = true) : f.Delivers c 0 (.exact x) := by
  have hpos : 0 < f.infMag := by cases f <;> decide
  have hmag : f.mag x = 0 := by simpa [Fmt.isZero] using hx
  have hvalue : f.value x = 0 := (value_eq_zero_iff f x).2 hx
  have hfin : f.Finite x := (finite_iff f x).2 (hmag ▸ hpos)
  have heven : x.getLsbD 0 = false := by
    have hdvd : 2 ∣ x.toNat := (dvd_pow_self 2 (by cases f <;> decide)).trans (Nat.dvd_of_mod_eq_zero hmag)
    rw [← BitVec.testBit_toNat, Nat.testBit_zero, Nat.mod_eq_zero_of_dvd hdvd]
    rfl
  have hreach : ¬f.Overflows c.rm 0 := by
    rw [overflows_iff, abs_zero]
    exact not_reaches_of_lt (two_zpow_pos _)
  have hexc (k : Nat) : (FpRes.exact x).exc.getLsbD k = false := BitVec.getLsbD_zero
  refine ⟨hexc 4, hexc 3, fun h => absurd h hreach, fun _ => ⟨hexc 2, ⟨hfin, ?_⟩, ?_, ?_, fun h => absurd rfl h⟩⟩
  · rw [FpRes.exact, hvalue]
    cases c.rm with
    | down => exact ⟨le_rfl, fun _ _ h => h⟩
    | up => exact ⟨le_rfl, fun _ _ h => h⟩
    | zero => exact ⟨le_rfl, (mul_zero _).ge, fun _ _ h _ => h⟩
    | even => exact fun y _ => ⟨by rw [sub_zero, abs_zero]; exact abs_nonneg _, fun _ _ => heven⟩
  · rw [FpRes.exact, hvalue]
    exact iff_of_false (by rw [← FpRes.exact, hexc]; decide) fun h => h rfl
  · exact iff_of_false (by rw [hexc]; decide) fun h => h.1.1 rfl

theorem isZero_zero (f : Fmt) (neg : Bool) : f.isZero (f.zero neg) = true := by
  rw [Fmt.isZero, Fmt.zero, mag_pack f neg (by positivity)]
  rfl

/-- `roundInt` delivers the rounding of a scaled integer. -/
theorem delivers_roundInt (f : Fmt) (c : FpCtl) (t : Scaled) (zneg : Bool) :
    f.Delivers c t.toRat (f.roundInt c t.v t.e zneg) := by
  by_cases h : t.toRat = 0
  · rw [roundInt_zero h, h]
    exact delivers_zero c (isZero_zero f zneg)
  · have hv := mt Scaled.toRat_eq_zero.2 h
    have hpos : (0 : ℚ) < 2 ^ t.e := two_zpow_pos _
    rw [Fmt.roundInt, if_neg hv]
    refine delivers_round h ?_ ?_ fun hst => Bool.noConfusion hst
    · rw [Scaled.toRat]
      refine decide_eq_decide.2 ?_
      rw [mul_neg_iff, or_iff_right (fun h => h.2.not_gt hpos), and_iff_left hpos, Int.cast_lt_zero]
    · rw [Exact.Is, if_neg Bool.false_ne_true, Scaled.toRat, abs_mul, abs_of_pos hpos, ← Int.cast_abs,
        Int.abs_eq_natAbs, Int.cast_natCast]

end

end Sys2Proof.Machine
end


section
/-!
The operations deliver the rounding of the exact result (R649, R658-R665, R692, R693, R704-R709).
-/

namespace Sys2Proof.Machine

section
variable {f : Fmt} {c : FpCtl} {a b z : Word}

/-! ## Sums and products -/

theorem delivers_addNum (ha : f.isInf a = false) (hb : f.isInf b = false) :
    f.Delivers c (f.value a + f.value b) (f.addNum c a b) := by
  rw [Fmt.addNum, if_neg (by rw [ha]; decide), if_neg (by rw [hb]; decide), ← val_toRat, ← val_toRat,
    ← Scaled.toRat_add]
  exact delivers_roundInt f c _ _

theorem delivers_add (ha : f.Finite a) (hb : f.Finite b) : f.Delivers c (f.value a + f.value b) (f.add c a b) := by
  obtain ⟨hna, hia⟩ := isNaN_of_finite ha
  obtain ⟨hnb, hib⟩ := isNaN_of_finite hb
  rw [Fmt.add, orNaN_two hna hnb]
  exact delivers_addNum hia hib

theorem delivers_sub (ha : f.Finite a) (hb : f.Finite b) : f.Delivers c (f.value a - f.value b) (f.sub c a b) := by
  obtain ⟨hna, hia⟩ := isNaN_of_finite ha
  obtain ⟨hnb, hib⟩ := isNaN_of_finite hb
  rw [Fmt.sub, orNaN_two hna hnb, sub_eq_add_neg, ← value_negate]
  exact delivers_addNum hia ((isInf_eq_of_mag (mag_negate f b)).trans hib)

theorem not_zeroTimesInf (ha : f.Finite a) (hb : f.Finite b) : ¬f.ZeroTimesInf a b := by
  rintro (⟨-, h⟩ | ⟨h, -⟩)
  · rw [(isNaN_of_finite hb).2] at h
    exact Bool.false_ne_true h
  · rw [(isNaN_of_finite ha).2] at h
    exact Bool.false_ne_true h

theorem delivers_mul (ha : f.Finite a) (hb : f.Finite b) : f.Delivers c (f.value a * f.value b) (f.mul c a b) := by
  obtain ⟨hna, hia⟩ := isNaN_of_finite ha
  obtain ⟨hnb, hib⟩ := isNaN_of_finite hb
  rw [Fmt.mul, orNaN_two hna hnb, if_neg (by rw [zeroTimesInf_eq_false (not_zeroTimesInf ha hb)]; decide),
    if_neg (by rw [hia, hib]; decide), ← val_toRat, ← val_toRat, ← Scaled.toRat_mul]
  exact delivers_roundInt f c _ _

theorem delivers_fma (ha : f.Finite a) (hb : f.Finite b) (hz : f.Finite z) (neg : Bool) :
    f.Delivers c (f.value a * f.value b + signed neg (f.value z)) (f.fma c neg a b z) := by
  obtain ⟨hna, hia⟩ := isNaN_of_finite ha
  obtain ⟨hnb, hib⟩ := isNaN_of_finite hb
  obtain ⟨hnz, hiz⟩ := isNaN_of_finite hz
  rw [fma_eq_fmaNum hna hnb hnz (not_zeroTimesInf ha hb), signed, ← value_addend]
  have hi : f.isInf (if neg then f.negate z else z) = false := (isInf_eq_of_mag mag_addend).trans hiz
  generalize (if neg then f.negate z else z) = y at *
  simp only [Fmt.fmaNum]
  rw [if_neg (by rw [hia, hib]; decide), if_neg (by rw [hi]; decide), ← val_toRat, ← val_toRat, ← val_toRat,
    ← Scaled.toRat_mul, ← Scaled.toRat_add]
  exact delivers_roundInt f c _ _

/-! ## Quotients -/

theorem sig_lt (f : Fmt) (x : Word) : f.sig x < 2 ^ (f.frac + 1) := by
  have := fraction_lt f x
  rw [Fmt.sig, pow_succ]
  split <;> omega

theorem sig_pos (h : f.value a ≠ 0) : 0 < f.sig a := by
  rw [Nat.pos_iff_ne_zero]
  intro h0
  rw [Fmt.value, h0, Nat.cast_zero, mul_zero, zero_mul] at h
  exact h rfl

theorem abs_value (f : Fmt) (x : Word) : |f.value x| = (f.sig x : ℚ) * 2 ^ f.expo x := by
  rw [value_eq_signed, abs_signed _ (by positivity)]

theorem sign_eq_of_ne (h : f.value a ≠ 0) : f.sign a = decide (f.value a < 0) := by
  have hpos : (0 : ℚ) < (f.sig a : ℚ) * 2 ^ f.expo a := mul_pos (by exact_mod_cast sig_pos h) (two_zpow_pos _)
  rw [value_eq_signed, signed]
  cases f.sign a with
  | true => simpa using hpos
  | false => simpa using hpos.le

/-- A quotient of naturals cut to an integer. -/
theorem quotient_is {K : Type} [Field K] [LinearOrder K] [IsStrictOrderedRing K] (neg : Bool) (n : Nat) {d : Nat}
    (hd : 0 < d) (e : Int) : (Exact.mk neg (n / d) e (n % d != 0)).Is ((n : K) / d * 2 ^ e) := by
  have hd' : (0 : K) < d := by exact_mod_cast hd
  have hn : (n : K) = d * (n / d : Nat) + (n % d : Nat) := by exact_mod_cast (Nat.div_add_mod n d).symm
  have hpos : (0 : K) < 2 ^ e := two_zpow_pos _
  have hquot : (n : K) / d = (n / d : Nat) + ((n % d : Nat) : K) / d := by
    rw [hn, add_div, mul_div_cancel_left₀ _ hd'.ne']
  rw [Exact.Is, hquot]
  by_cases h0 : n % d = 0
  · rw [if_neg (by simp [h0]), h0]
    simp
  · have hr : (0 : K) < (n % d : Nat) := by exact_mod_cast Nat.pos_of_ne_zero h0
    have hlt : ((n % d : Nat) : K) / d < 1 := by
      rw [div_lt_one hd']
      exact_mod_cast Nat.mod_lt n hd
    rw [if_pos (by simp [h0])]
    exact ⟨mul_lt_mul_of_pos_right (lt_add_of_pos_right _ (div_pos hr hd')) hpos,
      mul_lt_mul_of_pos_right (by linarith) hpos⟩

theorem quotient_exact (a : Word) (hb : f.value b ≠ 0) : (f.quotient a b).Is |f.value a / f.value b| := by
  have hb' : (f.sig b : ℚ) ≠ 0 := by exact_mod_cast (sig_pos hb).ne'
  have heq : |f.value a / f.value b| = ((f.sig a * 2 ^ (2 * f.frac + 4) : Nat) : ℚ) / f.sig b *
      2 ^ (f.expo a - f.expo b - (2 * f.frac + 4 : Nat)) := by
    rw [abs_div, abs_value, abs_value, zpow_sub₀ two_ne_zero, zpow_sub₀ two_ne_zero, zpow_natCast]
    push_cast
    field_simp
  rw [heq]
  exact quotient_is _ _ (sig_pos hb) _

theorem quotient_bits (ha : f.value a ≠ 0) (hb : f.value b ≠ 0) : f.frac < Nat.log2 (f.quotient a b).m := by
  have hlow : 2 ^ (f.frac + 1) ≤ (f.quotient a b).m := by
    rw [Fmt.quotient, Nat.le_div_iff_mul_le (sig_pos hb)]
    calc 2 ^ (f.frac + 1) * f.sig b ≤ 2 ^ (f.frac + 1) * 2 ^ (f.frac + 1) := Nat.mul_le_mul_left _ (sig_lt f b).le
      _ ≤ 1 * 2 ^ (2 * f.frac + 4) := by
        rw [← pow_add, one_mul]
        exact Nat.pow_le_pow_right (by decide) (by omega)
      _ ≤ f.sig a * 2 ^ (2 * f.frac + 4) := Nat.mul_le_mul_right _ (sig_pos ha)
  exact (Nat.le_log2 (by have := Nat.two_pow_pos (f.frac + 1); omega)).2 hlow

theorem quotient_neg (ha : f.value a ≠ 0) (hb : f.value b ≠ 0) :
    (f.quotient a b).neg = decide (f.value a / f.value b < 0) := by
  have hdef : (f.quotient a b).neg = (f.sign a ^^ f.sign b) := rfl
  rw [hdef, sign_eq_of_ne ha, sign_eq_of_ne hb]
  obtain h1 | h1 := ha.lt_or_gt <;> obtain h2 | h2 := hb.lt_or_gt
  · rw [decide_eq_true h1, decide_eq_true h2, decide_eq_false (div_pos_of_neg_of_neg h1 h2).not_gt]
    rfl
  · rw [decide_eq_true h1, decide_eq_false h2.not_gt, decide_eq_true (div_neg_of_neg_of_pos h1 h2)]
    rfl
  · rw [decide_eq_false h1.not_gt, decide_eq_true h2, decide_eq_true (div_neg_of_pos_of_neg h1 h2)]
    rfl
  · rw [decide_eq_false h1.not_gt, decide_eq_false h2.not_gt, decide_eq_false (div_pos h1 h2).not_gt]
    rfl

theorem isZero_eq_false (h : f.value a ≠ 0) : f.isZero a = false := by
  rw [Bool.eq_false_iff]
  exact fun hz => h ((value_eq_zero_iff f a).2 hz)

theorem delivers_div (ha : f.Finite a) (hb : f.Finite b) (hne : f.value b ≠ 0) :
    f.Delivers c (f.value a / f.value b) (f.div c a b) := by
  obtain ⟨hna, hia⟩ := isNaN_of_finite ha
  obtain ⟨hnb, hib⟩ := isNaN_of_finite hb
  rw [Fmt.div, orNaN_two hna hnb, if_neg (by rw [hia]; decide), if_neg (by rw [hib]; decide),
    if_neg (by rw [isZero_eq_false hne]; decide)]
  by_cases h0 : f.value a = 0
  · rw [if_pos ((value_eq_zero_iff f a).1 h0), h0, zero_div]
    exact delivers_zero c (isZero_zero f _)
  · rw [if_neg (by rw [isZero_eq_false h0]; decide)]
    exact delivers_round (div_ne_zero h0 hne) (quotient_neg h0 hne) (quotient_exact a hne) fun _ =>
      quotient_bits h0 hne

theorem value_one (f : Fmt) : f.value f.one = 1 ∧ f.Finite f.one := by
  have hlt : f.bias * 2 ^ f.frac < f.infMag := by cases f <;> decide
  have hvalue : f.magValue (f.bias * 2 ^ f.frac) = 1 := by
    have h := magValue_normal f (k := f.bias - 1) (n := 2 ^ f.frac) le_rfl (Nat.pow_le_pow_right (by decide)
      (Nat.le_succ _))
    have hbias : 1 ≤ f.bias := by cases f <;> decide
    rw [← Nat.succ_mul, Nat.succ_eq_add_one, Nat.sub_add_cancel hbias] at h
    rw [h]
    push_cast [hbias]
    rw [← zpow_natCast, ← zpow_add₀ two_ne_zero, emin_eq,
      show (f.frac : Int) + (1 - f.bias - f.frac + (f.bias - 1)) = 0 by ring, zpow_zero]
  exact ⟨by rw [Fmt.one, value_pack f _ (hlt.trans (infMag_lt f)), hvalue]; rfl, finite_pack f _ hlt⟩

theorem delivers_recip (ha : f.Finite a) (hne : f.value a ≠ 0) : f.Delivers c (1 / f.value a) (f.recip c a) := by
  have := delivers_div (c := c) (value_one f).2 ha hne
  rwa [(value_one f).1] at this

/-! ## Conversions -/

theorem delivers_fromInt (f : Fmt) (c : FpCtl) (n : Int) : f.Delivers c n (f.fromInt c n) := by
  have := delivers_roundInt f c ⟨n, 0⟩ false
  rwa [Scaled.toRat, zpow_zero, mul_one] at this

theorem delivers_cvtSD {x : Word} (h : Fmt.Finite .d x) : Fmt.Delivers .s c (Fmt.value .d x) (cvtSD c x) := by
  obtain ⟨hn, hi⟩ := isNaN_of_finite h
  rw [cvtSD, if_neg (by rw [hn]; decide), if_neg (by rw [hi]; decide), ← val_toRat]
  exact delivers_roundInt .s c _ _

theorem delivers_cvtDS {x : Word} (h : Fmt.Finite .s x) : Fmt.Delivers .d c (Fmt.value .s x) (cvtDS c x) := by
  obtain ⟨hn, hi⟩ := isNaN_of_finite h
  rw [cvtDS, if_neg (by rw [hn]; decide), if_neg (by rw [hi]; decide), ← val_toRat]
  exact delivers_roundInt .d c _ _

end

end Sys2Proof.Machine
end


section
/-!
Scaling (R692, R693): far beyond the exponents of the format the scale no longer matters.
-/

namespace Sys2Proof.Machine

section
variable {f : Fmt} {c : FpCtl} {a : Word}

/-- A number less than half of the least subnormal is rounded to zero or to the least subnormal. -/
theorem round_small {neg : Bool} {m : Nat} {e : Int} (h : e + Nat.log2 m + 1 < f.emin - f.frac) (hm : m ≠ 0) :
    f.round c ⟨neg, m, e, false⟩ = ⟨f.pack neg (if roundsAway c.rm neg false 1 2 then 1 else 0), 0b00011#5⟩ := by
  have hexp : f.carryExp c ⟨neg, m, e, false⟩ ≤ e + Nat.log2 m + 1 := by
    rw [Fmt.carryExp, Exact.top]
    split <;> simp
  have hemin := emin_eq f
  have hlt : m < 2 ^ (Nat.log2 m + 1) := Nat.lt_log2_self
  obtain ⟨d, hd⟩ : ∃ d : Nat, (f.emin - f.frac - e).toNat = Nat.log2 m + 1 + 1 + d :=
    ⟨(f.emin - f.frac - e).toNat - (Nat.log2 m + 1 + 1), by omega⟩
  have hunit : 2 * m < 2 ^ (f.emin - f.frac - e).toNat := by
    calc 2 * m < 2 * 2 ^ (Nat.log2 m + 1) := by omega
      _ = 2 ^ (Nat.log2 m + 1 + 1) := (pow_succ' _ _).symm
      _ ≤ 2 ^ (f.emin - f.frac - e).toNat := by rw [hd]; exact Nat.pow_le_pow_right (by decide) (by omega)
  have hround : Exact.roundAt ⟨neg, m, e, false⟩ c.rm (f.emin - f.frac) =
      (if roundsAway c.rm neg false 1 2 then 1 else 0, true) := by
    have haway : roundsAway c.rm neg false (2 * m) (2 ^ (f.emin - f.frac - e).toNat) =
        roundsAway c.rm neg false 1 2 := by
      have hrest : (2 * m != 0) = true := bne_iff_ne.2 (by omega)
      cases c.rm with
      | even => simp [roundsAway, hunit.not_gt]
      | zero => rfl
      | up => simp [roundsAway, hm]
      | down => simp [roundsAway, hm]
    rw [Exact.roundAt, if_neg (by simp only; omega)]
    simp only [Nat.div_eq_of_lt (show m < 2 ^ (f.emin - f.frac - e).toNat by omega),
      Nat.mod_eq_of_lt (show m < 2 ^ (f.emin - f.frac - e).toNat by omega)]
    simp [haway, hm]
  rw [round_tiny (by omega) (by omega) hround]
  simp only
  refine congrArg₂ FpRes.mk rfl ?_
  cases c.trapU <;> decide

/-- Two results that overflow alike. -/
theorem delivers_of_overflows {q q' : ℚ} {r : FpRes} (hr : f.Delivers c q' r) (hq' : f.Overflows c.rm q')
    (hq : f.Overflows c.rm q) (hsign : q < 0 ↔ q' < 0) : f.Delivers c q r := by
  obtain ⟨hv, hz, hover, -⟩ := hr
  refine ⟨hv, hz, fun _ => ?_, fun h => absurd hq h⟩
  rw [hover hq', decide_eq_decide.2 hsign]

theorem log2_sig_le (f : Fmt) (x : Word) : Nat.log2 (f.sig x) ≤ f.frac := by
  by_cases h0 : f.sig x = 0
  · simp [h0]
  · exact Nat.lt_succ_iff.1 ((Nat.log2_lt h0).2 (sig_lt f x))

/-- The exponents of finite data. -/
theorem expo_bounds (ha : f.Finite a) : f.emin - f.frac ≤ f.expo a ∧ f.expo a + f.frac ≤ f.bias := by
  have hexp : f.exp a ≠ f.expMax := ha
  have hle := exp_le f a
  have hbias : 1 ≤ f.bias := by cases f <;> decide
  rw [expMax_eq] at hexp hle
  rw [Fmt.expo, emin_eq]
  omega

/-- Beyond these bounds every finite number overflows, or is less than half of the least subnormal. -/
theorem format_bounds (f : Fmt) : (f.bias : Int) + 1 ≤ f.emin - f.frac + 5000 ∧
    (f.bias : Int) - 5000 + 1 < f.emin - f.frac := by cases f <;> decide

/-- A large scale overflows. -/
theorem scale_overflows (ha : f.Finite a) (h0 : f.value a ≠ 0) {n : Int} (hn : 5000 ≤ n) :
    f.Overflows c.rm (f.value a * 2 ^ n) := by
  have hsig : (1 : ℚ) ≤ f.sig a := by exact_mod_cast sig_pos h0
  have hlow := (expo_bounds ha).1
  have hbound := (format_bounds f).1
  rw [overflows_iff]
  refine reaches_of_le ?_
  rw [abs_mul, abs_value, abs_of_pos (two_zpow_pos n), mul_assoc, ← zpow_add₀ two_ne_zero]
  calc (2 : ℚ) ^ ((f.bias : Int) + 1) ≤ 2 ^ (f.expo a + n) := zpow_le_zpow_right₀ one_le_two (by omega)
    _ ≤ f.sig a * 2 ^ (f.expo a + n) := le_mul_of_one_le_left (two_zpow_pos _).le hsig

theorem val_ne_zero (h0 : f.value a ≠ 0) : (f.val a).v ≠ 0 := mt Scaled.toRat_eq_zero.2 (by rwa [val_toRat])

/-- A small scale is one result. -/
theorem roundInt_small (ha : f.Finite a) (h0 : f.value a ≠ 0) {n : Int} (hn : n ≤ -5000) :
    f.roundInt c (f.val a).v ((f.val a).e + n) false = ⟨f.pack (decide ((f.val a).v < 0))
      (if roundsAway c.rm (decide ((f.val a).v < 0)) false 1 2 then 1 else 0), 0b00011#5⟩ := by
  have hnat : (f.val a).v.natAbs = f.sig a := by
    rw [Fmt.val]
    split <;> simp
  have hexpo : (f.val a).e = f.expo a := rfl
  have hv := val_ne_zero h0
  have hhigh := (expo_bounds ha).2
  have hbound := (format_bounds f).2
  have hlog := log2_sig_le f a
  rw [Fmt.roundInt, if_neg hv]
  refine round_small ?_ (by omega)
  rw [hnat, hexpo]
  omega

theorem scale_neg_iff (q : ℚ) (n : Int) : q * 2 ^ n < 0 ↔ q < 0 := by
  rw [mul_neg_iff, or_iff_right (fun h => h.2.not_gt (two_zpow_pos n)), and_iff_left (two_zpow_pos n)]

theorem delivers_scaled (f : Fmt) (c : FpCtl) (a : Word) (k : Int) :
    f.Delivers c (f.value a * 2 ^ k) (f.roundInt c (f.val a).v ((f.val a).e + k) false) := by
  have hscale : (⟨(f.val a).v, (f.val a).e + k⟩ : Scaled).toRat = f.value a * 2 ^ k := by
    rw [← val_toRat, Scaled.toRat, Scaled.toRat, zpow_add₀ two_ne_zero, mul_assoc]
  rw [← hscale]
  exact delivers_roundInt f c _ false

/-- Within the bounds of the clamp, and beyond them, the scale used delivers what the scale asked for does. -/
theorem delivers_clamped (ha : f.Finite a) (h0 : f.value a ≠ 0) {n k : Int}
    (h : n = k ∨ (5000 ≤ n ∧ 5000 ≤ k) ∨ (n ≤ -5000 ∧ k ≤ -5000)) :
    f.Delivers c (f.value a * 2 ^ n) (f.roundInt c (f.val a).v ((f.val a).e + k) false) := by
  obtain rfl | ⟨hn, hk⟩ | ⟨hn, hk⟩ := h
  · exact delivers_scaled f c a n
  · exact delivers_of_overflows (delivers_scaled f c a k) (scale_overflows ha h0 hk) (scale_overflows ha h0 hn)
      ((scale_neg_iff _ n).trans (scale_neg_iff _ k).symm)
  · rw [roundInt_small ha h0 hk, ← roundInt_small ha h0 hn]
    exact delivers_scaled f c a n

theorem clampScale_cases (n : Int) :
    n = clampScale n ∨ (5000 ≤ n ∧ 5000 ≤ clampScale n) ∨ (n ≤ -5000 ∧ clampScale n ≤ -5000) := by
  rw [clampScale]
  split
  · omega
  · split <;> omega

theorem delivers_scaleB (ha : f.Finite a) (n : Int) : f.Delivers c (f.value a * 2 ^ n) (f.scaleB c a n) := by
  obtain ⟨hna, hia⟩ := isNaN_of_finite ha
  rw [Fmt.scaleB, orNaN_one hna, hia, Bool.false_or]
  by_cases h0 : f.value a = 0
  · have hz := (value_eq_zero_iff f a).1 h0
    rw [if_pos hz, h0, zero_mul]
    exact delivers_zero c hz
  · rw [if_neg (by rw [isZero_eq_false h0]; decide)]
    exact delivers_clamped ha h0 (clampScale_cases n)

end

end Sys2Proof.Machine
end

section
/-!
Exact results: FLOGB and FRINT (R694, R695, R731, R732).
-/

namespace Sys2Proof.Machine

section
variable {f : Fmt} {c : FpCtl} {rm : Rounding} {x y : Word}

/-! ## Data round to themselves -/

/-- A finite datum does not overflow. -/
theorem not_overflows_value (hy : f.Finite y) : ¬f.Overflows rm (f.value y) := by
  have hmax : f.magValue (f.infMag - 1) = 2 ^ ((f.bias : Int) + 1) - 2 ^ ((f.bias : Int) - f.frac) := by
    have hsplit : f.infMag - 1 = (2 * f.bias - 1) * 2 ^ f.frac + (2 ^ (f.frac + 1) - 1) := by cases f <;> decide
    have hbias : 1 ≤ 2 * f.bias := by cases f <;> decide
    have hone : 1 ≤ 2 ^ (f.frac + 1) := Nat.one_le_two_pow
    rw [hsplit, magValue_normal f (by rw [pow_succ]; have := Nat.two_pow_pos f.frac; omega) (Nat.sub_le _ _)]
    push_cast [hone, hbias]
    rw [emin_eq, show (1 : Int) - f.bias - f.frac + (2 * f.bias - 1) = f.bias - f.frac by ring, sub_mul, one_mul,
      ← zpow_natCast, ← zpow_add₀ two_ne_zero]
    congr 2
    push_cast
    ring
  have hle : |f.value y| ≤ f.magValue (f.infMag - 1) := by
    rw [value_eq_signed_mag, abs_signed _ (magValue_nonneg f _)]
    have := (finite_iff f y).1 hy
    exact (magValue_strictMono f).monotone (by omega)
  have hpos : (0 : ℚ) < 2 ^ ((f.bias : Int) - f.frac) := two_zpow_pos _
  rw [hmax] at hle
  rw [overflows_iff]
  cases rm with
  | even => exact not_le.2 (by linarith)
  | zero => exact not_le.2 (by linarith)
  | up =>
    rw [Fmt.Reaches]
    split
    · exact not_le.2 (by linarith)
    · exact not_lt.2 hle
  | down =>
    rw [Fmt.Reaches]
    split
    · exact not_lt.2 hle
    · exact not_le.2 (by linarith)

theorem rounds_value (h : f.Rounds rm (f.value y) x) (hy : f.Finite y) : f.value x = f.value y := by
  obtain ⟨-, h⟩ := h
  cases rm with
  | down => exact le_antisymm h.1 (h.2 y hy le_rfl)
  | up => exact le_antisymm (h.2 y hy le_rfl) h.1
  | zero =>
    obtain ⟨hle, hsign, hmax⟩ := h
    have habs := le_antisymm hle (hmax y hy le_rfl (mul_self_nonneg _))
    obtain heq | heq := abs_eq_abs.1 habs
    · exact heq
    · rw [heq] at hsign ⊢
      have : f.value y = 0 := by nlinarith [sq_nonneg (f.value y)]
      rw [this, neg_zero]
  | even =>
    have hle := (h y hy).1
    rw [sub_self, abs_zero] at hle
    exact sub_eq_zero.1 (abs_eq_zero.1 (le_antisymm hle (abs_nonneg _)))

/-- A datum is delivered as it is. -/
theorem delivers_value {r : FpRes} (h : f.Delivers c (f.value y) r) (hy : f.Finite y) :
    f.Finite r.bits ∧ f.value r.bits = f.value y ∧
      (f.value y = 0 ∨ 2 ^ f.emin ≤ |f.value y| → r.exc = 0#5) := by
  obtain ⟨hv, hz, -, hin⟩ := h
  obtain ⟨ho, hround, hi, hu, -⟩ := hin (not_overflows_value hy)
  have hvalue := rounds_value hround hy
  refine ⟨hround.1, hvalue, fun hnormal => BitVec.eq_of_getLsbD_eq fun k hk => ?_⟩
  rw [BitVec.getLsbD_zero]
  have hcases : k = 0 ∨ k = 1 ∨ k = 2 ∨ k = 3 ∨ k = 4 := by omega
  obtain rfl | rfl | rfl | rfl | rfl := hcases
  · exact Bool.eq_false_iff.2 fun h => hi.1 h hvalue
  · refine Bool.eq_false_iff.2 fun h => ?_
    obtain ⟨ht, -⟩ := hu.1 h
    have hne := ht.1
    obtain h0 | hle := hnormal
    · exact hne h0
    · refine (tiny_iff hne).1 ht (reaches_of_le ?_)
      rwa [sub_add_cancel]
  · exact ho
  · exact hz
  · exact hv

/-- A small natural number is a datum. -/
theorem exists_value_eq (f : Fmt) {n : Nat} (hn : n ≤ 2 ^ f.frac) (neg : Bool) :
    ∃ y, f.Finite y ∧ f.value y = signed neg n := by
  by_cases h0 : n = 0
  · have hpos : 0 < f.infMag := by cases f <;> decide
    refine ⟨f.pack neg 0, finite_pack f neg hpos, ?_⟩
    rw [value_pack f neg (hpos.trans (infMag_lt f)), magValue_zero, h0, Nat.cast_zero]
  have hlog : Nat.log2 n ≤ f.frac := by
    by_contra hlt
    have := (Nat.le_log2 h0).1 (not_le.1 hlt)
    rw [Nat.succ_eq_add_one, pow_succ] at this
    have := Nat.two_pow_pos f.frac
    omega
  obtain ⟨d, hd⟩ := Nat.exists_eq_add_of_le hlog
  have hlow : 2 ^ f.frac ≤ n * 2 ^ d := by
    rw [hd, pow_add]
    exact Nat.mul_le_mul_right _ (Nat.log2_self_le h0)
  have hhigh : n * 2 ^ d < 2 ^ (f.frac + 1) := by
    rw [hd, add_right_comm, pow_add]
    exact Nat.mul_lt_mul_of_pos_right Nat.lt_log2_self (Nat.two_pow_pos d)
  have hbias : f.frac + 1 ≤ f.bias := by cases f <;> decide
  have hmag : f.magValue ((f.bias - 1 + Nat.log2 n) * 2 ^ f.frac + n * 2 ^ d) = n := by
    rw [magValue_normal f hlow hhigh.le]
    push_cast [show 1 ≤ f.bias by omega]
    rw [emin_eq, mul_assoc, ← zpow_natCast, ← zpow_add₀ two_ne_zero,
      show (d : Int) + (1 - f.bias - f.frac + (f.bias - 1 + Nat.log2 n)) = 0 by omega, zpow_zero, mul_one]
  have hlt : (f.bias - 1 + Nat.log2 n) * 2 ^ f.frac + n * 2 ^ d < f.infMag := by
    rw [Fmt.infMag, expMax_eq]
    calc _ < (f.bias - 1 + Nat.log2 n) * 2 ^ f.frac + 2 * 2 ^ f.frac := by rw [← pow_succ']; omega
      _ = (f.bias - 1 + Nat.log2 n + 2) * 2 ^ f.frac := by ring
      _ ≤ _ := Nat.mul_le_mul_right _ (by omega)
  exact ⟨f.pack neg _, finite_pack f neg hlt, by rw [value_pack f neg (hlt.trans (infMag_lt f)), hmag]⟩

/-! ## FLOGB -/

theorem signed_natAbs (e : Int) : signed (decide (e < 0)) (e.natAbs : ℚ) = e := by
  have habs : (e.natAbs : ℚ) = |(e : ℚ)| := by rw [← Int.cast_abs, Int.abs_eq_natAbs, Int.cast_natCast]
  have hneg : decide (e < 0) = decide ((e : ℚ) < 0) := decide_eq_decide.2 Int.cast_lt_zero.symm
  rw [habs, hneg, signed_abs]

/-- A small integer converts exactly. -/
theorem fromInt_small {e : Int} (he : e.natAbs ≤ 2 ^ f.frac) : f.Finite (f.fromInt c e).bits ∧
    f.value (f.fromInt c e).bits = e ∧ (f.fromInt c e).exc = 0#5 := by
  obtain ⟨y, hy, hvalue⟩ := exists_value_eq f he (decide (e < 0))
  rw [signed_natAbs] at hvalue
  have hdeliver := delivers_fromInt f c e
  rw [← hvalue] at hdeliver
  obtain ⟨hfin, hres, hexc⟩ := delivers_value hdeliver hy
  refine ⟨hfin, hres.trans hvalue, hexc ?_⟩
  rw [hvalue]
  by_cases h0 : e = 0
  · exact .inl (by rw [h0, Int.cast_zero])
  · right
    have hemin : f.emin ≤ 0 := by cases f <;> decide
    calc (2 : ℚ) ^ f.emin ≤ 2 ^ (0 : Int) := zpow_le_zpow_right₀ one_le_two hemin
      _ = 1 := zpow_zero _
      _ ≤ |(e : ℚ)| := by
        rw [← Int.cast_abs]
        exact_mod_cast Int.one_le_abs h0

theorem logB_spec {a : Word} (ha : f.Finite a) (h0 : f.value a ≠ 0) : ∃ (e : Int) (x : Word),
    (2 : ℚ) ^ e ≤ |f.value a| ∧ |f.value a| < 2 ^ (e + 1) ∧ f.logB c a = ⟨x, excNone⟩ ∧ f.Finite x ∧
      f.value x = e ∧ (e = 0 → f.sign x = false) := by
  obtain ⟨hna, hia⟩ := isNaN_of_finite ha
  obtain ⟨hlow, hhigh⟩ := (exactOf_is f a).bounds (x := f.exactOf a) (sig_pos h0).ne'
  rw [← abs_value] at hlow hhigh
  obtain ⟨hexpo, hexpo'⟩ := expo_bounds ha
  have hlog := log2_sig_le f a
  have hbound : -((2 ^ f.frac : Nat) : Int) ≤ f.emin - f.frac ∧ (f.bias : Int) ≤ (2 ^ f.frac : Nat) := by
    cases f <;> decide
  have htop : (f.exactOf a).top = f.expo a + Nat.log2 (f.sig a) := rfl
  have hdef : f.logB c a = f.fromInt c (f.exactOf a).top := by
    rw [Fmt.logB, orNaN_one hna, if_neg (by rw [hia]; decide), if_neg (by rw [isZero_eq_false h0]; decide)]
    rfl
  obtain ⟨hfin, hvalue, hexc⟩ := fromInt_small (c := c) (f := f) (e := (f.exactOf a).top) (by rw [htop]; omega)
  refine ⟨_, _, hlow, hhigh, hdef.trans ?_, hfin, hvalue, fun he => ?_⟩
  · rw [excNone, ← hexc]
  · rw [he]
    exact sign_pack f false (by positivity)

/-! ## FRINT -/

/-- The integer a datum is rounded to is a datum. -/
theorem exists_value_integerOf {a : Word} (ha : f.Finite a) (rm : Rounding) :
    ∃ y, f.Finite y ∧ f.value y = integerOf rm (f.value a) := by
  by_cases hexpo : 0 ≤ f.expo a
  · refine ⟨a, ha, ?_⟩
    have hflag := (toInt_spec f a rm).2
    rw [Fmt.toInt, Exact.roundAt, if_pos hexpo] at hflag
    exact (not_not.1 (of_decide_eq_false hflag.symm)).symm
  · have hround := (roundAt_spec (exactOf_is f a) rm (q := 0) nofun).1
    have hint := (toInt_spec f a rm).1
    rw [zpow_zero, div_one] at hround
    have hk : ((f.exactOf a).roundAt rm 0).1 ≤ 2 ^ f.frac := by
      refine hround.le_of_ge ?_
      calc (f.sig a : ℚ) * 2 ^ f.expo a ≤ 2 ^ (f.frac + 1) * 2 ^ (-1 : Int) :=
            mul_le_mul (by exact_mod_cast (sig_lt f a).le) (zpow_le_zpow_right₀ one_le_two (by omega))
              (two_zpow_pos _).le (by positivity)
        _ = ((2 ^ f.frac : Nat) : ℚ) := by
            push_cast
            rw [pow_succ, zpow_neg_one, mul_inv_cancel_right₀ two_ne_zero]
    obtain ⟨y, hy, hvalue⟩ := exists_value_eq f hk (f.sign a)
    refine ⟨y, hy, hvalue.trans ?_⟩
    rw [← hint, Fmt.toInt, signed, ← Fmt.exactOf]
    split <;> simp

/-- The rounded integer as a datum, with the sign of the operand. -/
theorem roundInt_integerOf {a : Word} (ha : f.Finite a) {r : FpRes}
    (hr : f.roundInt c (integerOf c.rm (f.value a)) 0 (f.sign a) = r) :
    f.Finite r.bits ∧ f.value r.bits = integerOf c.rm (f.value a) ∧ f.sign r.bits = f.sign a := by
  obtain ⟨y, hy, hvalue⟩ := exists_value_integerOf ha c.rm
  obtain ⟨k, hk⟩ := integerOf_value_sign f a c.rm
  have hdeliver : f.Delivers c (integerOf c.rm (f.value a)) r := by
    have := delivers_roundInt f c ⟨integerOf c.rm (f.value a), 0⟩ (f.sign a)
    rwa [Scaled.toRat, zpow_zero, mul_one, hr] at this
  rw [← hvalue] at hdeliver
  obtain ⟨hfin, hres, -⟩ := delivers_value hdeliver hy
  refine ⟨hfin, hres.trans hvalue, ?_⟩
  by_cases hN : integerOf c.rm (f.value a) = 0
  · rw [← hr, Fmt.roundInt, if_pos hN]
    exact sign_pack f _ (by positivity)
  · obtain ⟨-, -, -, hin⟩ := hdeliver
    obtain ⟨-, -, -, -, hsign⟩ := hin (not_overflows_value hy)
    rw [hvalue] at hsign
    rw [hsign (by exact_mod_cast hN), hk]
    cases hs : f.sign a with
    | true =>
      rw [hs, if_pos rfl] at hk
      rw [if_pos rfl]
      exact decide_eq_true (by exact_mod_cast (by omega : -(k : Int) < 0))
    | false =>
      rw [if_neg (by decide)]
      exact decide_eq_false (by simp)

theorem integerOf_zero (rm : Rounding) : integerOf rm 0 = 0 := by
  simpa [signed] using integerOf_signed (neg := false) le_rfl (roundsMag_exact rm false 0 (K := ℚ))

theorem rint_spec {a : Word} (ha : f.Finite a) (report : Bool) : f.Finite (f.rint c report a).bits ∧
    f.value (f.rint c report a).bits = integerOf c.rm (f.value a) ∧ f.sign (f.rint c report a).bits = f.sign a ∧
    (f.rint c report a).exc = excI (report && decide ((integerOf c.rm (f.value a) : ℚ) ≠ f.value a)) := by
  obtain ⟨hna, hia⟩ := isNaN_of_finite ha
  obtain ⟨hint, hflag⟩ := toInt_spec f a c.rm
  rw [Fmt.rint, orNaN_one hna, hia, Bool.false_or]
  by_cases h0 : f.value a = 0
  · rw [if_pos ((value_eq_zero_iff f a).1 h0), h0, integerOf_zero]
    refine ⟨ha, h0.trans Int.cast_zero.symm, rfl, ?_⟩
    simp [FpRes.exact, excI, excNone]
  · rw [if_neg (by rw [isZero_eq_false h0]; decide)]
    simp only [hint, hflag]
    obtain ⟨hfin, hvalue, hsign⟩ := roundInt_integerOf (c := c) ha rfl
    exact ⟨hfin, hvalue, hsign, by rw [Bool.and_comm]⟩

end

end Sys2Proof.Machine
end


section
/-!
Roots (R686, R687, R690, R691): the cut root stands for a real number, whose rounding the bounds of `RoundsRoot` name.
-/

namespace Sys2Proof.Machine

/-! ## The integer square root -/

theorem isqrtFrom_spec (m : Nat) : ∀ n r : Nat, r * r ≤ m → m < (r + 2 ^ n) * (r + 2 ^ n) →
    isqrtFrom m n r * isqrtFrom m n r ≤ m ∧ m < (isqrtFrom m n r + 1) * (isqrtFrom m n r + 1)
  | 0, r, hlow, hhigh => ⟨hlow, hhigh⟩
  | n + 1, r, hlow, hhigh => by
    rw [isqrtFrom]
    split
    case isTrue h =>
      refine isqrtFrom_spec m n _ h ?_
      rwa [add_assoc, ← two_mul, ← pow_succ']
    case isFalse h => exact isqrtFrom_spec m n r hlow (not_le.1 h)

theorem isqrt_spec (m : Nat) : isqrt m * isqrt m ≤ m ∧ m < (isqrt m + 1) * (isqrt m + 1) := by
  refine isqrtFrom_spec m _ 0 (Nat.zero_le _) ?_
  rw [zero_add, ← pow_add]
  exact Nat.lt_log2_self.trans_le (Nat.pow_le_pow_right (by decide) (by omega))

theorem le_isqrt {k m : Nat} (h : k * k ≤ m) : k ≤ isqrt m := by
  by_contra hlt
  have := Nat.mul_self_le_mul_self (not_le.1 hlt)
  have := (isqrt_spec m).2
  rw [Nat.succ_eq_add_one] at *
  omega

/-- A root cut to an integer. -/
theorem root_is {P : ℝ} {r : Nat} {sticky : Bool} (hlow : (r : ℝ) ^ 2 ≤ P) (hhigh : P < (r + 1) ^ 2)
    (hs : sticky = false ↔ (r : ℝ) ^ 2 = P) (e : Int) : (Exact.mk false r e sticky).Is (√P * 2 ^ e) := by
  have hpos : (0 : ℝ) < 2 ^ e := two_zpow_pos _
  rw [Exact.Is]
  cases sticky with
  | false =>
    rw [if_neg Bool.false_ne_true, ← hs.1 rfl, Real.sqrt_sq (Nat.cast_nonneg r)]
  | true =>
    have hne : (r : ℝ) ^ 2 ≠ P := fun h => Bool.noConfusion (hs.2 h)
    have h1 : (r : ℝ) < √P := Real.lt_sqrt_of_sq_lt (lt_of_le_of_ne hlow hne)
    have h2 : √P < r + 1 := (Real.sqrt_lt' (by positivity)).2 hhigh
    exact ⟨mul_lt_mul_of_pos_right h1 hpos, mul_lt_mul_of_pos_right h2 hpos⟩

/-! ## Delivering a root -/

section
variable {f : Fmt} {c : FpCtl}

theorem value_eq_magValue {y : Word} (h : 0 ≤ f.value y) : f.value y = f.magValue (f.mag y) := by
  have hW := magValue_nonneg f (f.mag y)
  rw [value_eq_signed_mag, signed] at *
  split at h
  · rw [if_pos ‹_›]
    linarith
  · rw [if_neg ‹_›]

/-- The nearer of two numbers is on this side of their middle. -/
theorem le_middle {V W Q : ℝ} (h : |V - Q| ≤ |W - Q|) (hVW : V < W) : Q ≤ (V + W) / 2 := by
  by_contra hlt
  rw [not_le] at hlt
  refine absurd h (not_le.2 ?_)
  rw [abs_of_neg (by linarith : V - Q < 0)]
  exact abs_lt.2 ⟨by linarith, by linarith⟩

theorem middle_le {V W Q : ℝ} (h : |V - Q| ≤ |W - Q|) (hVW : W < V) : (V + W) / 2 ≤ Q := by
  by_contra hlt
  rw [not_le] at hlt
  refine absurd h (not_le.2 ?_)
  rw [abs_of_pos (by linarith : 0 < V - Q)]
  exact abs_lt.2 ⟨by linarith, by linarith⟩

section
variable {Q : ℝ} {below above : ℚ → Prop} (hbelow : ∀ y : ℚ, 0 ≤ y → (below y ↔ (y : ℝ) ≤ Q))
  (habove : ∀ y : ℚ, 0 ≤ y → (above y ↔ Q ≤ y))
include hbelow habove

theorem roundsRoot_of_mag {rm : Rounding} {m : Nat} (hm : m < f.infMag) (h : f.RoundsMagTo rm false Q m) :
    f.RoundsRoot rm below above (f.pack false m) := by
  have hpos := hm.trans (infMag_lt f)
  have hV := magValue_nonneg f m
  have hvalue : f.value (f.pack false m) = f.magValue m := value_pack f false hpos
  have mono {i j : Nat} (hij : i ≤ j) : f.magValue i ≤ f.magValue j := (magValue_strictMono f).monotone hij
  have trunc (ht : f.TruncatesTo Q m) : below (f.magValue m) ∧
      ∀ y, f.Finite y → 0 ≤ f.value y → below (f.value y) → f.value y ≤ f.magValue m := by
    refine ⟨(hbelow _ hV).2 ht.1, fun y _ h0 hb => ?_⟩
    rw [hbelow _ h0, value_eq_magValue h0] at hb
    rw [value_eq_magValue h0]
    exact mono (ht.2 _ hb)
  refine ⟨finite_pack f _ hm, sign_pack f _ hpos, ?_⟩
  rw [hvalue]
  cases rm with
  | down => exact trunc h
  | zero => exact trunc h
  | up =>
    obtain ⟨hle, hmin⟩ : f.AwayTo Q m := h
    refine ⟨(habove _ hV).2 hle, fun y _ h0 ha => ?_⟩
    rw [habove _ h0, value_eq_magValue h0] at ha
    rw [value_eq_magValue h0]
    exact mono (hmin _ ha)
  | even =>
    intro y _ h0
    have hnear := ((show f.NearestTo Q m from h) (f.mag y)).1
    rw [← value_eq_magValue h0] at hnear
    refine ⟨fun hlt => ?_, fun hlt => ?_⟩
    · rw [habove _ (by linarith)]
      push_cast
      exact le_middle hnear (by exact_mod_cast hlt)
    · rw [hbelow _ (by linarith)]
      push_cast
      exact middle_le hnear (by exact_mod_cast hlt)

theorem deliversRoot_of {x : Exact} (hlow : 2 ^ f.emin ≤ Q) (hhigh : Q < 2 ^ (f.bias : Int)) (hx : x.Is Q)
    (hneg : x.neg = false) (hs : f.frac < Nat.log2 x.m) : f.DeliversRoot c.rm below above (f.round c x) := by
  have hm : x.m ≠ 0 := by
    intro h0
    rw [h0] at hs
    simp at hs
  obtain ⟨m, hmag⟩ := (round_delivers (c := c) hx hm fun _ => hs).2 (not_reaches_of_lt hhigh)
  have hpos := hmag.finite.trans (infMag_lt f)
  have hrounds := hmag.rounds
  have hbits := hmag.bits
  rw [hneg] at hrounds hbits
  have hvalue : f.value (f.round c x).bits = f.magValue m := by
    rw [hbits]
    exact value_pack f false hpos
  have hexact : below (f.magValue m) ∧ above (f.magValue m) ↔ (f.magValue m : ℝ) = Q := by
    rw [hbelow _ (magValue_nonneg f m), habove _ (magValue_nonneg f m)]
    exact le_antisymm_iff.symm
  have hexc : (f.round c x).exc = if (f.magValue m : ℝ) = Q then 0#5 else 0b00001#5 := by
    have hunder : (f.round c x).exc.getLsbD 1 = false := by
      rw [Bool.eq_false_iff]
      exact fun h => (hmag.underflow.1 h).1 (reaches_of_le (by rwa [sub_add_cancel]))
    have hin : (f.round c x).exc.getLsbD 0 = decide ((f.magValue m : ℝ) ≠ Q) := by
      rw [Bool.eq_iff_iff, decide_eq_true_iff]
      exact hmag.inexact
    refine BitVec.eq_of_getLsbD_eq fun k hk => ?_
    have hcases : k = 0 ∨ k = 1 ∨ k = 2 ∨ k = 3 ∨ k = 4 := by omega
    obtain rfl | rfl | rfl | rfl | rfl := hcases
    · rw [hin]
      by_cases h : (f.magValue m : ℝ) = Q <;> simp [h]
    · rw [hunder]
      split <;> rfl
    · rw [hmag.overflow]
      split <;> rfl
    · rw [hmag.divByZero]
      split <;> rfl
    · rw [hmag.invalid]
      split <;> rfl
  refine ⟨by rw [hbits]; exact roundsRoot_of_mag hbelow habove hmag.finite hrounds, ?_, ?_⟩
  · rw [hvalue, hexact, hexc]
    exact fun h => if_pos h
  · rw [hvalue, hexact, hexc]
    exact fun h => if_neg h

end

/-! ## The roots of a datum -/

section
variable {a : Word}

theorem sign_of_pos (h : 0 < f.value a) : f.sign a = false := by
  rw [sign_eq_of_ne h.ne']
  exact decide_eq_false h.not_gt

/-- A positive datum as a significand times an even power of two. -/
theorem value_eq_evenSig (h : 0 < f.value a) : f.value a = f.evenSig a * 2 ^ (2 * f.halfExpo a) := by
  rw [← abs_of_pos h, abs_value, Fmt.evenSig, Fmt.halfExpo]
  by_cases heven : f.expo a % 2 = 0
  · rw [if_pos heven, show 2 * (f.expo a / 2) = f.expo a by omega]
  · rw [if_neg heven, show f.expo a = 2 * (f.expo a / 2) + 1 by omega, zpow_add_one₀ two_ne_zero]
    push_cast
    rw [show (2 * (f.expo a / 2) + 1) / 2 = f.expo a / 2 by omega]
    ring

theorem evenSig_bounds (h : 0 < f.value a) : 0 < f.evenSig a ∧ f.evenSig a < 2 ^ (f.frac + 2) := by
  have hpos := sig_pos h.ne'
  have hlt := sig_lt f a
  rw [Fmt.evenSig, pow_succ]
  split <;> omega

/-- The range of positive data, far inside the squares of the bounds of the exponent. -/
theorem value_bounds (ha : f.Finite a) (h : 0 < f.value a) :
    (2 : ℝ) ^ (2 * f.emin) ≤ f.value a ∧ (f.value a : ℝ) < 2 ^ (-(2 * f.emin)) := by
  have hsig : (1 : ℝ) ≤ f.sig a := by exact_mod_cast sig_pos h.ne'
  have hsig' : (f.sig a : ℝ) < 2 ^ (f.frac + 1) := by exact_mod_cast sig_lt f a
  have hpos : (0 : ℝ) < 2 ^ f.expo a := two_zpow_pos _
  obtain ⟨hlow, hhigh⟩ := expo_bounds ha
  have hemin : 2 * f.emin ≤ f.emin - f.frac ∧ (f.bias : Int) + 1 ≤ -(2 * f.emin) := by cases f <;> decide
  have hvalue : (f.value a : ℝ) = f.sig a * 2 ^ f.expo a := by
    rw [← abs_of_pos h, abs_value]
    push_cast
    rfl
  rw [hvalue]
  constructor
  · calc (2 : ℝ) ^ (2 * f.emin) ≤ 2 ^ f.expo a := zpow_le_zpow_right₀ one_le_two (by omega)
      _ ≤ f.sig a * 2 ^ f.expo a := le_mul_of_one_le_left hpos.le hsig
  · calc (f.sig a : ℝ) * 2 ^ f.expo a < 2 ^ (f.frac + 1) * 2 ^ f.expo a := mul_lt_mul_of_pos_right hsig' hpos
      _ = 2 ^ ((f.frac + 1 : Nat) + f.expo a) := by rw [← zpow_natCast, ← zpow_add₀ two_ne_zero]
      _ ≤ 2 ^ (-(2 * f.emin)) := zpow_le_zpow_right₀ one_le_two (by push_cast; omega)

/-- A real number whose square stands in the range of the data is inside the range of the normal data. -/
theorem root_range {Q : ℝ} (hQ : 0 ≤ Q) (hlow : (2 : ℝ) ^ (2 * f.emin) ≤ Q ^ 2) (hhigh : Q ^ 2 ≤ 2 ^ (-(2 * f.emin))) :
    2 ^ f.emin ≤ Q ∧ Q < 2 ^ (f.bias : Int) := by
  have hsq (k : Int) : (2 : ℝ) ^ (2 * k) = (2 ^ k) ^ 2 := by rw [mul_comm, zpow_mul]; norm_cast
  rw [← mul_neg, hsq] at hhigh
  rw [hsq] at hlow
  have hemin : -f.emin < f.bias := by rw [emin_eq]; omega
  exact ⟨le_of_sq_le_sq hlow hQ, (le_of_sq_le_sq hhigh (two_zpow_pos _).le).trans_lt
    (zpow_lt_zpow_right₀ one_lt_two hemin)⟩

theorem root_sq {P : ℝ} (hP : 0 ≤ P) (e : Int) : (√P * 2 ^ e) ^ 2 = P * 2 ^ (2 * e) := by
  rw [mul_pow, Real.sq_sqrt hP, mul_comm 2 e, zpow_mul]
  norm_cast

/-- The cut root of a positive datum. -/
theorem exactSqrt_is (h : 0 < f.value a) : ∃ Q : ℝ, 0 ≤ Q ∧ Q ^ 2 = f.value a ∧ (f.exactSqrt a).Is Q := by
  obtain ⟨hlow, hhigh⟩ := isqrt_spec (f.evenSig a * 2 ^ (2 * (f.frac + 4)))
  refine ⟨√((f.evenSig a * 2 ^ (2 * (f.frac + 4)) : Nat) : ℝ) * 2 ^ (f.halfExpo a - (f.frac + 4 : Nat)), by positivity,
    ?_, root_is ?_ ?_ ?_ _⟩
  · rw [root_sq (Nat.cast_nonneg _), value_eq_evenSig h]
    push_cast
    rw [mul_assoc, ← zpow_natCast, ← zpow_add₀ two_ne_zero]
    congr 2
    push_cast
    ring
  · rw [sq]
    exact_mod_cast hlow
  · rw [sq]
    exact_mod_cast hhigh
  · rw [bne_eq_false_iff_eq, sq]
    exact_mod_cast Iff.rfl

theorem exactSqrt_bits (h : 0 < f.value a) : f.frac < Nat.log2 (f.exactSqrt a).m := by
  have hlow : 2 ^ (f.frac + 4) ≤ (f.exactSqrt a).m := by
    refine le_isqrt ?_
    rw [← pow_add, ← two_mul]
    exact Nat.le_mul_of_pos_left _ (evenSig_bounds h).1
  exact (Nat.le_log2 (by have := Nat.two_pow_pos (f.frac + 4); omega)).2
    ((Nat.pow_le_pow_right (by decide) (by omega)).trans hlow)

theorem sqrt_delivers (ha : f.Finite a) (h : 0 < f.value a) :
    f.DeliversRoot c.rm (fun y => y ^ 2 ≤ f.value a) (fun y => f.value a ≤ y ^ 2) (f.sqrt c a) := by
  obtain ⟨hna, hia⟩ := isNaN_of_finite ha
  have hdef : f.sqrt c a = f.round c (f.exactSqrt a) := by
    rw [Fmt.sqrt, orNaN_one hna, if_neg (by rw [isZero_eq_false h.ne']; decide), if_neg (by rw [sign_of_pos h]; decide),
      if_neg (by rw [hia]; decide)]
  obtain ⟨Q, hQ, hsq, hx⟩ := exactSqrt_is h
  obtain ⟨hlow, hhigh⟩ := value_bounds ha h
  obtain ⟨hlow', hhigh'⟩ := root_range (f := f) hQ (hlow.trans_eq hsq.symm) (hsq.trans_le hhigh.le)
  rw [hdef]
  refine deliversRoot_of (fun y hy => ?_) (fun y hy => ?_) hlow' hhigh' hx rfl (exactSqrt_bits h)
  · rw [← pow_le_pow_iff_left₀ (by exact_mod_cast hy) hQ two_ne_zero, hsq]
    exact_mod_cast Iff.rfl
  · rw [← pow_le_pow_iff_left₀ hQ (by exact_mod_cast hy) two_ne_zero, hsq]
    exact_mod_cast Iff.rfl

/-- The cut reciprocal of the root of a positive datum. -/
theorem exactRsqrt_is (h : 0 < f.value a) :
    ∃ Q : ℝ, 0 ≤ Q ∧ Q ^ 2 * f.value a = 1 ∧ (f.exactRsqrt a).Is Q := by
  have hE := (evenSig_bounds h).1
  have hE' : (0 : ℝ) < f.evenSig a := by exact_mod_cast hE
  obtain ⟨hlow, hhigh⟩ := isqrt_spec (2 ^ (2 * (2 * f.frac)) / f.evenSig a)
  have hlow' := (Nat.le_div_iff_mul_le hE).1 hlow
  have hhigh' := (Nat.div_lt_iff_lt_mul hE).1 hhigh
  have hvalue : (f.value a : ℝ) = f.evenSig a * 2 ^ (2 * f.halfExpo a) := by
    rw [value_eq_evenSig h]
    push_cast
    rfl
  refine ⟨√(((2 ^ (2 * (2 * f.frac)) : Nat) : ℝ) / f.evenSig a) * 2 ^ (-f.halfExpo a - (2 * f.frac : Nat)),
    by positivity, ?_, root_is ?_ ?_ ?_ _⟩
  · rw [root_sq (by positivity), hvalue]
    push_cast
    rw [div_mul_eq_mul_div, div_mul_eq_mul_div, mul_left_comm, ← zpow_natCast, ← zpow_add₀ two_ne_zero,
      ← zpow_add₀ two_ne_zero, show ((2 * (2 * f.frac) : Nat) : Int) + 2 * (-f.halfExpo a - 2 * f.frac) +
        2 * f.halfExpo a = 0 by push_cast; ring, zpow_zero, mul_one, div_self hE'.ne']
  · rw [le_div_iff₀ hE', sq]
    exact_mod_cast hlow'
  · rw [div_lt_iff₀ hE', sq]
    exact_mod_cast hhigh'
  · rw [bne_eq_false_iff_eq, eq_div_iff hE'.ne', sq]
    exact_mod_cast Iff.rfl

theorem exactRsqrt_bits (h : 0 < f.value a) : f.frac < Nat.log2 (f.exactRsqrt a).m := by
  obtain ⟨hE, hE'⟩ := evenSig_bounds h
  have hfrac : (f.frac + 1) + (f.frac + 1) + (f.frac + 2) ≤ 2 * (2 * f.frac) := by cases f <;> decide
  have hlow : 2 ^ (f.frac + 1) ≤ (f.exactRsqrt a).m := by
    refine le_isqrt ((Nat.le_div_iff_mul_le hE).2 ?_)
    calc 2 ^ (f.frac + 1) * 2 ^ (f.frac + 1) * f.evenSig a ≤ 2 ^ (f.frac + 1) * 2 ^ (f.frac + 1) * 2 ^ (f.frac + 2) :=
          Nat.mul_le_mul_left _ hE'.le
      _ = 2 ^ ((f.frac + 1) + (f.frac + 1) + (f.frac + 2)) := by rw [← pow_add, ← pow_add]
      _ ≤ 2 ^ (2 * (2 * f.frac)) := Nat.pow_le_pow_right (by decide) hfrac
  exact (Nat.le_log2 (by have := Nat.two_pow_pos (f.frac + 1); omega)).2 hlow

/-- The branches of FRSQRT that a positive finite operand leaves. -/
theorem rsqrt_eq (ha : f.Finite a) (h : 0 < f.value a) (twice : Bool) :
    f.rsqrt c twice a = if twice then f.rsqrtTwice c a else f.round c (f.exactRsqrt a) := by
  obtain ⟨hna, hia⟩ := isNaN_of_finite ha
  rw [Fmt.rsqrt, orNaN_one hna, if_neg (by rw [isZero_eq_false h.ne']; decide), if_neg (by rw [sign_of_pos h]; decide),
    if_neg (by rw [hia]; decide)]

theorem rsqrt_delivers (ha : f.Finite a) (h : 0 < f.value a) :
    f.DeliversRoot c.rm (fun y => y ^ 2 * f.value a ≤ 1) (fun y => 1 ≤ y ^ 2 * f.value a) (f.rsqrt c false a) := by
  obtain ⟨Q, hQ, hsq, hx⟩ := exactRsqrt_is h
  obtain ⟨hlow, hhigh⟩ := value_bounds ha h
  have hv : (0 : ℝ) < f.value a := by exact_mod_cast h
  have hQ2 : Q ^ 2 = (f.value a : ℝ)⁻¹ := eq_inv_of_mul_eq_one_left hsq
  have hinv : (2 : ℝ) ^ (2 * f.emin) ≤ Q ^ 2 ∧ Q ^ 2 ≤ 2 ^ (-(2 * f.emin)) := by
    rw [hQ2]
    refine ⟨(le_inv_comm₀ (two_zpow_pos _) hv).2 ?_, (inv_le_comm₀ hv (two_zpow_pos _)).2 ?_⟩
    · rw [← zpow_neg]
      exact hhigh.le
    · rw [← zpow_neg, neg_neg]
      exact hlow
  obtain ⟨hlow', hhigh'⟩ := root_range (f := f) hQ hinv.1 hinv.2
  rw [rsqrt_eq ha h]
  refine deliversRoot_of (fun y hy => ?_) (fun y hy => ?_) hlow' hhigh' hx rfl (exactRsqrt_bits h)
  · rw [← pow_le_pow_iff_left₀ (by exact_mod_cast hy) hQ two_ne_zero, ← mul_le_mul_iff_left₀ hv, hsq]
    exact_mod_cast Iff.rfl
  · rw [← pow_le_pow_iff_left₀ hQ (by exact_mod_cast hy) two_ne_zero, ← mul_le_mul_iff_left₀ hv, hsq]
    exact_mod_cast Iff.rfl

end

end

/-- Settles O44: every operation rounds an exact number, a scaled integer, a cut quotient or a cut root, once. -/
theorem fpResultsAreCorrectlyRounded : Obligations.FpResultsAreCorrectlyRounded := by
  intro f c a b z ha hb hz
  refine ⟨delivers_add ha hb, delivers_sub ha hb, delivers_mul ha hb, delivers_div ha hb, delivers_fma ha hb hz false,
    ?fmsub, delivers_recip ha, delivers_scaleB ha, fun n _ _ => delivers_fromInt f c n, fun _ => delivers_cvtSD,
    fun _ => delivers_cvtDS, fun h => ⟨sqrt_delivers ha h, rsqrt_delivers ha h, rsqrt_eq ha h true⟩, logB_spec ha,
    rint_spec ha⟩
  case fmsub =>
    rw [sub_eq_add_neg]
    exact delivers_fma ha hb hz true

end Sys2Proof.Machine
end
